-- ==== Sys2Proof/Word.lean ====
section
/-! DEFINITION. The plain words of the model: bytes, times, and fixed rows of like things. -/

namespace Sys2Proof

/-- One byte of a frame or telegram. -/
abbrev Byte := BitVec 8

/-- The cell of a fixed row at a place. -/
def cell {α : Type} {n : Nat} (v : Vector α n) (i : Fin n) : α := v[i.val]'i.isLt

/-- A fixed row with one cell replaced. -/
def putCell {α : Type} {n : Nat} (v : Vector α n) (i : Fin n) (x : α) : Vector α n := v.set i.val x i.isLt

/-- The row that holds `f i` at place `i`. -/
def rowOf {α : Type} {n : Nat} (f : Fin n → α) : Vector α n := Vector.ofFn f

end Sys2Proof
end

