-- ==== Sys2Proof/Syntax.lean ====
section
/-! DEFINITION. The commands of the block: one constructor of `Instr` for each row of spec/opcode_table.json, and the types
of their operands. The table gives no fields; the operands are those the rules name. -/

namespace Sys2Proof

/-- The three desk ports (R168). -/
inductive Port | A | B | V
deriving DecidableEq, Repr

/-- The two cabs (R1). -/
inductive Cab | A | B
deriving DecidableEq, Repr

/-- The two tachometers (R19). -/
inductive Sensor | one | two
deriving DecidableEq, Repr

/-- The cab-relative directions (R1). -/
inductive Direction | neutral | forward | reverse
deriving DecidableEq, Repr

/-- The stations of the traction link (R70). -/
inductive Station | tu1 | tu2 | brk
deriving DecidableEq, Repr

/-- The unit states a station may report (R70). -/
inductive UnitState | ready | starting | limited | fault
deriving DecidableEq, Repr

/-- The last reply of a traction unit (R70). -/
structure TuReply where
  unit : UnitState
  effort : BitVec 16
  slip : Bool
  lineVoltage : Bool
deriving DecidableEq, Repr

/-- The last reply of the brake control unit (R70). -/
structure BrkReply where
  unit : UnitState
  brakeApplied : Bool
  brakeAvailable : Bool
deriving DecidableEq, Repr

/-- A station's reply that R74 judged good. -/
inductive StationReply
  | tu1 (r : TuReply)
  | tu2 (r : TuReply)
  | brk (r : BrkReply)
deriving DecidableEq, Repr

/-- How a reply window ends with a miss (R74): a complete reply that is judged bad, taken when it arrives; or none, or an
incomplete one, at the window's close. -/
inductive MissCause | bad | missing
deriving DecidableEq, Repr

/-- A miss (R74): the polled station, and how its window ended. -/
structure Miss where
  station : Station
  cause : MissCause
deriving DecidableEq, Repr

/-- The eight sounder channels (R96). -/
inductive Sounder | hornA | hornB | bellA | bellB | buzzA | buzzB | chime | hazard
deriving DecidableEq, Repr

/-- The instance slots: one for each sounder channel, and the test slot (R96). -/
inductive SlotId
  | sounder (c : Sounder)
  | test
deriving DecidableEq, Repr

/-- A result carried by a report telegram (R152, R187). -/
inductive ReportResult | setLocked | moving | refusedOccupied | refusedRoute | pointFault
deriving DecidableEq, Repr

/-- The parameter of a DEMAND frame, as carried (R185). -/
structure DemandFrame where
  lever : BitVec 8
  direction : BitVec 2
  handle : Bool
  horn : Bool
  bell : Bool
  sand : Bool
deriving DecidableEq, Repr

/-- A junction table entry as TABLE WRITE carries it (R145, R185). -/
structure EntryFrame where
  id : BitVec 12
  routes : BitVec 3
  override : Bool
  defaultRoute : BitVec 8
  points : BitVec 16
  clear : BitVec 8
deriving DecidableEq, Repr

/-- What TOUCH READ carries: a channel (R143), and whether the later part of its fields is asked for (log 23). -/
structure ChannelPart where
  channel : BitVec 8
  later : Bool
deriving DecidableEq, Repr

/-- How a drive frame arrives at the switch die (R110). -/
inductive DriveArrival | good | bad | lost
deriving DecidableEq, Repr

/-- What a status frame reports of one channel (R110, R185). -/
structure ChanStatus where
  on : Bool
  openLoad : Bool
  overload : Bool
  overtemp : Bool
  latched : Bool
deriving DecidableEq, Repr

/-- A status frame's contents (R110; its six zero bits by "Isolation link frames"). -/
structure StatusFrame where
  following : Bool
  uv : Bool
  zeros : BitVec 6
  echo : BitVec 4
  chans : Vector ChanStatus 12
deriving DecidableEq, Repr

/-- How the status frame of a slot arrives at ILINK (R115): as the switch die sent it; not at all or incomplete; with a wrong
check; or as some other frame whose check is correct. -/
inductive StatusArrival
  | asSent
  | missing
  | badCheck
  | other (f : StatusFrame)
deriving DecidableEq, Repr

/-- The select lines found low at the end of a reset (R169). -/
structure SelLow where
  a : Bool
  b : Bool
  v : Bool
deriving DecidableEq, Repr

/-- The levels of the hardwired lines: key on, emergency stop pressed, doors closed (DCL high), RESETn low. -/
structure Lines where
  keyA : Bool
  keyB : Bool
  emstopA : Bool
  emstopB : Bool
  dcl : Bool
  resetnLow : Bool
deriving DecidableEq, Repr

/-- The commands and events of the block, one constructor per row of the table, in the table's order. -/
inductive Instr
  | nop (p : Port)
  | getNotices (p : Port)
  | getStatus (p : Port) (group : BitVec 8)
  | demand (p : Port) (f : DemandFrame)
  | deskClaim (p : Port)
  | deskRelease (p : Port)
  | vigilReset (p : Port)
  | vacate (p : Port)
  | routeOverride (p : Port) (route : BitVec 8)
  | junctionRepeat (p : Port)
  | getJunction (p : Port) (index part : BitVec 8)
  | stopSet (p : Port)
  | stopCancel (p : Port)
  | getStopRecord (p : Port) (index part : BitVec 8)
  | touchRead (p : Port) (ask : ChannelPart)
  | diagSummary (p : Port)
  | diagChannel (p : Port) (channel : BitVec 8)
  | outputTest (p : Port) (channel : BitVec 8)
  | setLineLimit (p : Port) (value : BitVec 16)
  | setRunNumber (p : Port) (value : BitVec 16)
  | settingWrite (p : Port) (field : BitVec 8) (value : BitVec 16) (channel : BitVec 8)
  | settingRead (p : Port) (field channel : BitVec 8)
  | patternHeader (p : Port) (number count rep priority minRun : BitVec 8)
  | patternStep (p : Port) (number index : BitVec 8) (on : Bool) (duration : BitVec 8) (tone : BitVec 16)
  | tableWrite (p : Port) (e : EntryFrame)
  | tableDelete (p : Port) (id : BitVec 16)
  | tableRead (p : Port) (position part : BitVec 8)
  | tableSignature (p : Port)
  | planAppend (p : Port) (id : BitVec 16) (route : BitVec 8)
  | planClear (p : Port)
  | planRead (p : Port) (position : BitVec 8)
  | resetCause (p : Port)
  | unknownCommand (p : Port) (code : BitVec 8)
  | frameRejected (p : Port) (clocks : Nat) (byte0 : BitVec 8)
  | waitingForReleaseEnd (p : Port)
  | keyOff (c : Cab)
  | emstopPress (c : Cab)
  | emstopRelease (c : Cab)
  | dclOpen
  | dclClose
  | tachoPulse (i : Sensor) (bHigh : Bool)
  | windowEnd
  | slipRunOnExpiry
  | shaperPeriod
  | freshness300MsExpiry
  | freshness1000MsExpiry
  | claimWindowExpiry
  | tlinkCycleStart
  | stationReplyGood (r : StationReply)
  | stationMiss (m : Miss)
  | vigilActivityTimerExpiry
  | warnTimerExpiry
  | graceTimerExpiry
  | patternStepExpiry (slot : SlotId)
  | minimumRunReached (c : Sounder)
  | toneHalfPeriod
  | touchScanStart
  | touchMeasurement (k : Fin 16) (count : BitVec 12)
  | driveFrame (a : DriveArrival) (openLoad : BitVec 12)
  | switchDieSafe
  | currentLimitTrip (n : Fin 12)
  | retryExpiry (n : Fin 12)
  | overtempChange (n : Fin 12) (hot : Bool)
  | uvOnset
  | uvRecovery
  | statusSlotClose (a : StatusArrival)
  | requestBeacon (id : BitVec 16)
  | confirmBeacon (id : BitVec 16) (routeSet : BitVec 3) (locked occupied : Bool)
  | report (id : BitVec 16) (tram : BitVec 16) (seq : BitVec 3) (result : ReportResult) (routeSet : BitVec 8)
  | telegramDropped
  | loopPresenceLapse
  | reportTimerExpiry (id : BitVec 16)
  | coreSupplySample (low : Bool) (sel : SelLow)
  | supplyLowReset
  | powerOnReset (lines : Lines) (sel : SelLow)
  | resetnFall
  | pinLatchArmed
  | resetnRise (sel : SelLow)
  | batterySample (millivolts : Nat)
  | keyOn (c : Cab)
  | switchDiePowerUp
deriving DecidableEq, Repr

end Sys2Proof
end

