-- ==== Sys2Proof/Config.lean ====
section
/-! DEFINITION. The values the spec does not give and the model names, each with its log entry. None is a free value: every
result of a command has its value from a rule. -/

namespace Sys2Proof

/-- SHAPER's target after a reset (DESIGN CHOICE, log 6): the spec gives none. -/
abbrev Config.targetAtReset : Int := 0

/-- SHAPER's speed limit after a reset, in units of 0.1 km/h (DESIGN CHOICE, log 6): the spec gives none. -/
abbrev Config.limitAtReset : Nat := 500

/-- SHAPER's ceiling after a reset (DESIGN CHOICE, log 6): the spec gives none. -/
abbrev Config.ceilingAtReset : Nat := 0

/-- The levels of the lines in `State.reset` (DESIGN CHOICE, log 4): keys off, no emergency stop pressed, doors closed, RESETn
high. -/
abbrev Config.linesAtReset : Lines :=
  { keyA := false, keyB := false, emstopA := false, emstopB := false, dcl := true, resetnLow := false }

end Sys2Proof
end

