-- ==== Sys2Proof/Machine/State.lean ====
section
/-! DEFINITION. The state of the K24 as plain data: one record per block of the control die, the switch die, the line levels,
and the queue of waiting commands. Times are in ms of `State.now` (log 2, 37). -/

namespace Sys2Proof.Machine

/-- No command of this block stops it (INVENTORY, "Faults"): no constructor, so no step can fault. -/
inductive Fault
deriving DecidableEq, Repr

/-- The one refusal the host's interface asks for. -/
inductive Refusal
  /-- Raised only by a refused arm of `exec`, for a command without a meaning; no arm does so. Safe: the block stops. -/
  | notModelled (mnemonic : String)
deriving DecidableEq, Repr

/-- One thing for each desk port. -/
structure ByPort (α : Type) where
  a : α
  b : α
  v : α
deriving DecidableEq, Repr

/-! ### PORTS -/

/-- The statuses of a reply (section 13.1). -/
inductive Status | nothing | done | doneClamped | accepted | refused | frameRejected
deriving DecidableEq, Repr

/-- A reply frame: byte 0 the status, byte 1 the command code, bytes 2 to 6 the data; byte 7 is their CRC-8, computed (R171). -/
structure Reply where
  status : Status
  code : BitVec 8
  data : BitVec 40
deriving DecidableEq, Repr

/-- The shift state of a port (R168); the bytes received so far are held as their bits, first received first. -/
inductive ShiftState
  | idle
  | shifting (clocks : Nat) (bits : List Bool)
deriving DecidableEq, Repr

/-- The port record (R168); the notice set is held as its 20-bit mask (R176). -/
structure PortRec where
  shift : ShiftState
  waiting : Bool
  reply : Reply
  notices : BitVec 20
deriving DecidableEq, Repr

/-! ### AUTH -/

/-- The claimant fields (R1), present once demand seen is yes; button and handle fields are "pressed" and "held". -/
structure Claimant where
  lever : Int
  direction : Direction
  handle : Bool
  horn : Bool
  bell : Bool
  sand : Bool
  frameTime : Nat
deriving DecidableEq, Repr

/-- The authority record (R1). In CLAIMING, demand seen is whether the claimant fields are present. -/
inductive Auth
  | vacant
  | claiming (cab : Cab) (start : Nat) (claimant : Option Claimant)
  | held (cab : Cab) (direction : Direction)
  | lost (cab : Cab) (direction : Direction)
deriving DecidableEq, Repr

/-- Vehicle-relative direction (R4). -/
inductive VDir | none | plus | minus
deriving DecidableEq, Repr

/-! ### WHEEL -/

/-- A sensor record (R19). -/
structure SensorRec where
  count : Nat
  speed : Nat
  failed : Bool
  failRun : Nat
  recoverRun : Nat
deriving DecidableEq, Repr

/-- The adhesion state (R26). -/
inductive Adhesion | normal | slip | slide
deriving DecidableEq, Repr

/-- What WHEEL holds (R19 to R34). `runOn` is the time the slip run-on ends; `windowAt` the time the running window began. -/
structure WheelRec where
  s1 : SensorRec
  s2 : SensorRec
  v : Nat
  adhesion : Adhesion
  disagree : Nat
  agree : Nat
  runOn : Option Nat
  stationary : Bool
  emptyRun : Nat
  odometer : Nat
  remainder : Nat
  reverse : Nat
  rollback : Bool
  windowAt : Nat
deriving DecidableEq, Repr

/-! ### SHAPER -/

/-- The fields of the demand record present only while HELD (R35). -/
structure DemandBody where
  lever : Int
  handle : Bool
  horn : Bool
  bell : Bool
  sand : Bool
  takenAt : Nat
deriving DecidableEq, Repr

/-- The freshness stage (R35). -/
inductive Stage | fresh | coasting | staleBrake
deriving DecidableEq, Repr

/-- The emergency sources, in the order of R57. -/
inductive EmSource | lever | emstopA | emstopB | penalty | authLost | brakeLink | startup | loopDropped
deriving DecidableEq, Repr

/-- What SHAPER holds (R35, R40, R55, R57, R66). `sources` has one flag per `EmSource`, in order. -/
structure ShaperRec where
  demand : Option DemandBody
  stage : Stage
  zeroPass : Bool
  o : Int
  oPrev : Int
  t : Int
  vLim : Nat
  c : Nat
  overspeed : Bool
  holdingBrake : Bool
  sandReq : Bool
  trackReq : Bool
  doorReported : Bool
  mismatch : Nat
  sources : BitVec 8
  periodAt : Nat
deriving DecidableEq, Repr

/-! ### TLINK -/

/-- The record of a traction unit (R70). -/
structure TuRec where
  answering : Bool
  missRun : Nat
  last : Option TuReply
deriving DecidableEq, Repr

/-- The record of the brake control unit (R70). -/
structure BrkRec where
  answering : Bool
  missRun : Nat
  last : Option BrkReply
deriving DecidableEq, Repr

/-- What SHAPER hands TLINK at a period end (R52, R71). -/
structure HandOver where
  o : Int
  direction : VDir
  brake : Bool
  emergency : Bool
deriving DecidableEq, Repr

/-- A command frame to a traction unit (R72). -/
structure TuCommand where
  demand : Int
  direction : VDir
  brake : Bool
  emergency : Bool
  count : Nat
deriving DecidableEq, Repr

/-- A command frame to BRK (R73). -/
structure BrkCommand where
  demand : Nat
  brake : Bool
  emergency : Bool
deriving DecidableEq, Repr

/-- The poll whose reply window is open, with the frame that opened it (R71). -/
inductive Poll
  | tu1 (c : TuCommand)
  | tu2 (c : TuCommand)
  | brk (c : BrkCommand)
deriving DecidableEq, Repr

/-- An open poll, with the time it began (R71). Its reply window closes 2 ms later (R74; log 35). -/
structure PollRec where
  frame : Poll
  began : Nat
deriving DecidableEq, Repr

/-- What TLINK holds (R70, R71). `answered` is the model's own (log 53): the polls of the running cycle that their replies closed;
the window of such a poll runs on until it closes, and what arrives in it is discarded (R74). -/
structure TlinkRec where
  tu1 : TuRec
  tu2 : TuRec
  brk : BrkRec
  cycle : Nat
  cycleAt : Option Nat
  handOver : HandOver
  poll : Option PollRec
  answered : List PollRec
deriving DecidableEq, Repr

/-! ### VIGIL -/

/-- The vigilance states (R82). -/
inductive VigilState | idle | watch | warn | penalty
deriving DecidableEq, Repr

/-- The vigilance record (R82); `handle` is "held", `buzzer` is "placed". -/
structure VigilRec where
  state : VigilState
  lastActivity : Option Nat
  warnStart : Option Nat
  handle : Bool
  releaseTime : Option Nat
  leverRef : Int
  buzzer : Bool
deriving DecidableEq, Repr

/-! ### SOUND -/

/-- The classes of a pattern (R97). -/
inductive PatternClass | horn | bell | buzzer | chime | hazard | any
deriving DecidableEq, Repr

/-- A step of a pattern: duration in units of 10 ms, tone in Hz (R97). -/
structure PatStep where
  on : Bool
  duration : Nat
  tone : Nat
deriving DecidableEq, Repr

/-- An entry of the pattern table (R97); `rep` is absent for HOLD; `minRun` in units of 10 ms. -/
structure Pattern where
  cls : PatternClass
  count : Nat
  steps : Vector PatStep 8
  rep : Option Nat
  priority : Nat
  minRun : Nat
deriving DecidableEq, Repr

/-- The requesters an instance may name (R99). -/
inductive Requester | hornButton | bellButton | departureBell | vigil | junct | stopreq | emergency | outputTest
deriving DecidableEq, Repr

/-- The kind of an instance; held is present only for a level instance (R99). -/
inductive InstanceKind
  | level (held : Bool)
  | oneShot
deriving DecidableEq, Repr

/-- An instance (R99). Time left is `stepEnd - now`; run time is `now - started`, stopping at the minimum run (log 37). -/
structure Instance where
  pattern : Fin 8
  requester : Requester
  kind : InstanceKind
  step : Nat
  stepEnd : Nat
  repeatsLeft : Option Nat
  started : Nat
deriving DecidableEq, Repr

/-- A level request record: spent is present only while placed (R96). -/
inductive LevelReq
  | notPlaced
  | placed (spent : Bool)
deriving DecidableEq, Repr

/-- The request-set channels an output test reaches through the test slot (R96). -/
inductive SetChannel | stopsign | sand | trackbrake
deriving DecidableEq, Repr

/-- What SOUND holds (R96, R97, R104, R106). Slots and level requests stand in the order of the channels 0-5, 7, 10. `toneDue` is
the time of TONE's next change of level, in microseconds, present while TONE has a wave: the model's own (log 35). -/
structure SoundRec where
  patterns : Vector Pattern 8
  slots : Vector (Option Instance) 8
  level : Vector LevelReq 8
  testSlot : Option (SetChannel × Instance)
  departurePending : Bool
  openingAtRest : Bool
  toneHigh : Bool
  toneDue : Option Nat
deriving DecidableEq, Repr

/-! ### OUTBANK, ILINK and the switch die -/

/-- The fault kinds of a channel, in the order of R120. -/
inductive FaultKind | openLoad | overload | overtemp | latchedOff
deriving DecidableEq, Repr

/-- A port's sticky set: four fault flags per channel and the bank flags (R120). -/
structure Sticky where
  chans : Vector (BitVec 4) 12
  uv : Bool
  te : Bool
  linkLost : Bool
deriving DecidableEq, Repr

/-- A drive frame: the twelve drive bits and the count (R114). -/
structure DriveFrame where
  bits : BitVec 12
  count : BitVec 4
deriving DecidableEq, Repr

/-- What OUTBANK and ILINK hold (R114 to R121); drive bits, request sets and FAULT are derived (log 36). -/
structure OutbankRec where
  reported : Vector (Option Bool) 12
  live : Vector (BitVec 4) 12
  liveUv : Bool
  sticky : ByPort Sticky
  detail : ByPort (Vector (BitVec 4) 12)
  linkUp : Bool
  badRun : Nat
  goodRun : Nat
  driveCount : BitVec 4
  driveAt : Option Nat
  sent : Option DriveFrame
deriving DecidableEq, Repr

/-- The switch state of a channel (R111); RETRY_WAIT holds the time its retry expires. -/
inductive SwitchState
  | off
  | on
  | retryWait (expires : Nat)
  | latchedOff
deriving DecidableEq, Repr

/-- A channel of the switch die: switch state, times of its overloads, and whether its switch is hot (R111, R112). -/
structure SwitchChan where
  sw : SwitchState
  history : List Nat
  hot : Bool
deriving DecidableEq, Repr

/-- What the switch die holds (R110 to R113); `status` is the status frame it answered in the open slot. -/
structure DieRec where
  following : Bool
  recovery : Nat
  chans : Vector SwitchChan 12
  taken : BitVec 12
  echo : BitVec 4
  uv : Bool
  lastGood : Nat
  status : Option StatusFrame
deriving DecidableEq, Repr

/-! ### STOPREQ -/

/-- A touch channel's assignment (R126); it is settings field 9 (R182), its one home. -/
inductive Assignment
  | disabled
  | door (d : Nat)
  | wheelchair (d : Nat)
deriving DecidableEq, Repr

/-- The states of a touch channel (R126). -/
inductive TouchState | disabled | idle | pressing | pressed | releasing | stuck | faulted
deriving DecidableEq, Repr

/-- A touch channel record, less its assignment (R126). -/
structure TouchRec where
  state : TouchState
  count : Option Nat
  baseline : Option Nat
  saved : Option Nat
  confirm : Nat
  pressedAt : Option Nat
  voidRun : Nat
  rangeRun : Option Nat
deriving DecidableEq, Repr

/-- Who made the first request of a section (R135). -/
inductive StopSource | touch | driver | vehicle
deriving DecidableEq, Repr

/-- The fields present only while requested is yes (R135). -/
structure FirstRequest where
  source : StopSource
  mark : Nat
  time : Nat
deriving DecidableEq, Repr

/-- The current stop record (R135): requested is yes exactly when `first` is present; doors 1-6 are flags 0-5. -/
structure StopRec where
  first : Option FirstRequest
  doors : BitVec 6
  wheelchair : Bool
  presses : Nat
  chime : Bool
deriving DecidableEq, Repr

/-- An entry of the stop history ring (R141). -/
structure HistoryEntry where
  first : FirstRequest
  doors : BitVec 6
  wheelchair : Bool
  presses : Nat
  chime : Bool
  endMark : Nat
  endTime : Nat
deriving DecidableEq, Repr

/-- The section state (R136). -/
inductive Section | running | atStop
deriving DecidableEq, Repr

/-- What STOPREQ holds (R126, R135, R136, R141); the ring is newest first. -/
structure StopReqRec where
  chans : Vector TouchRec 16
  record : StopRec
  sect : Section
  history : List HistoryEntry
  scanAt : Option Nat
deriving DecidableEq, Repr

/-! ### JUNCT -/

/-- A junction table entry (R144). -/
structure Entry where
  id : Nat
  routes : Nat
  defaultRoute : Nat
  override : Bool
  points : Nat
  clear : Nat
deriving DecidableEq, Repr

/-- An entry of the route plan (R148). -/
structure PlanEntry where
  id : Nat
  route : Nat
deriving DecidableEq, Repr

/-- Where a transaction's route came from (R152). -/
inductive RouteSource | plan | override | default
deriving DecidableEq, Repr

/-- The states of a transaction (R152). -/
inductive TransState | requesting | set | refused | wrongRoute | unconfirmed
deriving DecidableEq, Repr

/-- A transaction (R152). -/
structure Transaction where
  id : Nat
  route : Nat
  source : RouteSource
  seq : BitVec 3
  state : TransState
  tries : Nat
  timer : Option Nat
  requestMark : Nat
  cautionMark : Nat
  clearMark : Nat
  last : Option ReportResult
deriving DecidableEq, Repr

/-- A telegram JUNCT hands to the loop modem (R151). -/
inductive Telegram
  | request (id route tram run : Nat) (direction : VDir) (seq : BitVec 3)
  | cancel (id tram run : Nat) (seq : BitVec 3)
deriving DecidableEq, Repr

/-- What JUNCT holds (R144, R148, R150 to R152, R161, R164); the list and the outbox are oldest first. -/
structure JunctRec where
  table : List Entry
  plan : List PlanEntry
  list : List Transaction
  pendingOverride : Option Nat
  seq : BitVec 3
  presence : Bool
  lapseAt : Option Nat
  overflow : Bool
  outbox : List Telegram
deriving DecidableEq, Repr

/-! ### SUPPLY and SETTINGS -/

/-- The kinds of reset (R180). -/
inductive ResetKind | powerOn | pin | supplyLow
deriving DecidableEq, Repr

/-- The pin latch (R179). -/
inductive PinLatch | idle | timing | armed
deriving DecidableEq, Repr

/-- What SUPPLY holds (R178 to R181). -/
structure SupplyRec where
  lowRun : Nat
  coreAt : Nat
  latch : PinLatch
  causes : BitVec 3
  latest : ResetKind
  batteryLow : Bool
  batLow : Nat
  batHigh : Nat
  batAt : Nat
deriving DecidableEq, Repr

/-- The settings record (R182); `battery` is the level's code. -/
structure SettingsRec where
  tram : Nat
  run : Nat
  circumference : Nat
  vigilInterval : Nat
  handleGrace : Nat
  lineLimit : Nat
  cautionLead : Nat
  departureBell : Nat
  threshold : Nat
  touch : Vector Assignment 16
  battery : Nat
deriving DecidableEq, Repr

/-! ### The whole -/

/-- The state of the block. -/
structure State where
  pending : List Instr
  now : Nat
  epoch : Nat
  raised : BitVec 20
  held : Bool
  lines : Lines
  ports : ByPort PortRec
  auth : Auth
  wheel : WheelRec
  shaper : ShaperRec
  tlink : TlinkRec
  vigil : VigilRec
  sound : SoundRec
  outbank : OutbankRec
  die : DieRec
  stop : StopReqRec
  junct : JunctRec
  supply : SupplyRec
  settings : SettingsRec
deriving DecidableEq, Repr

/-! ### Values after reset -/

/-- The port record after a reset whose end found SEL low or high (R168). -/
def PortRec.reset (selLow : Bool) : PortRec :=
  { shift := .idle, waiting := selLow, reply := { status := .nothing, code := 0, data := 0 }, notices := 0 }

/-- R19. -/
def SensorRec.reset : SensorRec := { count := 0, speed := 0, failed := false, failRun := 0, recoverRun := 0 }

/-- R19, R26, R29, R31, R33, R34; the first window begins at `now` (R22). -/
def WheelRec.reset (now : Nat) : WheelRec :=
  { s1 := .reset, s2 := .reset, v := 0, adhesion := .normal, disagree := 0, agree := 0, runOn := none,
    stationary := true, emptyRun := 4, odometer := 0, remainder := 0, reverse := 0, rollback := false, windowAt := now }

/-- R35, R40, R51, R55, R57, R66; T, V_lim and C by log 6. O is -1000 under STARTUP while O_prev is 0 as R40 says (DESIGN
CHOICE, log 7). -/
def ShaperRec.reset (now : Nat) : ShaperRec :=
  { demand := none, stage := .coasting, zeroPass := false, o := -1000, oPrev := 0, t := Config.targetAtReset,
    vLim := Config.limitAtReset, c := Config.ceilingAtReset,
    overspeed := false, holdingBrake := true, sandReq := false, trackReq := false, doorReported := false, mismatch := 0,
    sources := 0x40, periodAt := now }

/-- R70, R71. -/
def TlinkRec.reset : TlinkRec :=
  { tu1 := { answering := false, missRun := 5, last := none }, tu2 := { answering := false, missRun := 5, last := none },
    brk := { answering := false, missRun := 5, last := none }, cycle := 0, cycleAt := none,
    handOver := { o := -1000, direction := .none, brake := true, emergency := true }, poll := none, answered := [] }

/-- R82. -/
def VigilRec.reset : VigilRec :=
  { state := .idle, lastActivity := none, warnStart := none, handle := true, releaseTime := none, leverRef := 0,
    buzzer := false }

/-- A default step not listed in R97: off, 10 ms, no tone. -/
def PatStep.blank : PatStep := { on := false, duration := 1, tone := 0 }

/-- The default pattern table (R97). -/
def Pattern.defaults : Vector Pattern 8 :=
  let on (d : Nat) (t : Nat := 0) : PatStep := { on := true, duration := d, tone := t }
  let off (d : Nat) : PatStep := { on := false, duration := d, tone := 0 }
  let b := PatStep.blank
  #v[{ cls := .horn, count := 1, steps := #v[on 30, b, b, b, b, b, b, b], rep := none, priority := 2, minRun := 30 },
    { cls := .bell, count := 2, steps := #v[on 8, off 17, b, b, b, b, b, b], rep := none, priority := 1, minRun := 8 },
    { cls := .bell, count := 2, steps := #v[on 8, off 17, b, b, b, b, b, b], rep := some 3, priority := 1, minRun := 0 },
    { cls := .buzzer, count := 2, steps := #v[on 50, off 50, b, b, b, b, b, b], rep := none, priority := 3, minRun := 0 },
    { cls := .buzzer, count := 2, steps := #v[on 20, off 20, b, b, b, b, b, b], rep := some 3, priority := 2, minRun := 0 },
    { cls := .chime, count := 2, steps := #v[on 25 660, on 40 520, b, b, b, b, b, b], rep := some 1, priority := 1,
      minRun := 0 },
    { cls := .hazard, count := 2, steps := #v[on 40, off 40, b, b, b, b, b, b], rep := none, priority := 0, minRun := 0 },
    { cls := .any, count := 1, steps := #v[on 50, b, b, b, b, b, b, b], rep := some 1, priority := 0, minRun := 0 }]

/-- R96 before the hazard request of the reset's end is placed. -/
def SoundRec.silent : SoundRec :=
  { patterns := Pattern.defaults, slots := Vector.replicate 8 none, level := Vector.replicate 8 .notPlaced, testSlot := none,
    departurePending := false, openingAtRest := false, toneHigh := false, toneDue := none }

/-- The instance of P6 that a reset's end starts on HAZARD (R96). -/
def Instance.hazardAt (now : Nat) : Instance :=
  { pattern := 6, requester := .emergency, kind := .level true, step := 0, stepEnd := now + 400, repeatsLeft := none,
    started := now }

/-- R96: HAZARD runs P6 from the reset's end. -/
def SoundRec.reset (now : Nat) : SoundRec :=
  { SoundRec.silent with
    slots := putCell SoundRec.silent.slots 7 (some (Instance.hazardAt now))
    level := putCell SoundRec.silent.level 7 (.placed false) }

/-- R120. -/
def Sticky.reset : Sticky := { chans := Vector.replicate 12 0, uv := true, te := true, linkLost := true }

/-- R114, R116, R117, R120. -/
def OutbankRec.reset : OutbankRec :=
  { reported := Vector.replicate 12 none, live := Vector.replicate 12 0, liveUv := false,
    sticky := { a := .reset, b := .reset, v := .reset },
    detail := { a := Vector.replicate 12 0, b := Vector.replicate 12 0, v := Vector.replicate 12 0 },
    linkUp := false, badRun := 16, goodRun := 0, driveCount := 0, driveAt := none, sent := none }

/-- The switch die at its own power-up (R110; log 5, 29). -/
def DieRec.powerUp : DieRec :=
  { following := false, recovery := 0, chans := Vector.replicate 12 { sw := .off, history := [], hot := false }, taken := 0,
    echo := 0, uv := false, lastGood := 0, status := none }

/-- R126, for a channel whose assignment is not DISABLED (`true`) or is (`false`). -/
def TouchRec.reset (assigned : Bool) : TouchRec :=
  { state := if assigned then .idle else .disabled, count := none, baseline := none, saved := none, confirm := 0,
    pressedAt := none, voidRun := 0, rangeRun := none }

/-- R135. -/
def StopRec.empty : StopRec := { first := none, doors := 0, wheelchair := false, presses := 0, chime := false }

/-- R126, R135, R136, R141; the section state follows DCL's level at the reset's end. -/
def StopReqRec.reset (dclHigh : Bool) : StopReqRec :=
  { chans := rowOf fun k => TouchRec.reset (decide (k.val < 12)), record := .empty,
    sect := if dclHigh then .running else .atStop, history := [], scanAt := none }

/-- R144, R148, R150 to R152, R161, R164. -/
def JunctRec.reset : JunctRec :=
  { table := [], plan := [], list := [], pendingOverride := none, seq := 0, presence := false, lapseAt := none,
    overflow := false, outbox := [] }

/-- R178 to R181, with the cause record the reset leaves (R180). -/
def SupplyRec.reset (now : Nat) (causes : BitVec 3) (latest : ResetKind) : SupplyRec :=
  { lowRun := 0, coreAt := now, latch := .idle, causes := causes, latest := latest, batteryLow := false, batLow := 0,
    batHigh := 0, batAt := now }

/-- The default assignment of a touch channel (R126, R182). -/
def Assignment.default (k : Fin 16) : Assignment := if k.val < 12 then .door (k.val / 2 + 1) else .disabled

/-- The defaults of R182. -/
def SettingsRec.reset : SettingsRec :=
  { tram := 1, run := 0, circumference := 2010, vigilInterval := 30, handleGrace := 20, lineLimit := 500, cautionLead := 60,
    departureBell := 1, threshold := 60, touch := rowOf Assignment.default, battery := 1 }

/-- The machine right after a POWER_ON reset of the control die and the power-up of the switch die, with the lines at the
levels of log 4. -/
def State.reset : State :=
  { pending := [], now := 0, epoch := 0, raised := 0, held := false,
    lines := Config.linesAtReset,
    ports := { a := .reset false, b := .reset false, v := .reset false }, auth := .vacant, wheel := .reset 0,
    shaper := .reset 0, tlink := .reset, vigil := .reset, sound := .reset 0, outbank := .reset, die := .powerUp,
    stop := .reset true, junct := .reset, supply := .reset 0 1 .powerOn, settings := .reset }

end Sys2Proof.Machine
end

