-- ==== Sys2Proof/Machine/Checks.lean ====
section
/-! DEFINITION. The two checks of every frame and telegram (R186). -/

namespace Sys2Proof.Machine

/-- The register shifted left `n` places, the polynomial added after each shift that shifts a 1 out (R186). -/
def crcShift {w : Nat} (poly : BitVec w) : Nat → BitVec w → BitVec w
  | 0, r => r
  | n + 1, r => crcShift poly n (if r.msb then (r <<< 1) ^^^ poly else r <<< 1)

/-- One byte taken into the register: added into its top 8 bits, then eight shifts (R186). -/
def crcByte {w : Nat} (poly : BitVec w) (r : BitVec w) (b : Byte) : BitVec w :=
  crcShift poly 8 (r ^^^ (b.setWidth w <<< (w - 8)))

/-- CRC-8: polynomial 0x2F, initial value 0xFF (R186). -/
def crc8 (bytes : List Byte) : BitVec 8 := bytes.foldl (crcByte 0x2F#8) 0xFF#8

/-- CRC-16: polynomial 0x1021, initial value 0xFFFF (R186). -/
def crc16 (bytes : List Byte) : BitVec 16 := bytes.foldl (crcByte 0x1021#16) 0xFFFF#16

/-- A number of 16 bits as its two bytes, high byte first (chapter "Frame and telegram formats"). -/
def bytesOf16 (x : BitVec 16) : List Byte := [x.extractLsb' 8 8, x.extractLsb' 0 8]

/-- The 16-bit number of two bytes, high byte first. -/
def word16 (hi lo : Byte) : BitVec 16 := hi ++ lo

end Sys2Proof.Machine
end

