-- ==== Sys2Proof/WellFormed.lean ====
section
/-! DEFINITION. Well-formed commands: the operands lie in the ranges that the rules give the event. The types carry the rest. -/

namespace Sys2Proof

/-- The 32 codes of the catalogue (R172). -/
def commandCodes : List (BitVec 8) :=
  [0x00, 0x01, 0x02, 0x10, 0x11, 0x12, 0x13, 0x14, 0x20, 0x21, 0x23, 0x30, 0x31, 0x32, 0x33, 0x40, 0x41, 0x42, 0x50, 0x51, 0x52,
    0x53, 0x54, 0x55, 0x60, 0x61, 0x62, 0x63, 0x64, 0x65, 0x66, 0x70]

/-- A junction id is 1 to 4095 (R187). -/
def idOk (id : BitVec 16) : Bool := decide (1 ≤ id.toNat) && decide (id.toNat ≤ 4095)

/-- A station's reply lies within its values: an effort of at most 1000 (R74). -/
def replyOk : StationReply → Bool
  | .tu1 r => decide (r.effort.toNat ≤ 1000)
  | .tu2 r => decide (r.effort.toNat ≤ 1000)
  | .brk _ => true

/-- The operands of a command are within the ranges of its event. Parameters of a desk frame are any bits: R185 has them read
whole and the owning rule judges them. -/
def wellFormed : Instr → Bool
  | .unknownCommand _ code => !(commandCodes.contains code)
  | .frameRejected _ clocks _ => decide (clocks ≤ 255)
  | .stationReplyGood r => replyOk r
  | .requestBeacon id => idOk id
  | .confirmBeacon id routeSet _ _ => idOk id && decide (routeSet.toNat ≤ 4)
  | .report id _ _ _ routeSet => idOk id && decide (routeSet.toNat ≤ 4)
  | .reportTimerExpiry id => idOk id
  | _ => true

end Sys2Proof
end

