-- ==== Sys2Proof/Decode.lean ====
section
/-! DEFINITION. What the lines carry: desk command frames read into commands (R170 to R172, R185) and written from them. The
opcode table gives no bits, so `decodeTableWord` reads none (log 3). -/

namespace Sys2Proof

open Sys2Proof.Machine (word16 bytesOf16 crc8)

/-- The command a word of the opcode table spells: the table gives no row any bits (log 3). -/
def decodeTableWord (_nbits _w : Nat) : Option Instr := none

/-- The six parameter bytes of a command frame, bytes 1 to 6 (section 13.1). -/
structure Params where
  b1 : Byte
  b2 : Byte
  b3 : Byte
  b4 : Byte
  b5 : Byte
  b6 : Byte
deriving DecidableEq, Repr

/-- The DEMAND parameter (section "DEMAND"). -/
def Params.demand (q : Params) : DemandFrame :=
  { lever := q.b1, direction := q.b2.extractLsb' 0 2, handle := q.b2.getLsbD 2, horn := q.b2.getLsbD 3, bell := q.b2.getLsbD 4
    sand := q.b2.getLsbD 5 }

/-- The junction table entry of a TABLE WRITE ("Junction table entry"). -/
def Params.entry (q : Params) : EntryFrame :=
  let w := word16 q.b1 q.b2
  { id := w.extractLsb' 4 12, routes := w.extractLsb' 1 3, override := w.getLsbD 0, defaultRoute := q.b3
    points := word16 q.b4 q.b5, clear := q.b6 }

/-- The command of a good frame (R171, R172, R185): parameter bits that a layout does not use are ignored. -/
def decodeCommand (p : Port) (code : Byte) (q : Params) : Instr :=
  match code.toNat with
  | 0x00 => .nop p
  | 0x01 => .getNotices p
  | 0x02 => .getStatus p q.b1
  | 0x10 => .demand p q.demand
  | 0x11 => .deskClaim p
  | 0x12 => .deskRelease p
  | 0x13 => .vigilReset p
  | 0x14 => .vacate p
  | 0x20 => .routeOverride p q.b1
  | 0x21 => .junctionRepeat p
  | 0x23 => .getJunction p q.b1 q.b2
  | 0x30 => .stopSet p
  | 0x31 => .stopCancel p
  | 0x32 => .getStopRecord p q.b1 q.b2
  | 0x33 => .touchRead p { channel := q.b1, later := q.b2.getLsbD 0 }
  | 0x40 => .diagSummary p
  | 0x41 => .diagChannel p q.b1
  | 0x42 => .outputTest p q.b1
  | 0x50 => .setLineLimit p (word16 q.b1 q.b2)
  | 0x51 => .setRunNumber p (word16 q.b1 q.b2)
  | 0x52 => .settingWrite p q.b1 (word16 q.b2 q.b3) q.b4
  | 0x53 => .settingRead p q.b1 q.b2
  | 0x54 => .patternHeader p q.b1 q.b2 q.b3 q.b4 q.b5
  | 0x55 => .patternStep p q.b1 q.b2 (q.b3.getLsbD 0) q.b4 (word16 q.b5 q.b6)
  | 0x60 => .tableWrite p q.entry
  | 0x61 => .tableDelete p (word16 q.b1 q.b2)
  | 0x62 => .tableRead p q.b1 q.b2
  | 0x63 => .tableSignature p
  | 0x64 => .planAppend p (word16 q.b1 q.b2) q.b3
  | 0x65 => .planClear p
  | 0x66 => .planRead p q.b1
  | 0x70 => .resetCause p
  | _ => .unknownCommand p code

/-- The eight bytes of a closed frame, judged (R170): the command they carry when the check is right, else a rejected frame with
byte 0 as received; fewer or more whole bytes are a frame of that many clocks. -/
def decodeFrame (p : Port) (bytes : List Byte) : Instr :=
  match bytes with
  | [c, b1, b2, b3, b4, b5, b6, k] =>
    if k = crc8 [c, b1, b2, b3, b4, b5, b6] then decodeCommand p c { b1 := b1, b2 := b2, b3 := b3, b4 := b4, b5 := b5, b6 := b6 }
    else .frameRejected p 64 c
  | other => .frameRejected p (min 255 (8 * other.length)) 0

/-! ### The encoder -/

/-- No parameter: all six bytes 0. -/
def Params.none : Params := { b1 := 0, b2 := 0, b3 := 0, b4 := 0, b5 := 0, b6 := 0 }

/-- One parameter byte. -/
def Params.one (x : Byte) : Params := { Params.none with b1 := x }

/-- Two parameter bytes. -/
def Params.two (x y : Byte) : Params := { Params.none with b1 := x, b2 := y }

/-- The high byte of a number of two bytes. -/
def hiByte (x : BitVec 16) : Byte := x.extractLsb' 8 8

/-- The low byte of a number of two bytes. -/
def loByte (x : BitVec 16) : Byte := x.extractLsb' 0 8

/-- A two-byte parameter. -/
def Params.word (x : BitVec 16) : Params := Params.two (hiByte x) (loByte x)

/-- The second byte of a DEMAND parameter. -/
def DemandFrame.flagByte (f : DemandFrame) : Byte :=
  ((((0#2 ++ BitVec.ofBool f.sand) ++ BitVec.ofBool f.bell) ++ BitVec.ofBool f.horn) ++ BitVec.ofBool f.handle) ++ f.direction

/-- The first two bytes of an entry as one number. -/
def EntryFrame.head (e : EntryFrame) : BitVec 16 := (e.id ++ e.routes) ++ BitVec.ofBool e.override

/-- The port, code and parameter of a desk command; none for an event that no frame carries. -/
def encodeCommand : Instr → Option (Port × Byte × Params)
  | .nop p => some (p, 0x00, .none)
  | .getNotices p => some (p, 0x01, .none)
  | .getStatus p g => some (p, 0x02, .one g)
  | .demand p f => some (p, 0x10, .two f.lever f.flagByte)
  | .deskClaim p => some (p, 0x11, .none)
  | .deskRelease p => some (p, 0x12, .none)
  | .vigilReset p => some (p, 0x13, .none)
  | .vacate p => some (p, 0x14, .none)
  | .routeOverride p r => some (p, 0x20, .one r)
  | .junctionRepeat p => some (p, 0x21, .none)
  | .getJunction p i n => some (p, 0x23, .two i n)
  | .stopSet p => some (p, 0x30, .none)
  | .stopCancel p => some (p, 0x31, .none)
  | .getStopRecord p i n => some (p, 0x32, .two i n)
  | .touchRead p x => some (p, 0x33, .two x.channel ((BitVec.ofBool x.later).setWidth 8))
  | .diagSummary p => some (p, 0x40, .none)
  | .diagChannel p c => some (p, 0x41, .one c)
  | .outputTest p c => some (p, 0x42, .one c)
  | .setLineLimit p v => some (p, 0x50, .word v)
  | .setRunNumber p v => some (p, 0x51, .word v)
  | .settingWrite p f v c => some (p, 0x52, { Params.none with b1 := f, b2 := hiByte v, b3 := loByte v, b4 := c })
  | .settingRead p f c => some (p, 0x53, .two f c)
  | .patternHeader p n c r q m => some (p, 0x54, { Params.none with b1 := n, b2 := c, b3 := r, b4 := q, b5 := m })
  | .patternStep p n i on d t =>
    some (p, 0x55, { b1 := n, b2 := i, b3 := (BitVec.ofBool on).setWidth 8, b4 := d, b5 := hiByte t, b6 := loByte t })
  | .tableWrite p e =>
    some (p, 0x60,
      { b1 := hiByte e.head, b2 := loByte e.head, b3 := e.defaultRoute, b4 := hiByte e.points, b5 := loByte e.points
        b6 := e.clear })
  | .tableDelete p i => some (p, 0x61, .word i)
  | .tableRead p i n => some (p, 0x62, .two i n)
  | .tableSignature p => some (p, 0x63, .none)
  | .planAppend p i r => some (p, 0x64, { Params.none with b1 := hiByte i, b2 := loByte i, b3 := r })
  | .planClear p => some (p, 0x65, .none)
  | .planRead p i => some (p, 0x66, .one i)
  | .resetCause p => some (p, 0x70, .none)
  | .unknownCommand p c => some (p, c, .none)
  | .frameRejected _ _ _ => none
  | .waitingForReleaseEnd _ => none
  | .keyOff _ => none
  | .emstopPress _ => none
  | .emstopRelease _ => none
  | .dclOpen => none
  | .dclClose => none
  | .tachoPulse _ _ => none
  | .windowEnd => none
  | .slipRunOnExpiry => none
  | .shaperPeriod => none
  | .freshness300MsExpiry => none
  | .freshness1000MsExpiry => none
  | .claimWindowExpiry => none
  | .tlinkCycleStart => none
  | .stationReplyGood _ => none
  | .stationMiss _ => none
  | .vigilActivityTimerExpiry => none
  | .warnTimerExpiry => none
  | .graceTimerExpiry => none
  | .patternStepExpiry _ => none
  | .minimumRunReached _ => none
  | .toneHalfPeriod => none
  | .touchScanStart => none
  | .touchMeasurement _ _ => none
  | .driveFrame _ _ => none
  | .switchDieSafe => none
  | .currentLimitTrip _ => none
  | .retryExpiry _ => none
  | .overtempChange _ _ => none
  | .uvOnset => none
  | .uvRecovery => none
  | .statusSlotClose _ => none
  | .requestBeacon _ => none
  | .confirmBeacon _ _ _ _ => none
  | .report _ _ _ _ _ => none
  | .telegramDropped => none
  | .loopPresenceLapse => none
  | .reportTimerExpiry _ => none
  | .coreSupplySample _ _ => none
  | .supplyLowReset => none
  | .powerOnReset _ _ => none
  | .resetnFall => none
  | .pinLatchArmed => none
  | .resetnRise _ => none
  | .batterySample _ => none
  | .keyOn _ => none
  | .switchDiePowerUp => none

/-- Bytes 0 to 6 of a command frame. -/
def frameBody (code : Byte) (q : Params) : List Byte := [code, q.b1, q.b2, q.b3, q.b4, q.b5, q.b6]

/-- The eight bytes of a desk command's frame with its check (R170), and the port it goes to. -/
def encodeFrame (i : Instr) : Option (Port × List Byte) :=
  (encodeCommand i).map fun x => (x.1, frameBody x.2.1 x.2.2 ++ [crc8 (frameBody x.2.1 x.2.2)])

end Sys2Proof
end

