-- ==== Sys2Proof/Machine/Replies.lean ====
section
/-! DEFINITION. Replies: their statuses and reasons, the packing of their data, and the eight bytes of a frame (R171, R185). -/

namespace Sys2Proof.Machine

/-- The refusal reasons (section 13.1). -/
inductive Reason
  | notPermitted | deskBusy | noKey | already | moving | notVacant | notReady | full | unknownJunction | badRoute | conflict
  | inUse | notOnLoop | outOfRange | unknownCommand
deriving DecidableEq, Repr

/-- The reason's code (section 13.1). -/
def Reason.code : Reason → BitVec 8
  | .notPermitted => 1 | .deskBusy => 2 | .noKey => 3 | .already => 4 | .moving => 5 | .notVacant => 6 | .notReady => 7
  | .full => 8 | .unknownJunction => 9 | .badRoute => 10 | .conflict => 11 | .inUse => 12 | .notOnLoop => 13
  | .outOfRange => 14 | .unknownCommand => 15

/-- The status's code (section 13.1). -/
def Status.code : Status → BitVec 8
  | .nothing => 0 | .done => 1 | .doneClamped => 2 | .accepted => 3 | .refused => 4 | .frameRejected => 5

/-- A reply less its command code: what an owning rule decides (R171). -/
structure Answer where
  status : Status
  data : BitVec 40
deriving DecidableEq, Repr

/-- DONE with data. -/
def Answer.done (data : BitVec 40) : Answer := { status := .done, data := data }

/-- DONE, or DONE_CLAMPED when a value was clamped, with data. -/
def Answer.taken (clamped : Bool) (data : BitVec 40) : Answer :=
  { status := if clamped then .doneClamped else .done, data := data }

/-- ACCEPTED. -/
def Answer.accepted : Answer := { status := .accepted, data := 0 }

/-- REFUSED: byte 2 is the reason, bytes 3 to 6 are 0 (section 13.1). -/
def Answer.refused (r : Reason) : Answer := { status := .refused, data := r.code ++ 0#32 }

/-- A field of a reply: its width in bits and its value (R185). -/
abbrev Field := Nat × Nat

/-- A one-bit field: 1 for yes, set or on (R185). -/
def bitField (b : Bool) : Field := (1, b.toNat)

/-- A signed field, two's complement (R185). -/
def signedField (w : Nat) (x : Int) : Field := (w, (x % (2 ^ w : Nat)).toNat)

/-- A field that may be absent, one whole field: a presence bit followed by the value, 0 when absent (R185, log 21). -/
def optField (w : Nat) : Option Nat → Field
  | none => (w + 1, 0)
  | some x => (w + 1, 2 ^ w + x % 2 ^ w)

/-- A set of n kinds held as flags, its first kind sent first (R185, log 25). -/
def flagFields {n : Nat} (x : BitVec n) : List Field := (List.range n).map fun i => bitField (x.getLsbD i)

/-- The whole fields that fit in `room` bits, packed downward from the top (R185). -/
def packInto : Nat → List Field → Nat
  | _, [] => 0
  | room, (w, x) :: fs => if w ≤ room then x % 2 ^ w * 2 ^ (room - w) + packInto (room - w) fs else 0

/-- The fields left over when as many whole fields as fit in `room` bits are taken (R185). -/
def leftOver : Nat → List Field → List Field
  | _, [] => []
  | room, (w, x) :: fs => if w ≤ room then leftOver (room - w) fs else (w, x) :: fs

/-- The bits unused when as many whole fields as fit in `room` bits are taken. -/
def roomLeft : Nat → List Field → Nat
  | room, [] => room
  | room, (w, _) :: fs => if w ≤ room then roomLeft (room - w) fs else room

/-- The 40 data bits packed from bit 7 of byte 2 downward; the bits after the last whole field that fits are 0 (R185). -/
def packData (fs : List Field) : BitVec 40 := BitVec.ofNat 40 (packInto 40 fs)

/-- The fields that stand first in part `n`, when each part leaves `room` bits for fields (R185). -/
def partStart (room : Nat) : Nat → List Field → List Field
  | 0, fs => fs
  | n + 1, fs => partStart room n (leftOver room fs)

/-- The data of part `n`: the identifier, then the next whole fields that fit; none beyond the last part that holds a field
(R185). -/
def partData (ident : List Field) (fs : List Field) (n : Nat) : Option (BitVec 40) :=
  let rest := partStart (roomLeft 40 ident) n fs
  if rest.isEmpty then none else some (packData (ident ++ rest))

/-- The answer to a read of part `n`: DONE with the part, or OUT_OF_RANGE beyond the last (R185). -/
def Answer.part (ident : List Field) (fs : List Field) (n : Nat) : Answer :=
  match partData ident fs n with
  | none => .refused .outOfRange
  | some d => .done d

/-- Bytes 0 to 6 of a reply frame (section 13.1). -/
def Reply.body (r : Reply) : List Byte :=
  [r.status.code, r.code, r.data.extractLsb' 32 8, r.data.extractLsb' 24 8, r.data.extractLsb' 16 8, r.data.extractLsb' 8 8,
    r.data.extractLsb' 0 8]

/-- The eight bytes of a reply frame, closed by the CRC-8 of bytes 0 to 6 (R171). -/
def Reply.bytes (r : Reply) : List Byte := r.body ++ [crc8 r.body]

end Sys2Proof.Machine
end

