-- ==== Sys2Proof/Machine/Flags.lean ====
section
/-! DEFINITION. Sets of named kinds held as flags (one bit per kind, in the spec's order): the emergency sources, the notices,
the fault kinds, the reset causes, the doors. -/

namespace Sys2Proof.Machine

/-- The set with kind `i` added. -/
def addFlag {n : Nat} (x : BitVec n) (i : Nat) : BitVec n := x ||| BitVec.twoPow n i

/-- The set with kind `i` removed. -/
def dropFlag {n : Nat} (x : BitVec n) (i : Nat) : BitVec n := x &&& ~~~(BitVec.twoPow n i)

/-- Whether kind `i` is in the set. -/
def hasFlag {n : Nat} (x : BitVec n) (i : Nat) : Bool := x.getLsbD i

/-- The place of a source among the eight flags (R57). -/
def EmSource.idx : EmSource → Nat
  | .lever => 0 | .emstopA => 1 | .emstopB => 2 | .penalty => 3
  | .authLost => 4 | .brakeLink => 5 | .startup => 6 | .loopDropped => 7

/-- The source of a cab's emergency-stop line (R61). -/
def EmSource.emstop : Cab → EmSource
  | .A => .emstopA
  | .B => .emstopB

/-- The place of a fault kind among a channel's four flags (R120). -/
def FaultKind.idx : FaultKind → Nat
  | .openLoad => 0 | .overload => 1 | .overtemp => 2 | .latchedOff => 3

/-- The place of a reset kind among the three flags (R180). -/
def ResetKind.idx : ResetKind → Nat
  | .powerOn => 0 | .pin => 1 | .supplyLow => 2

/-- The notice kinds, in the order of R174. -/
inductive Notice
  | authChanged | claimLapsed | demandStale | vigilWarn | vigilPenalty | emergencyChanged | rollback | doorOpenMoving
  | adhesion | sensorChanged | stationChanged | stopChanged | touchFault | junctionChanged | junctionUnknown | planMismatch
  | overrideIgnored | junctionOverflow | outputFault | batteryLow
deriving DecidableEq, Repr

/-- The notice's bit in the mask ("Notice mask"). -/
def Notice.idx : Notice → Nat
  | .authChanged => 0 | .claimLapsed => 1 | .demandStale => 2 | .vigilWarn => 3 | .vigilPenalty => 4
  | .emergencyChanged => 5 | .rollback => 6 | .doorOpenMoving => 7 | .adhesion => 8 | .sensorChanged => 9
  | .stationChanged => 10 | .stopChanged => 11 | .touchFault => 12 | .junctionChanged => 13 | .junctionUnknown => 14
  | .planMismatch => 15 | .overrideIgnored => 16 | .junctionOverflow => 17 | .outputFault => 18 | .batteryLow => 19

/-- The notices of R174 delivered to A, B and V: AUTH_CHANGED, VIGIL_PENALTY, EMERGENCY_CHANGED, BATTERY_LOW. -/
def Notice.toAllMask : BitVec 20 := 0x80031

/-- The notices of R174 delivered to the holder: those of "holder, V" and OVERRIDE_IGNORED. -/
def Notice.toHolderMask : BitVec 20 := 0x3EFCC

/-- The notices of R174 delivered to port V besides those to all: those of "holder, V" and TOUCH_FAULT. -/
def Notice.toVehicleMask : BitVec 20 := 0x2FFCC

end Sys2Proof.Machine
end

