-- ==== Sys2Proof/Machine/Ops.lean ====
section
/-! DEFINITION. The operations every block shares: the clock, the port records, what is derived from the authority record, and
the raising and delivery of notices. -/

namespace Sys2Proof.Machine

/-! ### Ports -/

/-- The thing of one port. -/
def ByPort.get {α : Type} (x : ByPort α) : Port → α
  | .A => x.a
  | .B => x.b
  | .V => x.v

/-- The things of the ports with one port's replaced. -/
def ByPort.put {α : Type} (x : ByPort α) (p : Port) (y : α) : ByPort α :=
  { a := if p = .A then y else x.a, b := if p = .B then y else x.b, v := if p = .V then y else x.v }

/-- The same change made for every port. -/
def ByPort.map {α β : Type} (f : α → β) (x : ByPort α) : ByPort β := { a := f x.a, b := f x.b, v := f x.v }

/-- The port of a cab's desk. -/
def portOf : Cab → Port
  | .A => .A
  | .B => .B

/-- The cab of a desk port; Port V has none. -/
def cabOf : Port → Option Cab
  | .A => some .A
  | .B => some .B
  | .V => none

/-- The other cab. -/
def otherEnd : Cab → Cab
  | .A => .B
  | .B => .A

/-! ### The clock (log 2) -/

/-- The clock carried to time `t`, if it has not passed it: an expiry or a periodic event happens no earlier than it is due. -/
def State.reach (t : Nat) (s : State) : State := { s with now := max s.now t }

/-- STOPREQ's time: ms from the end of the latest control-die reset (R126). -/
def State.stopTime (s : State) : Nat := s.now - s.epoch

/-- A control-die event: it happens only while the die is not held in reset (R178, log 11). -/
def State.running (s : State) (f : State → State) : State := if s.held then s else f s

/-! ### Lines -/

/-- Whether a cab's key is on. -/
def keyLevel (l : Lines) : Cab → Bool
  | .A => l.keyA
  | .B => l.keyB

/-- A cab's key line at a new level. -/
def setKey (l : Lines) (c : Cab) (on : Bool) : Lines :=
  { l with keyA := if c = .A then on else l.keyA, keyB := if c = .B then on else l.keyB }

/-- Whether a cab's emergency stop is pressed. -/
def emstopLevel (l : Lines) : Cab → Bool
  | .A => l.emstopA
  | .B => l.emstopB

/-- A cab's emergency-stop line at a new level. -/
def setEmstop (l : Lines) (c : Cab) (pressed : Bool) : Lines :=
  { l with emstopA := if c = .A then pressed else l.emstopA, emstopB := if c = .B then pressed else l.emstopB }

/-! ### Derived from the authority record -/

/-- The cab field (R1). -/
def Auth.cab : Auth → Option Cab
  | .vacant => none
  | .claiming c _ _ => some c
  | .held c _ => some c
  | .lost c _ => some c

/-- The direction field: NEUTRAL in VACANT and CLAIMING (R1). -/
def Auth.direction : Auth → Direction
  | .vacant => .neutral
  | .claiming _ _ _ => .neutral
  | .held _ d => d
  | .lost _ d => d

/-- Whether the state is HELD. -/
def Auth.isHeld : Auth → Bool
  | .held _ _ => true
  | _ => false

/-- Whether the state is VACANT. -/
def Auth.isVacant : Auth → Bool
  | .vacant => true
  | _ => false

/-- The table of R4 for a cab and a cab-relative direction. -/
def vdirOf : Cab → Direction → VDir
  | _, .neutral => .none
  | .A, .forward => .plus
  | .A, .reverse => .minus
  | .B, .forward => .minus
  | .B, .reverse => .plus

/-- The vehicle-relative direction (R4): none in VACANT and CLAIMING. -/
def Auth.vdir : Auth → VDir
  | .held c d => vdirOf c d
  | .lost c d => vdirOf c d
  | _ => .none

/-- The leading end (R4): none in VACANT and CLAIMING. -/
def Auth.leading : Auth → Option Cab
  | .held c d => some (if d = .reverse then otherEnd c else c)
  | .lost c d => some (if d = .reverse then otherEnd c else c)
  | _ => none

/-- The holder: the port of the cab whose authority is HELD (R174). -/
def Auth.holder : Auth → Option Port
  | .held c _ => some (portOf c)
  | _ => none

/-- The standings (R3). -/
inductive Standing | driving | claiming | watching | vehicle
deriving DecidableEq, Repr

/-- The standing of a port (R3). -/
def Auth.standing (a : Auth) (p : Port) : Standing :=
  match cabOf p with
  | none => .vehicle
  | some x =>
    match a with
    | .claiming c _ _ => if c = x then .claiming else .watching
    | .held c _ => if c = x then .driving else .watching
    | _ => .watching

/-! ### Notices -/

/-- A notice raised in the running step; it is routed when the step is complete (R18, log 12). -/
def State.raise (k : Notice) (s : State) : State := { s with raised := addFlag s.raised k.idx }

/-- A notice raised when a condition holds. -/
def State.raiseIf (b : Bool) (k : Notice) (s : State) : State :=
  { s with raised := if b then addFlag s.raised k.idx else s.raised }

/-- The raised kinds a port receives under an authority record (R174). -/
def noticesFor (a : Auth) (raised : BitVec 20) (p : Port) : BitVec 20 :=
  (raised &&& Notice.toAllMask) |||
    (if a.holder = some p then raised &&& Notice.toHolderMask else 0) |||
    (if p = .V then raised &&& Notice.toVehicleMask else 0)

/-- A port record with kinds added to its notice set. -/
def PortRec.notify (r : PortRec) (m : BitVec 20) : PortRec := { r with notices := r.notices ||| m }

/-- The end of a step: every raised notice is routed by the authority record as the step leaves it (R18, R174). -/
def State.deliver (s : State) : State :=
  { s with
    ports := { a := s.ports.a.notify (noticesFor s.auth s.raised .A),
               b := s.ports.b.notify (noticesFor s.auth s.raised .B),
               v := s.ports.v.notify (noticesFor s.auth s.raised .V) }
    raised := 0 }

/-- A kind delivered to one port's own set (CLAIM_LAPSED and OUTPUT_FAULT, whose rows of R174 name ports). -/
def ByPort.notifyOne (x : ByPort PortRec) (p : Port) (k : Notice) : ByPort PortRec :=
  { a := x.a.notify (if p = .A then addFlag 0 k.idx else 0), b := x.b.notify (if p = .B then addFlag 0 k.idx else 0),
    v := x.v.notify (if p = .V then addFlag 0 k.idx else 0) }

/-- ATTN asserted: the notice set is non-empty (R175). -/
def State.attn (s : State) (p : Port) : Bool := (s.ports.get p).notices != 0

/-- A whole control-die event: nothing while the die is held in reset, else the event with its notices routed at its end. -/
def State.event (s : State) (f : State → State) : State := if s.held then s else (f s).deliver

end Sys2Proof.Machine
end

