-- ==== Sys2Proof/Machine/Sound.lean ====
section
/-! DEFINITION. SOUND: instance slots, level and one-shot requests, and their requesters (07). The operations work on SOUND's
own record; `now` is the clock. -/

namespace Sys2Proof.Machine

/-- The place of a sounder channel's slot. -/
def slotOf : Sounder → Fin 8
  | .hornA => 0 | .hornB => 1 | .bellA => 2 | .bellB => 3 | .buzzA => 4 | .buzzB => 5 | .chime => 6 | .hazard => 7

/-- The channel number of a sounder (section 7.1). -/
def channelOf : Sounder → Fin 12
  | .hornA => 0 | .hornB => 1 | .bellA => 2 | .bellB => 3 | .buzzA => 4 | .buzzB => 5 | .chime => 7 | .hazard => 10

/-- The eight sounder channels in order. -/
def allSounders : List Sounder := [.hornA, .hornB, .bellA, .bellB, .buzzA, .buzzB, .chime, .hazard]

/-- The horn channel of an end. -/
def hornOf : Cab → Sounder
  | .A => .hornA
  | .B => .hornB

/-- The bell channel of an end. -/
def bellOf : Cab → Sounder
  | .A => .bellA
  | .B => .bellB

/-- The buzzer channel of a cab. -/
def buzzOf : Cab → Sounder
  | .A => .buzzA
  | .B => .buzzB

/-- The level requester of a channel and its pattern; CHIME has none (section 7.1). -/
def levelRequester : Sounder → Option (Requester × Fin 8)
  | .hornA => some (.hornButton, 0) | .hornB => some (.hornButton, 0)
  | .bellA => some (.bellButton, 1) | .bellB => some (.bellButton, 1)
  | .buzzA => some (.vigil, 3) | .buzzB => some (.vigil, 3)
  | .chime => none
  | .hazard => some (.emergency, 6)

/-- Whether an instance is a level instance (R99). -/
def Instance.isLevel (i : Instance) : Bool :=
  match i.kind with
  | .level _ => true
  | .oneShot => false

/-- Whether an instance is held (R99). -/
def Instance.isHeld (i : Instance) : Bool :=
  match i.kind with
  | .level h => h
  | .oneShot => false

/-- The step of a pattern at an index. -/
def Pattern.stepAt (p : Pattern) (i : Nat) : PatStep := if h : i < 8 then p.steps[i] else PatStep.blank

/-- The pattern an instance runs. -/
def SoundRec.patternOf (s : SoundRec) (i : Instance) : Pattern := cell s.patterns i.pattern

/-- The step an instance stands in. -/
def SoundRec.stepOf (s : SoundRec) (i : Instance) : PatStep := (s.patternOf i).stepAt i.step

/-- The instance in a channel's slot. -/
def SoundRec.slot (s : SoundRec) (c : Sounder) : Option Instance := cell s.slots (slotOf c)

/-- The level request record of a channel. -/
def SoundRec.req (s : SoundRec) (c : Sounder) : LevelReq := cell s.level (slotOf c)

/-- Whether a channel's slot holds an instance whose current step is on (R118). -/
def SoundRec.isOn (s : SoundRec) (c : Sounder) : Bool :=
  match s.slot c with
  | none => false
  | some i => (s.stepOf i).on

/-- The tone of CHIME's step while it is on, in Hz; 0 without one (R106). -/
def SoundRec.tone (s : SoundRec) : Nat :=
  match s.slot .chime with
  | none => 0
  | some i => if (s.stepOf i).on then (s.stepOf i).tone else 0

/-- Whether TONE is producing a wave: CHIME's step is on with a tone (R106). -/
def SoundRec.waving (s : SoundRec) : Bool := s.tone != 0

/-- The half-period of a tone, round(500,000 / f) microseconds, halves upward (R106, 4.2). -/
def halfPeriod (f : Nat) : Nat := (1000000 + f) / (2 * f)

/-- The time of the first change of level of a wave that starts now, in microseconds (R106). -/
def SoundRec.waveDue (s : SoundRec) (now : Nat) : Option Nat :=
  if s.waving then some (now * 1000 + halfPeriod s.tone) else none

/-- A slot's new contents. When the slot is CHIME's, TONE goes high and its wave starts if a step with a tone begins, and it goes
low otherwise (R106). -/
def SoundRec.putSlot (s : SoundRec) (now : Nat) (c : Sounder) (i : Option Instance) : SoundRec :=
  let s' := { s with slots := putCell s.slots (slotOf c) i }
  { s' with
    toneHigh := if c = .chime then s'.waving else s.toneHigh
    toneDue := if c = .chime then s'.waveDue now else s.toneDue }

/-- A channel's level request record replaced. -/
def SoundRec.putReq (s : SoundRec) (c : Sounder) (r : LevelReq) : SoundRec :=
  { s with level := putCell s.level (slotOf c) r }

/-- An instance as it starts (R99). -/
def SoundRec.newInstance (s : SoundRec) (now : Nat) (p : Fin 8) (who : Requester) (level : Bool) : Instance :=
  let pat := cell s.patterns p
  { pattern := p, requester := who, kind := if level then .level true else .oneShot, step := 0,
    stepEnd := now + (pat.stepAt 0).duration * 10,
    repeatsLeft := match pat.rep with
      | some n => some n
      | none => if level then none else some 1
    started := now }

/-- The channel's level instance started in its slot. -/
def SoundRec.startLevel (s : SoundRec) (now : Nat) (c : Sounder) : SoundRec :=
  match levelRequester c with
  | none => s
  | some (who, p) => s.putSlot now c (some (s.newInstance now p who true))

/-- A slot becomes empty; a level request placed and not spent starts at once (R102). -/
def SoundRec.endSlot (s : SoundRec) (now : Nat) (c : Sounder) : SoundRec :=
  match s.req c with
  | .placed false => (s.putSlot now c none).startLevel now c
  | _ => s.putSlot now c none

/-- The priority of the pattern an instance runs. -/
def SoundRec.priorityOf (s : SoundRec) (i : Instance) : Nat := (s.patternOf i).priority

/-- Whether an instance is the level instance of the channel's own level requester. -/
def ownLevel (c : Sounder) (i : Instance) : Bool :=
  match levelRequester c with
  | none => false
  | some (who, _) => i.isLevel && decide (i.requester = who)

/-- A level request placed (R100): an empty slot starts it, its own instance is held again, another's is pre-empted only by a
higher priority. A request already placed is left as it is. -/
def SoundRec.place (s : SoundRec) (now : Nat) (c : Sounder) : SoundRec :=
  match s.req c with
  | .placed _ => s
  | .notPlaced =>
    let s' := s.putReq c (.placed false)
    match s.slot c with
    | none => s'.startLevel now c
    | some i =>
      if ownLevel c i then s'.putSlot now c (some { i with kind := .level true })
      else
        match levelRequester c with
        | none => s'
        | some (_, p) => if s.priorityOf i < (cell s.patterns p).priority then s'.startLevel now c else s'

/-- An instance's minimum run, in ms (R97). -/
def SoundRec.minRunOf (s : SoundRec) (i : Instance) : Nat := (s.patternOf i).minRun * 10

/-- A level request withdrawn (R100): its own instance ends once its run time has reached the minimum run, and is no longer held
until then. -/
def SoundRec.withdraw (s : SoundRec) (now : Nat) (c : Sounder) : SoundRec :=
  match s.req c with
  | .notPlaced => s
  | .placed _ =>
    let s' := s.putReq c .notPlaced
    match s.slot c with
    | none => s'
    | some i =>
      if ownLevel c i then
        if i.started + s.minRunOf i ≤ now then s'.endSlot now c
        else { s' with slots := putCell s'.slots (slotOf c) (some { i with kind := .level false }) }
      else s'

/-- A level request placed or withdrawn as a condition holds or not. -/
def SoundRec.want (s : SoundRec) (now : Nat) (c : Sounder) (b : Bool) : SoundRec :=
  if b then s.place now c else s.withdraw now c

/-- A one-shot request on a channel (R101). -/
def SoundRec.oneShot (s : SoundRec) (now : Nat) (c : Sounder) (p : Fin 8) (who : Requester) : SoundRec :=
  let fresh := some (s.newInstance now p who false)
  match s.slot c with
  | none => s.putSlot now c fresh
  | some i =>
    if i.pattern = p ∧ i.requester = who then s
    else if s.priorityOf i < (cell s.patterns p).priority then s.putSlot now c fresh
    else s

/-- What an instance does when its step's time runs out at `now` (R99): the instance in its next step, or none when it ends. -/
def SoundRec.advance (s : SoundRec) (now : Nat) (i : Instance) : Option Instance :=
  let pat := s.patternOf i
  let at_ (k : Nat) (r : Option Nat) : Instance :=
    { i with step := k, stepEnd := now + (pat.stepAt k).duration * 10, repeatsLeft := r }
  if i.step + 1 < pat.count then some (at_ (i.step + 1) i.repeatsLeft)
  else
    match i.repeatsLeft with
    | none => some (at_ 0 none)
    | some n => if n ≤ 1 then none else some (at_ 0 (some (n - 1)))

/-- A channel's step expires (R99): the instance goes on, or ends; a level instance that has run its count marks its request
spent. -/
def SoundRec.stepExpiry (s : SoundRec) (now : Nat) (c : Sounder) : SoundRec :=
  match s.slot c with
  | none => s
  | some i =>
    match s.advance now i with
    | some i' => s.putSlot now c (some i')
    | none =>
      let spent := i.isLevel && decide (s.req c ≠ .notPlaced)
      (if spent then s.putReq c (.placed true) else s).endSlot now c

/-- The test slot's step expires (R99, R108). -/
def SoundRec.testExpiry (s : SoundRec) (now : Nat) : SoundRec :=
  match s.testSlot with
  | none => s
  | some (ch, i) => { s with testSlot := (s.advance now i).map fun i' => (ch, i') }

/-- The minimum run is reached (R100): a level instance no longer held ends. -/
def SoundRec.minRunReached (s : SoundRec) (now : Nat) (c : Sounder) : SoundRec :=
  match s.slot c with
  | none => s
  | some i => if i.isLevel && !i.isHeld then s.endSlot now c else s

/-- A channel's slot emptied, if it holds an instance for which the test is true. -/
def SoundRec.endIf (s : SoundRec) (now : Nat) (test : Instance → Bool) (c : Sounder) : SoundRec :=
  match s.slot c with
  | none => s
  | some i => if test i then s.endSlot now c else s

/-- The same for every channel in order. -/
def SoundRec.endWhere (s : SoundRec) (now : Nat) (test : Instance → Bool) : SoundRec :=
  allSounders.foldl (fun s c => s.endIf now test c) s

/-- A taken write of pattern `p` ends its instances on whatever channel (R98). -/
def SoundRec.endPattern (s : SoundRec) (now : Nat) (p : Fin 8) : SoundRec :=
  let s' := s.endWhere now fun i => decide (i.pattern = p)
  { s' with testSlot := s'.testSlot.filter fun t => decide (t.2.pattern ≠ p) }

/-- Authority leaving VACANT ends every output test (R103). -/
def SoundRec.endTests (s : SoundRec) (now : Nat) : SoundRec :=
  let s' := s.endWhere now fun i => decide (i.requester = .outputTest)
  { s' with testSlot := none }

/-- The four channels of horn and bell. -/
def hornBellChannels : List Sounder := [.hornA, .hornB, .bellA, .bellB]

/-- A horn or bell channel silenced: its level request withdrawn and an instance of P0, P1 or P2 ended at once (R103). -/
def SoundRec.silenceOne (s : SoundRec) (now : Nat) (c : Sounder) : SoundRec :=
  (s.putReq c .notPlaced).endIf now (fun i => decide (i.pattern.val < 3)) c

/-- A taken change of direction and the entry to VACANT end every horn and bell instance, at either end (R103). -/
def SoundRec.silenceHornBell (s : SoundRec) (now : Nat) : SoundRec :=
  hornBellChannels.foldl (fun s c => s.silenceOne now c) s

/-- The end at which the horn and bell requests may stand: the leading end, while HELD and FRESH (R103). -/
def soundingEnd (a : Auth) (stage : Stage) : Option Cab :=
  if a.isHeld && decide (stage = .fresh) then a.leading else none

/-- Whether the horn (or bell) request is to stand on an end's channel (R103). -/
def wantsAt (a : Auth) (sh : ShaperRec) (pressed : DemandBody → Bool) (e : Cab) : Bool :=
  decide (soundingEnd a sh.stage = some e) && (sh.demand.map pressed).getD false

/-- The horn and bell level requests placed or withdrawn by the holder's buttons (R103). -/
def SoundRec.refreshHornBell (s : SoundRec) (now : Nat) (a : Auth) (sh : ShaperRec) : SoundRec :=
  let s := s.want now .hornA (wantsAt a sh DemandBody.horn .A)
  let s := s.want now .hornB (wantsAt a sh DemandBody.horn .B)
  let s := s.want now .bellA (wantsAt a sh DemandBody.bell .A)
  s.want now .bellB (wantsAt a sh DemandBody.bell .B)

/-- VIGIL's level request on the buzzer of the record's cab, withdrawn from the other (R88, R105). -/
def SoundRec.refreshBuzzer (s : SoundRec) (now : Nat) (a : Auth) (placed : Bool) : SoundRec :=
  let s := s.want now .buzzA (placed && decide (a.cab = some .A))
  s.want now .buzzB (placed && decide (a.cab = some .B))

/-- TONE changes level at a half-period, and the wave's next change is a half-period later (R106). -/
def SoundRec.toneToggle (s : SoundRec) (due : Nat) : SoundRec :=
  { s with toneHigh := !s.toneHigh, toneDue := some (due + halfPeriod s.tone) }

/-- JUNCT's alert: P4 on the buzzer of the holder's cab, dropped when authority is not HELD (R105, R160). -/
def SoundRec.alert (s : SoundRec) (now : Nat) (a : Auth) : SoundRec :=
  match a with
  | .held c _ => s.oneShot now (buzzOf c) 4 .junct
  | _ => s

/-- Every horn and bell channel's request tested again for a state (R103). -/
def State.refreshHornBell (s : State) : State := { s with sound := s.sound.refreshHornBell s.now s.auth s.shaper }

end Sys2Proof.Machine
end

