-- ==== Sys2Proof/Machine/Junct.lean ====
section
/-! DEFINITION. JUNCT: telegrams, transactions, route choice, cancellation and the caution ceiling (10). -/

namespace Sys2Proof.Machine

/-- The odometer's greatest reading (R31). -/
def odometerMax : Nat := 4294967295

/-- The table's entry for an id (R144). -/
def JunctRec.entry (j : JunctRec) (id : Nat) : Option Entry := j.table.find? fun e => e.id == id

/-- The live transaction of an id (R152: at most one). -/
def JunctRec.live (j : JunctRec) (id : Nat) : Option Transaction := j.list.find? fun t => t.id == id

/-- The newest transaction: the last created of those still in the list (R152). -/
def JunctRec.newest (j : JunctRec) : Option Transaction := j.list.getLast?

/-- The list with the live transaction of an id replaced. -/
def JunctRec.putTrans (j : JunctRec) (t : Transaction) : JunctRec :=
  { j with list := j.list.map fun u => if u.id == t.id then t else u }

/-- The caution ceiling is in force (R163): the overflow caution is set, or a transaction not SET has its caution mark at or
behind the odometer. -/
def JunctRec.caution (j : JunctRec) (odometer : Nat) : Bool :=
  j.overflow || j.list.any fun t => decide (t.state ≠ .set) && decide (t.cautionMark ≤ odometer)

/-- The caution ceiling of a state (R163). -/
def State.caution (s : State) : Bool := s.junct.caution s.wheel.odometer

/-- A mark no further than the odometer's range (R152). -/
def markAt (x : Nat) : Nat := min x odometerMax

/-- The caution mark: request mark + (P - G) x 1000, or the request mark if that would be less (R152). -/
def cautionMarkOf (request points lead : Nat) : Nat := markAt (request + (points - lead) * 1000)

/-- The clear mark: request mark + (P + L) x 1000 (R152). -/
def clearMarkOf (request points clear : Nat) : Nat := markAt (request + (points + clear) * 1000)

/-- The request telegram of a transaction, as SETTINGS and AUTH stand (R151). -/
def requestTelegram (s : State) (t : Transaction) : Telegram :=
  .request t.id t.route s.settings.tram s.settings.run s.auth.vdir t.seq

/-- The cancel telegram of a transaction (R151). -/
def cancelTelegram (s : State) (t : Transaction) : Telegram :=
  .cancel t.id s.settings.tram s.settings.run t.seq

/-- Telegrams handed to the modem; none is made while loop presence is clear (R151). -/
def JunctRec.send (j : JunctRec) (ts : List Telegram) : JunctRec :=
  { j with outbox := if j.presence then j.outbox ++ ts else j.outbox }

/-- A beacon that passed its check sets loop presence and restarts the lapse timer of 200 ms (R150). -/
def JunctRec.beacon (j : JunctRec) (now : Nat) : JunctRec := { j with presence := true, lapseAt := some (now + 200) }

/-- A state whose entry sends the junction alert (R160). -/
def TransState.alerts : TransState → Bool
  | .refused => true
  | .wrongRoute => true
  | .unconfirmed => true
  | _ => false

/-- The live transaction `t` becomes `t'`: a change of state raises JUNCTION_CHANGED, and a change into REFUSED, WRONG_ROUTE or
UNCONFIRMED sends the alert (R160). -/
def State.changeTrans (t t' : Transaction) (s : State) : State :=
  { s with
    junct := s.junct.putTrans t'
    sound := if t.state ≠ t'.state ∧ t'.state.alerts then s.sound.alert s.now s.auth else s.sound
    raised := if t.state ≠ t'.state then addFlag s.raised Notice.junctionChanged.idx else s.raised }

/-- Every transaction retired at once (R166): a cancel telegram for each, in creation order, while loop presence is set; then the
list is emptied and the overflow caution cleared. With the list empty nothing changes. -/
def State.cancelAll (s : State) : State :=
  { s with
    junct := if s.junct.list.isEmpty then s.junct else
      { s.junct.send (s.junct.list.map (cancelTelegram s)) with list := [], overflow := false }
    raised := if s.junct.list.isEmpty then s.raised else addFlag s.raised Notice.junctionChanged.idx }

/-- The transactions whose clear mark the odometer has reached retire (R165). -/
def State.retireCleared (s : State) : State :=
  let gone := s.junct.list.any fun t => decide (t.clearMark ≤ s.wheel.odometer)
  { s with
    junct := if gone then
        { s.junct with list := s.junct.list.filter (fun t => decide (s.wheel.odometer < t.clearMark)), overflow := false }
      else s.junct
    raised := if gone then addFlag s.raised Notice.junctionChanged.idx else s.raised }

/-- A re-request of a transaction (R161, R162): a new sequence, tries 1, REQUESTING, report timer 400 ms, a request telegram. -/
def State.reRequest (t : Transaction) (route : Nat) (source : RouteSource) (s : State) : State :=
  let seq := s.junct.seq + 1
  let t' := { t with route := route, source := source, seq := seq, tries := 1, state := .requesting, timer := some (s.now + 400) }
  let s' := s.changeTrans t t'
  { s' with junct := { s'.junct.send [requestTelegram s t'] with seq := seq } }

/-- What route choice decides for a new transaction (R154): route, source, the plan left, and the notices raised. -/
structure RouteChoice where
  route : Nat
  source : RouteSource
  plan : List PlanEntry
  ignored : Bool
  mismatch : Bool
deriving DecidableEq, Repr

/-- Cases 2 to 4 of R154. -/
def choosePlanned (e : Entry) (plan : List PlanEntry) (ignored : Bool) : RouteChoice :=
  match plan with
  | [] => { route := e.defaultRoute, source := .default, plan := [], ignored := ignored, mismatch := false }
  | h :: rest =>
    if h.id = e.id then { route := h.route, source := .plan, plan := rest, ignored := ignored, mismatch := false }
    else { route := e.defaultRoute, source := .default, plan := h :: rest, ignored := ignored, mismatch := true }

/-- The plan less its head, when the head is an entry for the junction (R154). -/
def planAfter (e : Entry) (plan : List PlanEntry) : List PlanEntry :=
  match plan with
  | [] => []
  | h :: rest => if h.id = e.id then rest else h :: rest

/-- Route choice (R154): the pending override first, then the plan. -/
def chooseRoute (e : Entry) (plan : List PlanEntry) (ov : Option Nat) : RouteChoice :=
  match ov with
  | none => choosePlanned e plan false
  | some r =>
    if e.override && decide (r ≤ e.routes) then
      { route := r, source := .override, plan := planAfter e plan, ignored := false, mismatch := false }
    else choosePlanned e plan true

/-- A transaction as it is created for an entry with a chosen route and a new sequence (R155). -/
def newTransaction (s : State) (e : Entry) (c : RouteChoice) : Transaction :=
  { id := e.id, route := c.route, source := c.source, seq := s.junct.seq + 1, state := .requesting, tries := 1,
    timer := some (s.now + 400), requestMark := s.wheel.odometer,
    cautionMark := cautionMarkOf s.wheel.odometer e.points s.settings.cautionLead,
    clearMark := clearMarkOf s.wheel.odometer e.points e.clear, last := none }

/-- A transaction created for an entry (R154, R155). -/
def State.createTrans (e : Entry) (s : State) : State :=
  let c := chooseRoute e s.junct.plan s.junct.pendingOverride
  let t := newTransaction s e c
  let s' := s.raise .junctionChanged |>.raiseIf c.ignored .overrideIgnored |>.raiseIf c.mismatch .planMismatch
  { s' with
    junct :=
      { s.junct.send [requestTelegram s t] with
        list := s.junct.list ++ [t], plan := c.plan, pendingOverride := none, seq := t.seq } }

/-- A REQUEST beacon for an id, judged in the order of R153 after it has set loop presence. -/
def State.requestBeacon (id : Nat) (s : State) : State :=
  let s := { s with junct := s.junct.beacon s.now }
  if s.auth.isHeld = false ∨ s.auth.direction = .neutral then s
  else if (s.junct.live id).isSome then s
  else
    match s.junct.entry id with
    | none => s.raise .junctionUnknown
    | some e =>
      if 4 ≤ s.junct.list.length then { s.raise .junctionOverflow with junct := { s.junct with overflow := true } }
      else s.createTrans e

/-- A CONFIRM beacon (R159), after it has set loop presence. -/
def State.confirmBeacon (id routeSet : Nat) (locked occupied : Bool) (s : State) : State :=
  let s := { s with junct := s.junct.beacon s.now }
  match s.junct.live id with
  | none => s
  | some t =>
    if t.state ≠ .set ∧ locked ∧ !occupied ∧ routeSet = t.route then s.changeTrans t { t with state := .set, timer := none }
    else s

/-- The transaction a taken report leaves (R156). -/
def reported (now : Nat) (t : Transaction) (r : ReportResult) (routeSet : Nat) : Transaction :=
  let t := { t with last := some r }
  match r with
  | .setLocked => { t with state := if routeSet = t.route then .set else .wrongRoute, timer := none }
  | .moving => { t with state := .requesting, timer := some (now + 1500) }
  | _ => { t with state := .refused, timer := none }

/-- A report telegram that passed its check (R156). -/
def State.report (id tram : Nat) (seq : BitVec 3) (r : ReportResult) (routeSet : Nat) (s : State) : State :=
  if !s.junct.presence || decide (tram ≠ s.settings.tram) then s
  else
    match s.junct.live id with
    | none => s
    | some t =>
      if t.seq ≠ seq ∨ t.state = .set then s else s.changeTrans t (reported s.now t r routeSet)

/-- The transaction left UNCONFIRMED (R157, R158). -/
def Transaction.giveUp (t : Transaction) : Transaction := { t with state := .unconfirmed, timer := none }

/-- A report timer expires (R157). -/
def State.reportExpiry (id : Nat) (s : State) : State :=
  match s.junct.live id with
  | none => s
  | some t =>
    match t.timer with
    | none => s
    | some due =>
      let s := s.reach due
      if t.tries < 3 ∧ s.junct.presence then
        let t' := { t with tries := t.tries + 1, timer := some (s.now + 400) }
        { s with junct := (s.junct.putTrans t').send [requestTelegram s t'] }
      else s.changeTrans t t.giveUp

/-- Loop presence lapses (R150, R158): every REQUESTING transaction becomes UNCONFIRMED. -/
def State.loopLapse (s : State) : State :=
  match s.junct.presence, s.junct.lapseAt with
  | true, some due =>
    let s := s.reach due
    let hit := s.junct.list.any fun t => decide (t.state = .requesting)
    { s with
      junct :=
        { s.junct with
          presence := false, lapseAt := none
          list := s.junct.list.map fun t => if t.state = .requesting then t.giveUp else t }
      sound := if hit then s.sound.alert s.now s.auth else s.sound
      raised := if hit then addFlag s.raised Notice.junctionChanged.idx else s.raised }
  | _, _ => s

/-- A loop telegram's junction id and route set lie in their ranges (R187). -/
def telegramIn (id routeSet : Nat) : Bool := decide (1 ≤ id ∧ id ≤ 4095 ∧ routeSet ≤ 4)

end Sys2Proof.Machine
end

