-- ==== Sys2Proof/Machine/StopReq.lean ====
section
/-! DEFINITION. STOPREQ: touch channels, the stop record, sections and the history ring (09). -/

namespace Sys2Proof.Machine

/-- Requested (R135). -/
def StopRec.requested (r : StopRec) : Bool := r.first.isSome

/-- The door an assignment names, if any. -/
def Assignment.doorOf : Assignment → Option Nat
  | .disabled => none
  | .door d => some d
  | .wheelchair d => some d

/-- Whether an assignment is WHEELCHAIR. -/
def Assignment.isWheelchair : Assignment → Bool
  | .wheelchair _ => true
  | _ => false

/-! ### The stop record -/

/-- The record cleared by STOP CANCEL or the entry to HELD: all but chime sounded (R140). -/
def StopRec.cancel (r : StopRec) : StopRec := if r.requested then { StopRec.empty with chime := r.chime } else r

/-- The record cleared in the manner of STOP CANCEL, with STOP_CHANGED if it held a request (R140). -/
def State.cancelStop (s : State) : State :=
  { s with
    stop := { s.stop with record := s.stop.record.cancel }
    raised := if s.stop.record.requested then addFlag s.raised Notice.stopChanged.idx else s.raised }

/-- The history entry of a record that ends (R141). -/
def historyOf (r : StopRec) (f : FirstRequest) (mark time : Nat) : HistoryEntry :=
  { first := f, doors := r.doors, wheelchair := r.wheelchair, presses := r.presses, chime := r.chime, endMark := mark,
    endTime := time }

/-- The history after a section end: a requested record is pushed, newest first, at most eight kept (R137, R141). -/
def pushHistory (h : List HistoryEntry) (r : StopRec) (mark time : Nat) : List HistoryEntry :=
  match r.first with
  | none => h
  | some f => (historyOf r f mark time :: h).take 8

/-- The section ends (R137). -/
def State.sectionEnd (s : State) : State :=
  { s with
    stop :=
      { s.stop with
        history := pushHistory s.stop.history s.stop.record s.wheel.odometer s.stopTime
        record := .empty
        sect := .atStop }
    raised := if s.stop.record.requested then addFlag s.raised Notice.stopChanged.idx else s.raised }

/-- The section ends if it is RUNNING with DCL low (R137; the caller knows that the tram stands). -/
def State.testSectionEnd (s : State) : State :=
  if s.stop.sect = .running ∧ s.lines.dcl = false then s.sectionEnd else s

/-- A door's flag among the six (door d is flag d - 1). -/
def doorFlag (a : Assignment) : BitVec 6 :=
  match a.doorOf with
  | none => 0
  | some d => addFlag 0 (d - 1)

/-- The record after a recorded confirmation (R138). -/
def StopRec.confirm (r : StopRec) (a : Assignment) (mark time : Nat) : StopRec :=
  { first := match r.first with
      | some f => some f
      | none => some { source := .touch, mark := mark, time := time }
    doors := r.doors ||| doorFlag a
    wheelchair := r.wheelchair || a.isWheelchair
    presses := min 255 (r.presses + 1)
    chime := r.chime || !r.requested }

/-- Whether a recorded confirmation raises STOP_CHANGED: it makes requested yes, adds a door, or sets wheelchair (R138). -/
def StopRec.news (r : StopRec) (a : Assignment) : Bool :=
  !r.requested || decide (r.doors ||| doorFlag a ≠ r.doors) || (a.isWheelchair && !r.wheelchair)

/-- A confirmed press (R134, R138): recorded only while the section is RUNNING and DCL high. The first request of a section sends
P5 STOP_CHIME once. -/
def State.confirmPress (a : Assignment) (s : State) : State :=
  if s.stop.sect = .running ∧ s.lines.dcl then
    let r := s.stop.record
    { s with
      stop := { s.stop with record := r.confirm a s.wheel.odometer s.stopTime }
      sound := if !r.requested && !r.chime then s.sound.oneShot s.now .chime 5 .stopreq else s.sound
      raised := if r.news a then addFlag s.raised Notice.stopChanged.idx else s.raised }
  else s

/-- A request made by STOP SET (R139). -/
def State.setStop (src : StopSource) (s : State) : State :=
  { s with
    stop := { s.stop with record := { s.stop.record with first := some { source := src, mark := s.wheel.odometer, time := s.stopTime } } }
    raised := addFlag s.raised Notice.stopChanged.idx }

/-! ### Touch channels -/

/-- A measurement is void: below 64 or at 4095 (R128). -/
def voidCount (n : Nat) : Bool := decide (n < 64) || decide (n = 4095)

/-- The depth of a count under a baseline in sixteenths: floor(B / 16) - N (R128, R132). -/
def depth (baseline n : Nat) : Int := (baseline / 16 : Nat) - (n : Int)

/-- The drift correction (R129): one sixty-fourth of the way toward the count, truncating toward zero. -/
def drift (b n : Nat) : Nat := ((b : Int) + ((n : Int) * 16 - (b : Int)).tdiv 64).toNat

/-- What a judgement of a channel leaves: its record, whether a press is confirmed, and whether TOUCH_FAULT is raised. -/
structure Judgement where
  chan : TouchRec
  confirmed : Bool
  fault : Bool
deriving DecidableEq, Repr

/-- A channel that changes without a confirmation or a notice. -/
def quiet (c : TouchRec) : Judgement := { chan := c, confirmed := false, fault := false }

/-- The channel enters FAULTED (R133). -/
def enterFaulted (c : TouchRec) : Judgement :=
  { chan := { c with state := .faulted, saved := none, pressedAt := none, confirm := 0, rangeRun := some 0 }
    confirmed := false
    fault := true }

/-- A void measurement (R133). -/
def judgeVoid (c0 : TouchRec) : Judgement :=
  let c := { c0 with voidRun := min 3 (c0.voidRun + 1) }
  match c.state with
  | .disabled => quiet c
  | .faulted => quiet { c with rangeRun := some 0 }
  | .pressing => quiet { c with state := .idle, saved := none, confirm := 0 }
  | _ => if c.voidRun = 3 then enterFaulted c else quiet c

/-- The stuck test of a measurement that leaves the channel PRESSED (R132). -/
def stuckTest (c : TouchRec) (n time : Nat) : Judgement :=
  if (c.pressedAt.map fun t => decide (t + 20000 ≤ time)).getD false then
    { chan := { c with state := .stuck, baseline := some (n * 16), confirm := 0 }, confirmed := false, fault := true }
  else quiet c

/-- An in-range measurement in IDLE with the baseline present (R129, R130). -/
def judgeIdle (c : TouchRec) (b n th : Nat) : Judgement :=
  if (th : Int) ≤ depth b n then quiet { c with state := .pressing, saved := some b, confirm := 1 }
  else quiet { c with baseline := some (drift b n), confirm := 0 }

/-- An in-range measurement in PRESSING (R130): the third deep one confirms the press. -/
def judgePressing (c : TouchRec) (b n th time : Nat) : Judgement :=
  if (th : Int) ≤ depth b n then
    if c.confirm < 2 then quiet { c with confirm := c.confirm + 1 }
    else { chan := { c with state := .pressed, pressedAt := some time, confirm := 0 }, confirmed := true, fault := false }
  else quiet { c with state := .idle, saved := none, confirm := 0 }

/-- An in-range measurement in PRESSED (R131). -/
def judgePressed (c : TouchRec) (b n th time : Nat) : Judgement :=
  if 2 * depth b n < (th : Int) then quiet { c with state := .releasing, confirm := 1 }
  else stuckTest { c with confirm := 0 } n time

/-- An in-range measurement in RELEASING (R131). -/
def judgeReleasing (c : TouchRec) (b n th time : Nat) : Judgement :=
  if 2 * depth b n < (th : Int) then
    if c.confirm < 2 then quiet { c with confirm := c.confirm + 1 }
    else quiet { c with state := .idle, saved := none, pressedAt := none, confirm := 0 }
  else stuckTest { c with state := .pressed, confirm := 0 } n time

/-- An in-range measurement in STUCK, judged against the saved baseline (R132). -/
def judgeStuck (c : TouchRec) (n th : Nat) : Judgement :=
  match c.saved with
  | none => quiet c
  | some sv =>
    if 2 * depth sv n < (th : Int) then
      if c.confirm < 2 then quiet { c with confirm := c.confirm + 1 }
      else
        { chan := { c with state := .idle, baseline := some sv, saved := none, pressedAt := none, confirm := 0 }
          confirmed := false
          fault := true }
    else quiet { c with confirm := 0 }

/-- An in-range measurement in FAULTED (R133): the fiftieth in a row ends it. A baseline still absent is seeded (log 20). -/
def judgeFaulted (c : TouchRec) (n : Nat) : Judgement :=
  let run := c.rangeRun.getD 0 + 1
  if 50 ≤ run then
    { chan := { c with state := .idle, baseline := some (n * 16), rangeRun := none }, confirmed := false, fault := true }
  else quiet { c with rangeRun := some run, baseline := some (c.baseline.getD (n * 16)) }

/-- An in-range measurement (R129 to R133). -/
def judgeInRange (c0 : TouchRec) (n th time : Nat) : Judgement :=
  let c := { c0 with voidRun := 0 }
  match c.state, c.baseline with
  | .disabled, _ => quiet c
  | .faulted, _ => judgeFaulted c n
  | _, none => quiet { c with baseline := some (n * 16) }
  | .idle, some b => judgeIdle c b n th
  | .pressing, some b => judgePressing c b n th time
  | .pressed, some b => judgePressed c b n th time
  | .releasing, some b => judgeReleasing c b n th time
  | .stuck, some _ => judgeStuck c n th

/-- The judgement of a channel's count at the end of its gate (R128): a DISABLED channel only stores it. -/
def judge (c0 : TouchRec) (n th time : Nat) : Judgement :=
  let c := { c0 with count := some n }
  if c.state = .disabled then quiet c
  else if voidCount n then judgeVoid c
  else judgeInRange c n th time

/-- The end of gate k (R128): the count is stored, the channel judged, and a confirmation handed to the stop record. -/
def State.measure (k : Fin 16) (n : Nat) (s : State) : State :=
  let j := judge (cell s.stop.chans k) n s.settings.threshold s.stopTime
  let s' := { s with
    stop := { s.stop with chans := putCell s.stop.chans k j.chan }
    raised := if j.fault then addFlag s.raised Notice.touchFault.idx else s.raised }
  if j.confirmed then s'.confirmPress (cell s.settings.touch k) else s'

/-- What a write of the assignment does to a channel's record (R127). -/
def TouchRec.reassign (c : TouchRec) (old new : Assignment) : TouchRec :=
  if new = .disabled then
    if old = .disabled then c
    else
      { c with state := .disabled, baseline := none, saved := none, pressedAt := none, rangeRun := none, confirm := 0, voidRun := 0 }
  else if old = .disabled then { c with state := .idle }
  else c

/-! ### Doors -/

/-- DCL goes low (R39, R55, R104, R137). -/
def State.doorsOpen (s : State) : State :=
  let s := { s with
    lines := { s.lines with dcl := false }
    shaper := { s.shaper with zeroPass := false, doorReported := s.shaper.doorReported || !s.wheel.stationary }
    sound := { s.sound with departurePending := false, openingAtRest := s.wheel.stationary }
    raised := if !s.wheel.stationary && !s.shaper.doorReported then addFlag s.raised Notice.doorOpenMoving.idx else s.raised }
  if s.wheel.stationary then s.testSectionEnd else s

/-- DCL goes high (R55, R104, R136). -/
def State.doorsClose (s : State) : State :=
  { s with
    lines := { s.lines with dcl := true }
    shaper := { s.shaper with doorReported := false }
    sound := { s.sound with departurePending := s.sound.departurePending || s.sound.openingAtRest }
    stop :=
      { s.stop with
        sect := .running
        record := if s.stop.sect = .atStop then { s.stop.record with chime := false } else s.stop.record } }

end Sys2Proof.Machine
end

