-- ==== Sys2Proof/Machine/Emergency.lean ====
section
/-! DEFINITION. The emergency source set: adding a source (R58), removing one (R59, R66), and the removal conditions that wait
for standstill (R60, R61, R64, R67, R68). -/

namespace Sys2Proof.Machine

/-- The set has no member. -/
def ShaperRec.calm (sh : ShaperRec) : Bool := sh.sources == 0

/-- Whether a source is in the set. -/
def ShaperRec.has (sh : ShaperRec) (k : EmSource) : Bool := hasFlag sh.sources k.idx

/-- A source added (R57); to an empty set, O and O_prev become -1000 at once (R58). -/
def ShaperRec.addSource (sh : ShaperRec) (k : EmSource) : ShaperRec :=
  { sh with
    sources := addFlag sh.sources k.idx
    o := if sh.calm then -1000 else sh.o
    oPrev := if sh.calm then -1000 else sh.oPrev }

/-- A source added, with the hazard request and the notice when the set was empty (R58). -/
def State.addSource (k : EmSource) (s : State) : State :=
  { s with
    shaper := s.shaper.addSource k
    sound := if s.shaper.calm then s.sound.place s.now .hazard else s.sound
    raised := if s.shaper.calm then addFlag s.raised Notice.emergencyChanged.idx else s.raised }

/-- A source added when a condition holds. -/
def State.addSourceIf (b : Bool) (k : EmSource) (s : State) : State := if b then s.addSource k else s

/-- Whether removing a source leaves the set empty. -/
def ShaperRec.empties (sh : ShaperRec) (k : EmSource) : Bool := sh.has k && dropFlag sh.sources k.idx == 0

/-- Whether removing a source empties the set for good: it would be empty, and the isolation link is UP (R59, R66). -/
def State.calms (s : State) (k : EmSource) : Bool := s.shaper.empties k && s.outbank.linkUp

/-- A source removed. If the set is then empty, zero-pass is disarmed, the next period takes O_prev of -1000 (R48), the hazard
request is withdrawn and the notice raised (R59); but while ILINK is LINK_LOST the set keeps LOOP_DROPPED instead of emptying
(R66). -/
def State.removeSource (k : EmSource) (s : State) : State :=
  { s with
    shaper :=
      { s.shaper with
        sources := if s.shaper.empties k && !s.outbank.linkUp then addFlag 0 EmSource.loopDropped.idx
                   else dropFlag s.shaper.sources k.idx
        zeroPass := if s.calms k then false else s.shaper.zeroPass
        oPrev := if s.calms k then -1000 else s.shaper.oPrev }
    sound := if s.calms k then s.sound.withdraw s.now .hazard else s.sound
    raised := if s.calms k then addFlag s.raised Notice.emergencyChanged.idx else s.raised }

/-- A source removed when its condition holds. -/
def State.removeSourceIf (b : Bool) (k : EmSource) (s : State) : State := if b then s.removeSource k else s

/-- The demand record's lever is not -128; an absent lever counts as not -128 (R60). -/
def ShaperRec.leverBack (sh : ShaperRec) : Bool := (sh.demand.map fun d => decide (d.lever ≠ -128)).getD true

/-- LEVER removed if its condition holds (R60). -/
def State.testLever (s : State) : State := s.removeSourceIf (s.wheel.stationary && s.shaper.leverBack) .lever

/-- A cab's EMSTOP source removed if its condition holds (R61). -/
def State.testEmstop (c : Cab) (s : State) : State :=
  s.removeSourceIf (s.wheel.stationary && !emstopLevel s.lines c) (.emstop c)

/-- BRAKE_LINK removed if its condition holds (R64). -/
def State.testBrakeLink (s : State) : State :=
  s.removeSourceIf (s.wheel.stationary && s.tlink.brk.answering) .brakeLink

/-- LOOP_DROPPED removed if its condition holds (R67). -/
def State.testLoopDropped (s : State) : State :=
  s.removeSourceIf (s.wheel.stationary && s.outbank.linkUp) .loopDropped

/-- The five sources that wait for standstill, tested at the window end that sets STATIONARY (R68). -/
def State.testStandstill (s : State) : State :=
  s.testLever.testEmstop .A |>.testEmstop .B |>.testBrakeLink |>.testLoopDropped

end Sys2Proof.Machine
end

