-- ==== Sys2Proof/Machine/Vigil.lean ====
section
/-! DEFINITION. VIGIL: activity, warning, handle grace, penalty (06). -/

namespace Sys2Proof.Machine

/-- WATCH or WARN: the states in which VIGIL watches. -/
def VigilState.watching : VigilState → Bool
  | .watch => true
  | .warn => true
  | _ => false

/-- The buzzer request stands while the state is WARN or the grace timer runs (R88). -/
def VigilRec.wantsBuzzer (v : VigilRec) : Bool := decide (v.state = .warn) || v.releaseTime.isSome

/-- The buzzer request placed or withdrawn as the record calls for; a placing raises VIGIL_WARN (R88). -/
def State.refreshBuzzer (s : State) : State :=
  { s with
    vigil := { s.vigil with buzzer := s.vigil.wantsBuzzer }
    sound := s.sound.refreshBuzzer s.now s.auth s.vigil.wantsBuzzer
    raised := if s.vigil.wantsBuzzer && !s.vigil.buzzer then addFlag s.raised Notice.vigilWarn.idx else s.raised }

/-- The lever has moved 5 or more from the reference (R84). -/
def VigilRec.leverMoved (v : VigilRec) (lever : Int) : Bool := decide (5 ≤ (lever - v.leverRef).natAbs)

/-- What a holder's frame shows VIGIL: the frame's lever and handle, and whether it holds a press edge (R84, R85). -/
structure Attention where
  lever : Int
  handle : Bool
  edge : Bool
deriving DecidableEq, Repr

/-- The press edges of a frame against the demand record before it (R85). -/
def pressEdge (before : Option DemandBody) (horn bell : Bool) : Bool :=
  match before with
  | none => horn || bell
  | some d => (horn && !d.horn) || (bell && !d.bell)

/-- A frame grips the handle again while the grace timer runs (R91). -/
def VigilRec.regrips (v : VigilRec) (f : Attention) : Bool := v.releaseTime.isSome && f.handle

/-- A frame is activity (R84, R85, R91). -/
def VigilRec.active (v : VigilRec) (f : Attention) : Bool := v.leverMoved f.lever || f.edge || v.regrips f

/-- The record after a holder's frame, its buzzer request aside (R84 to R86, R90 to R92). DESIGN CHOICE (log 51): activity and the
release of the handle in one frame are one change, so that a frame that is both in WARN keeps the buzzer request placed and raises
no second VIGIL_WARN. -/
def VigilRec.attend (v : VigilRec) (now : Nat) (f : Attention) : VigilRec :=
  if v.state.watching then
    { v with
      state := if v.active f then .watch else v.state
      lastActivity := if v.active f then some now else v.lastActivity
      warnStart := if v.active f then none else v.warnStart
      handle := f.handle
      releaseTime := if f.handle then none else if v.handle then some now else v.releaseTime
      leverRef := if v.leverMoved f.lever then f.lever else v.leverRef }
  else { v with handle := f.handle, leverRef := f.lever }

/-- A holder's frame handed to VIGIL (R37 stage 5). -/
def State.vigilFrame (f : Attention) (s : State) : State :=
  State.refreshBuzzer { s with vigil := s.vigil.attend s.now f }

/-- The record with no timer field and the state IDLE (R83). -/
def VigilRec.rest (v : VigilRec) : VigilRec :=
  { v with state := .idle, lastActivity := none, warnStart := none, releaseTime := none }

/-- WATCH entered at a window end that clears STATIONARY (R83, R90). -/
def VigilRec.startWatch (v : VigilRec) (now : Nat) (lever : Int) : VigilRec :=
  { v with
    state := .watch, lastActivity := some now, leverRef := lever
    releaseTime := if v.handle then none else some now }

/-- A window end that clears STATIONARY (R83): under HELD, IDLE becomes WATCH. -/
def State.vigilMoves (s : State) : State :=
  if s.auth.isHeld = true ∧ s.vigil.state = .idle then
    State.refreshBuzzer
      { s with vigil := s.vigil.startWatch s.now ((s.shaper.demand.map DemandBody.lever).getD 0) }
  else s

/-- A window end that sets STATIONARY (R83): WATCH or WARN becomes IDLE. -/
def State.vigilStands (s : State) : State :=
  if s.vigil.state.watching then State.refreshBuzzer { s with vigil := s.vigil.rest } else s

/-- The entry to VACANT (R15, R82, R83): IDLE unless PENALTY, the handle field held. -/
def State.vigilVacant (s : State) : State :=
  State.refreshBuzzer
    { s with vigil := { (if s.vigil.state = .penalty then s.vigil else s.vigil.rest) with handle := true } }

/-- The entry to HELD (R10, R83): IDLE unless PENALTY; the reference and the handle are taken from the demand record. -/
def VigilRec.enterHeld (v : VigilRec) (lever : Int) (handle : Bool) : VigilRec :=
  { (if v.state = .penalty then v else v.rest) with leverRef := lever, handle := handle }

/-- PENALTY entered (R93): every timer cancelled, the buzzer request withdrawn, the PENALTY source added, VIGIL_PENALTY raised. -/
def State.enterPenalty (s : State) : State :=
  State.refreshBuzzer
      { s with vigil := { s.vigil with state := .penalty, lastActivity := none, warnStart := none, releaseTime := none } }
    |>.addSource .penalty |>.raise .vigilPenalty

/-- The activity timer expires (R87): WATCH becomes WARN. -/
def State.activityExpiry (s : State) : State :=
  match s.vigil.state, s.vigil.lastActivity with
  | .watch, some t =>
    let s := s.reach (t + s.settings.vigilInterval * 1000)
    State.refreshBuzzer { s with vigil := { s.vigil with state := .warn, warnStart := some s.now } }
  | _, _ => s

/-- The warn timer expires (R89). -/
def State.warnExpiry (s : State) : State :=
  match s.vigil.state, s.vigil.warnStart with
  | .warn, some t => (s.reach (t + 5000)).enterPenalty
  | _, _ => s

/-- The grace timer expires (R91). -/
def State.graceExpiry (s : State) : State :=
  match s.vigil.releaseTime with
  | some t => if s.vigil.state.watching then (s.reach (t + s.settings.handleGrace * 100)).enterPenalty else s
  | none => s

/-- VIGIL RESET's effect (R94): IDLE, the reference at the record's lever, the PENALTY source removed. -/
def State.vigilResetTaken (s : State) : State :=
  State.removeSource .penalty
    { s with
      vigil := { s.vigil with state := .idle, leverRef := (s.shaper.demand.map DemandBody.lever).getD s.vigil.leverRef } }

/-- The time due of VIGIL's next timed step (R95). -/
def VigilRec.nextDue (v : VigilRec) (interval grace : Nat) : Option Nat :=
  let graceDue := v.releaseTime.map fun t => t + grace * 100
  match v.state with
  | .watch =>
    match v.lastActivity.map (fun t => t + interval * 1000), graceDue with
    | some a, some g => some (min a g)
    | a, none => a
    | none, g => g
  | .warn =>
    match v.warnStart.map (fun t => t + 5000), graceDue with
    | some a, some g => some (min a g)
    | a, none => a
    | none, g => g
  | _ => none

/-- Time left until `due`, in units of `unit` ms, rounded up. -/
def unitsLeft (unit now due : Nat) : Nat := (due - now + (unit - 1)) / unit

end Sys2Proof.Machine
end

