-- ==== Sys2Proof/Machine/Auth.lean ====
section
/-! DEFINITION. AUTH: the transitions of the authority record (01) with what they change in the other blocks. -/

namespace Sys2Proof.Machine

/-- CLAIM_LAPSED delivered to the claiming cab's port and port V (R8, R9). -/
def State.claimLapsed (c : Cab) (s : State) : State :=
  { s with ports := (s.ports.notifyOne (portOf c) .claimLapsed).notifyOne .V .claimLapsed }

/-- A claim that ends without HELD (R8, R9): VACANT, CLAIM_LAPSED, AUTH_CHANGED, and nothing else (R15). -/
def State.endClaim (c : Cab) (s : State) : State :=
  State.claimLapsed c { s with auth := .vacant } |>.raise .authChanged

/-- The freshness stage of a demand by its age (R38). -/
def stageOfAge (age : Nat) : Stage := if 1000 < age then .staleBrake else if 300 < age then .coasting else .fresh

/-- The demand record the entry to HELD leaves (R10, R38, R39). -/
def ShaperRec.seed (sh : ShaperRec) (now : Nat) (c : Claimant) : ShaperRec :=
  { sh with
    demand := some { lever := c.lever, handle := c.handle, horn := c.horn, bell := c.bell, sand := c.sand, takenAt := c.frameTime }
    stage := stageOfAge (now - c.frameTime)
    zeroPass := false }

/-- HELD(X) entered from CLAIMING (R10). -/
def State.enterHeld (x : Cab) (c : Claimant) (s : State) : State :=
  State.refreshHornBell <|
    State.cancelAll <|
    State.cancelStop <|
    State.testLoopDropped <|
    State.removeSource .startup <|
    State.refreshBuzzer <|
    State.raiseIf (decide (stageOfAge (s.now - c.frameTime) = .staleBrake)) .demandStale <|
    State.raise .authChanged
    { s with
      auth := .held x .neutral
      shaper := s.shaper.seed s.now c
      vigil := s.vigil.enterHeld c.lever c.handle }

/-- The holding brake is confirmed (R79): BRK is ANSWERING and its last reply reports it applied. -/
def TlinkRec.brakeConfirmed (t : TlinkRec) : Bool :=
  t.brk.answering && (t.brk.last.map BrkReply.brakeApplied).getD false

/-- The conditions of synchronisation on the claimant's frame (R7). -/
def Claimant.ready (c : Claimant) : Bool := decide (-100 ≤ c.lever ∧ c.lever ≤ 0) && decide (c.direction = .neutral)

/-- All conditions of R7 for cab X with its claimant fields. -/
def State.synchronises (s : State) (x : Cab) (c : Claimant) : Bool :=
  s.wheel.stationary && s.tlink.brakeConfirmed && !emstopLevel s.lines x && c.ready

/-- The synchronisation check (R7). -/
def State.syncCheck (s : State) : State :=
  match s.auth with
  | .claiming x _ (some c) => if s.synchronises x c then s.enterHeld x c else s
  | _ => s

/-- The demand record on leaving HELD (R35). -/
def ShaperRec.leaveHeld (sh : ShaperRec) : ShaperRec := { sh with demand := none, stage := .coasting, zeroPass := false }

/-- VACANT entered from HELD or LOST (R15), with LEVER tested on leaving HELD (R60). -/
def State.enterVacant (s : State) : State :=
  State.testLever <|
    State.vigilVacant <|
    State.cancelAll <|
    State.raise .authChanged
    { s with
      auth := .vacant
      shaper := s.shaper.leaveHeld
      sound := s.sound.silenceHornBell s.now }

/-- LOST(X) entered (R13). -/
def State.enterLost (x : Cab) (d : Direction) (s : State) : State :=
  State.refreshHornBell <|
    State.cancelAll <|
    State.addSource .authLost <|
    State.raise .authChanged
    { s with auth := .lost x d, shaper := s.shaper.leaveHeld }

/-- LOST ends at the window end that sets STATIONARY (R14): VACANT, and AUTH_LOST removed. -/
def State.endLost (s : State) : State :=
  match s.auth with
  | .lost _ _ => s.enterVacant.removeSource .authLost
  | _ => s

/-- A cab key goes off (R9, R13, R14). -/
def State.keyGoesOff (x : Cab) (s : State) : State :=
  match s.auth with
  | .claiming c _ _ => if c = x then s.endClaim c else s
  | .held c d => if c = x then (if s.wheel.stationary then s.enterVacant else s.enterLost c d) else s
  | _ => s

/-- Whether a change of direction is taken (R16). -/
def State.turns (s : State) (d : Direction) : Bool :=
  decide (s.auth.direction ≠ d) && s.wheel.stationary && decide (s.shaper.o ≤ 0) && decide (s.vigil.state ≠ .penalty)

/-- A taken change of direction (R17); the horn and bell requests are placed again at stage 5 of the frame (log 13). -/
def State.turn (x : Cab) (d : Direction) (s : State) : State :=
  State.cancelAll <|
    State.raise .authChanged
    { s with
      auth := .held x d
      shaper := { s.shaper with zeroPass := false }
      wheel := { s.wheel with reverse := 0 }
      sound := s.sound.silenceHornBell s.now }

/-- The claim window expires (R8). -/
def State.claimExpiry (s : State) : State :=
  match s.auth with
  | .claiming c start _ => (s.reach (start + 5000)).endClaim c
  | _ => s

end Sys2Proof.Machine
end

