-- ==== Sys2Proof/Machine/Wheel.lean ====
section
/-! DEFINITION. WHEEL: pulses, odometer, reverse travel, and the window end in the stages of R22 (02). -/

namespace Sys2Proof.Machine

/-! ### Pulses -/

/-- The odometer sensor (R31): sensor 1 unless it is FAILED. -/
def WheelRec.odometerSensor (w : WheelRec) : Sensor := if w.s1.failed then .two else .one

/-- A sensor record with a pulse counted, saturating at 511 (R20). -/
def SensorRec.pulse (r : SensorRec) : SensorRec := { r with count := min 511 (r.count + 1) }

/-- The odometer after a pulse (R31): whole millimetres move out of the remainder, saturating; once full nothing moves. -/
def WheelRec.travel (w : WheelRec) (circumference : Nat) : WheelRec :=
  if w.odometer = odometerMax then w
  else
    { w with
      odometer := min odometerMax (w.odometer + (w.remainder + circumference) / 64)
      remainder := (w.remainder + circumference) % 64 }

/-- The reverse-travel counter's bound: 65,535 mm in 1/64 mm (R33). -/
def reverseMax : Nat := 4194240

/-- A pulse against the selected direction (R33): HELD, not NEUTRAL, the pulse opposite to the vehicle-relative direction. B high
gives a pulse of direction minus (R20). -/
def againstDirection (a : Auth) (bHigh : Bool) : Bool :=
  a.isHeld && decide (a.vdir = if bHigh then .plus else .minus)

/-- The reverse-travel counter and ROLLBACK after a counted pulse (R33, R34). -/
def WheelRec.countReverse (w : WheelRec) (circumference : Nat) : WheelRec :=
  let r := min reverseMax (w.reverse + circumference)
  { w with reverse := r, rollback := w.rollback || decide (19200 ≤ r) }

/-- The sensor records after a pulse of sensor i (R20). -/
def WheelRec.pulse (w : WheelRec) (i : Sensor) : WheelRec :=
  { w with s1 := if i = .one then w.s1.pulse else w.s1, s2 := if i = .two then w.s2.pulse else w.s2 }

/-- What a pulse of the odometer sensor does beyond its count (R31, R33, R34, R165). -/
def State.odometerPulse (bHigh : Bool) (s : State) : State :=
  let c := s.settings.circumference
  let w := s.wheel.travel c
  let w' := if againstDirection s.auth bHigh then w.countReverse c else w
  State.retireCleared
    { s with wheel := w', raised := if w'.rollback && !w.rollback then addFlag s.raised Notice.rollback.idx else s.raised }

/-- A pulse (R20). -/
def State.pulse (i : Sensor) (bHigh : Bool) (s : State) : State :=
  let fromOdometer := decide (i = s.wheel.odometerSensor)
  let s := { s with wheel := s.wheel.pulse i }
  if fromOdometer then s.odometerPulse bHigh else s

/-! ### The window end -/

/-- Stage 1: a sensor speed, floor(n x C x 9 / 4000), clamped to 1200 (R21). -/
def sensorSpeed (n c : Nat) : Nat := min 1200 (n * c * 9 / 4000)

/-- Stage 1: both speeds (R22). -/
def WheelRec.stage1 (w : WheelRec) (c : Nat) : WheelRec :=
  { w with s1 := { w.s1 with speed := sensorSpeed w.s1.count c }, s2 := { w.s2 with speed := sensorSpeed w.s2.count c } }

/-- The distance of two numbers. -/
def apart (a b : Nat) : Nat := (a - b) + (b - a)

/-- Stage 2 for one sensor against the other (R24, R25): its runs advanced and its status updated. -/
def SensorRec.health (r other : SensorRec) : SensorRec :=
  if r.failed then
    if 0 < r.count ∧ apart r.speed other.speed * 5 ≤ max r.speed other.speed then
      if 8 ≤ r.recoverRun + 1 then { r with failed := false, recoverRun := 0, failRun := 0 }
      else { r with recoverRun := r.recoverRun + 1, failRun := 0 }
    else { r with recoverRun := 0, failRun := 0 }
  else if other.failed then { r with failRun := 0, recoverRun := 0 }
  else if r.count = 0 ∧ 50 < other.speed then
    if 8 ≤ r.failRun + 1 then { r with failed := true, failRun := 0, recoverRun := 0 }
    else { r with failRun := r.failRun + 1, recoverRun := 0 }
  else { r with failRun := 0, recoverRun := 0 }

/-- Stage 2: both sensors, each judged against the other as stage 1 left it (R22). -/
def WheelRec.stage2 (w : WheelRec) : WheelRec := { w with s1 := w.s1.health w.s2, s2 := w.s2.health w.s1 }

/-- Stage 3: the reference speed (R23). -/
def referenceSpeed (s1 s2 : SensorRec) (o : Int) : Nat :=
  if s1.failed then s2.speed
  else if s2.failed then s1.speed
  else if 0 < o then min s1.speed s2.speed
  else if o < 0 then max s1.speed s2.speed
  else (s1.speed + s2.speed) / 2

/-- Stage 3 (R22, R23). -/
def WheelRec.stage3 (w : WheelRec) (o : Int) : WheelRec := { w with v := referenceSpeed w.s1 w.s2 o }

/-- A disagreeing window (R26). -/
def WheelRec.disagrees (w : WheelRec) : Bool :=
  !w.s1.failed && !w.s2.failed && decide (30 < apart w.s1.speed w.s2.speed) &&
    decide (max w.s1.speed w.s2.speed < apart w.s1.speed w.s2.speed * 5)

/-- Stage 4: the runs of R26. -/
def WheelRec.adhesionRuns (w : WheelRec) : WheelRec :=
  if w.disagrees then { w with disagree := min 4 (w.disagree + 1), agree := 0 }
  else { w with agree := min 2 (w.agree + 1), disagree := 0 }

/-- Stage 4: the adhesion state (R26, R28). Both runs are 0 after a change of state; SLIP entered discards the run-on, SLIP
cleared starts it. -/
def WheelRec.adhesionState (w : WheelRec) (now : Nat) (o : Int) (tuSlip : Bool) : WheelRec :=
  match w.adhesion with
  | .normal =>
    if w.disagree = 4 then
      { w with
        adhesion := if 0 < o then .slip else .slide
        disagree := 0, agree := 0
        runOn := if 0 < o then none else w.runOn }
    else w
  | .slip =>
    if w.agree = 2 ∧ !tuSlip then { w with adhesion := .normal, disagree := 0, agree := 0, runOn := some (now + 2000) } else w
  | .slide => if w.agree = 2 ∧ !tuSlip then { w with adhesion := .normal, disagree := 0, agree := 0 } else w

/-- Whether a traction unit that is ANSWERING reported slip in its last reply (R28, R78). -/
def TuRec.slipping (t : TuRec) : Bool := t.answering && (t.last.map TuReply.slip).getD false

/-- Whether either traction unit still reports slip (R28). -/
def TlinkRec.slipping (t : TlinkRec) : Bool := t.tu1.slipping || t.tu2.slipping

/-- Stage 4 (R22). -/
def WheelRec.stage4 (w : WheelRec) (now : Nat) (o : Int) (tuSlip : Bool) : WheelRec :=
  w.adhesionRuns.adhesionState now o tuSlip

/-- The empty-window run after this window (R29). -/
def WheelRec.nextEmptyRun (w : WheelRec) : Nat :=
  if w.s1.count = 0 ∧ w.s2.count = 0 then min 4 (w.emptyRun + 1) else 0

/-- STATIONARY after this window (R29): set when the run reaches 4, cleared by any pulse. -/
def WheelRec.nextStationary (w : WheelRec) : Bool :=
  if w.s1.count = 0 ∧ w.s2.count = 0 then w.stationary || decide (w.nextEmptyRun = 4) else false

/-- Stage 5 (R22, R29): entering STATIONARY clears the reverse-travel counter and ends ROLLBACK. -/
def WheelRec.stage5 (w : WheelRec) : WheelRec :=
  let enters := w.nextStationary && !w.stationary
  { w with
    emptyRun := w.nextEmptyRun, stationary := w.nextStationary
    reverse := if enters then 0 else w.reverse
    rollback := if enters then false else w.rollback }

/-- Stage 6: the counts of the next window (R22). -/
def WheelRec.stage6 (w : WheelRec) (now : Nat) : WheelRec :=
  { w with s1 := { w.s1 with count := 0 }, s2 := { w.s2 with count := 0 }, windowAt := now }

/-- WHEEL's own window end, its six stages in order (R22). -/
def WheelRec.windowEnd (w : WheelRec) (now c : Nat) (o : Int) (tuSlip : Bool) : WheelRec :=
  ((((w.stage1 c).stage2.stage3 o).stage4 now o tuSlip).stage5).stage6 now

/-- A status of a sensor changed between two records of WHEEL. -/
def statusChanged (w w' : WheelRec) : Bool := decide (w.s1.failed ≠ w'.s1.failed) || decide (w.s2.failed ≠ w'.s2.failed)

/-- The wheel's results published, with SENSOR_CHANGED and ADHESION (R22, R25, R28). -/
def State.publishWindow (s : State) : State :=
  let w' := s.wheel.windowEnd s.now s.settings.circumference s.shaper.o s.tlink.slipping
  { s with wheel := w' } |>.raiseIf (statusChanged s.wheel w') .sensorChanged
    |>.raiseIf (decide (s.wheel.adhesion ≠ w'.adhesion)) .adhesion

/-- Zero-pass disarmed at a window end that sets STATIONARY while the record's handle is released (R39). -/
def State.handleAtRest (s : State) : State :=
  { s with
    shaper := { s.shaper with
      zeroPass := if (s.shaper.demand.map DemandBody.handle).getD true then s.shaper.zeroPass else false } }

/-- What a window end that sets STATIONARY does in the other blocks: R39, R68, R14, R137, R83. -/
def State.comesToRest (s : State) : State :=
  s.handleAtRest.testStandstill.vigilStands.testSectionEnd.endLost

/-- DOOR_OPEN_MOVING at a window end that clears STATIONARY with the doors open (R55). -/
def State.doorMoving (s : State) : State :=
  { s with
    shaper := { s.shaper with doorReported := s.shaper.doorReported || !s.lines.dcl }
    raised := if !s.lines.dcl && !s.shaper.doorReported then addFlag s.raised Notice.doorOpenMoving.idx else s.raised }

/-- What a window end that clears STATIONARY does in the other blocks: R64, R55, R83. -/
def State.beginsToMove (s : State) : State :=
  (s.addSourceIf (!s.tlink.brk.answering) .brakeLink).doorMoving.vigilMoves

/-- The window end with what follows from it, the synchronisation check last (R7, R22). -/
def State.windowEnd (s : State) : State :=
  let s := s.reach (s.wheel.windowAt + 250)
  let s' := s.publishWindow
  State.syncCheck <|
    if s'.wheel.stationary && !s.wheel.stationary then s'.comesToRest
    else if !s'.wheel.stationary && s.wheel.stationary then s'.beginsToMove
    else s'

/-- The slip run-on ends (R28). -/
def State.runOnExpiry (s : State) : State :=
  match s.wheel.runOn with
  | none => s
  | some due => { s.reach due with wheel := { s.wheel with runOn := none } }

/-- A traction unit's slip flag sets SLIP at once (R27). -/
def State.slipReported (s : State) : State :=
  { s with
    wheel :=
      { s.wheel with
        adhesion := .slip, agree := 0, runOn := none
        disagree := if s.wheel.adhesion = .slip then s.wheel.disagree else 0 }
    raised := if s.wheel.adhesion = .slip then s.raised else addFlag s.raised Notice.adhesion.idx }

end Sys2Proof.Machine
end

