-- ==== Sys2Proof/Machine/Shaper.lean ====
section
/-! DEFINITION. SHAPER: the 10 ms period in its stages (03), freshness, and the demand frame's lever. -/

namespace Sys2Proof.Machine

/-- The lever of a DEMAND frame after the clamp of R36: -128 stands, the rest lies in -100..+100. -/
def clampLever (raw : BitVec 8) : Int :=
  if raw.toInt = -128 then -128 else max (-100) (min 100 raw.toInt)

/-- Whether the clamp changed the lever (R36). -/
def leverClamped (raw : BitVec 8) : Bool := decide (clampLever raw ≠ raw.toInt)

/-- The direction of a DEMAND frame's code; code 3 is none (R36, R185). -/
def directionOf (code : BitVec 2) : Option Direction :=
  if code = 0 then some .neutral else if code = 1 then some .forward else if code = 2 then some .reverse else none

/-- Stage 1: the lever target T_l (R41). -/
def leverTarget (held : Bool) (stage : Stage) (lever : Int) : Int :=
  if held then
    match stage with
    | .fresh => if lever = -128 then -1000 else 10 * lever
    | .coasting => 0
    | .staleBrake => -400
  else 0

/-- Stage 2: traction permission (R42). -/
def State.permission (s : State) : Bool :=
  s.auth.isHeld && decide (s.auth.direction ≠ .neutral) && (s.shaper.demand.map DemandBody.handle).getD false && s.lines.dcl &&
    s.shaper.zeroPass && s.shaper.calm && decide (s.vigil.state ≠ .penalty)

/-- Stage 2: T_l after permission (R42). -/
def permitted (p : Bool) (tl : Int) : Int := if p then tl else min tl 0

/-- Stage 3: the speed limit V_lim (R43). -/
def State.speedLimit (s : State) : Nat :=
  let caution := if s.caution then 100 else 800
  let rev := if s.auth.direction = .reverse then 100 else 800
  let degraded := if s.wheel.s1.failed || s.wheel.s2.failed then 250 else 800
  min (min s.settings.lineLimit caution) (min rev degraded)

/-- Stage 4: the envelope E (R44). -/
def envelope (v vLim : Nat) : Nat :=
  if v + 30 ≤ vLim then 1000 else if vLim ≤ v then 0 else 1000 * (vLim - v) / 30

/-- Stage 5: OVERSPEED (R45). -/
def overspeedNext (was : Bool) (v vLim : Nat) : Bool :=
  if vLim + 30 ≤ v then true else if v ≤ vLim then false else was

/-- Whether the slip ceiling applies (R46). -/
def WheelRec.slipCeiling (w : WheelRec) : Bool := decide (w.adhesion = .slip) || w.runOn.isSome

/-- Stage 6: the traction ceiling C (R46). -/
def State.ceiling (s : State) (e : Nat) : Nat :=
  if !s.tlink.tu1.answering && !s.tlink.tu2.answering then 0
  else min (min 1000 e) (if s.wheel.slipCeiling then 600 else 1000)

/-- Stage 7: the target T (R47). -/
def target (tl : Int) (c : Nat) (fast rollback stale : Bool) : Int :=
  let t := if 0 < tl then min tl (c : Int) else tl
  let t := if fast then min t (-300) else t
  let t := if rollback then min t (-300) else t
  if stale then min t (-400) else t

/-- Stage 9: the rate-limited step (R49). -/
def rateStep (prev t : Int) : Int :=
  if prev < t then
    if 0 ≤ prev then min t (prev + 15) else min (min t (prev + 40)) 0
  else if t < prev then
    if 0 < prev then max (max t (prev - 50)) 0 else max t (prev - 30)
  else prev

/-- Stage 10: the ceiling and permission clamp (R50). -/
def clampOut (x : Int) (c : Nat) (p : Bool) : Int :=
  let x := if 0 < x then min x (c : Int) else x
  if p then x else min x 0

/-- Stages 8 to 10: the output O (R48 to R50). -/
def outputOf (calm : Bool) (prev t : Int) (c : Nat) (p : Bool) : Int :=
  if calm then clampOut (rateStep prev t) c p else -1000

/-- Stage 11: the holding-brake flag (R51). -/
def brakeNext (was vacant stationary : Bool) (o : Int) : Bool :=
  if vacant then true else if stationary && decide (o ≤ 0) then true else if 50 < o then false else was

/-- What one period computes. -/
structure Period where
  t : Int
  vLim : Nat
  c : Nat
  overspeed : Bool
  o : Int
  brake : Bool
deriving DecidableEq, Repr

/-- The stages of a period (R40), every input read as it stands. -/
def State.computePeriod (s : State) : Period :=
  let lever := (s.shaper.demand.map DemandBody.lever).getD 0
  let p := s.permission
  let tl := permitted p (leverTarget s.auth.isHeld s.shaper.stage lever)
  let vLim := s.speedLimit
  let e := envelope s.wheel.v vLim
  let fast := overspeedNext s.shaper.overspeed s.wheel.v vLim
  let c := s.ceiling e
  let t := target tl c fast s.wheel.rollback (decide (s.shaper.stage = .staleBrake))
  let o := outputOf s.shaper.calm s.shaper.oPrev t c p
  { t := t, vLim := vLim, c := c, overspeed := fast, o := o
    brake := brakeNext s.shaper.holdingBrake s.auth.isVacant s.wheel.stationary o }

/-- SHAPER's SAND request (R53). -/
def State.wantsSand (s : State) : Bool :=
  decide (s.wheel.adhesion ≠ .normal) ||
    ((s.shaper.demand.map DemandBody.sand).getD false && decide (s.shaper.stage = .fresh) && decide (0 < s.wheel.v)) ||
    (!s.shaper.calm && decide (0 < s.wheel.v))

/-- SHAPER's TRACKBRAKE request (R54). -/
def State.wantsTrackBrake (s : State) : Bool := !s.shaper.calm && !s.wheel.stationary

/-- The departure bell at a period end that publishes O above 0 (R104). -/
def State.departure (s : State) : State :=
  let goes := s.sound.departurePending && decide (0 < s.shaper.o)
  { s with
    sound :=
      { (match s.auth.leading with
          | some e =>
            if goes && decide (s.settings.departureBell = 1) then s.sound.oneShot s.now (bellOf e) 2 .departureBell else s.sound
          | none => s.sound) with
        departurePending := s.sound.departurePending && !goes } }

/-- The period's results published (R40, R52 to R54). -/
def State.publishPeriod (s : State) (p : Period) : State :=
  { s with
    shaper :=
      { s.shaper with
        o := p.o, oPrev := p.o, t := p.t, vLim := p.vLim, c := p.c, overspeed := p.overspeed, holdingBrake := p.brake
        sandReq := s.wantsSand, trackReq := s.wantsTrackBrake, periodAt := s.now }
    tlink :=
      { s.tlink with
        handOver := { o := p.o, direction := s.auth.vdir, brake := p.brake, emergency := !s.shaper.calm } } }

/-- One shaper period (R40). -/
def State.shaperPeriod (s : State) : State :=
  let s := s.reach (s.shaper.periodAt + 10)
  (s.publishPeriod s.computePeriod).departure

/-- The 300 ms timer expires with the stage FRESH (R38, R103). -/
def State.freshExpiry (s : State) : State :=
  match s.shaper.demand, s.shaper.stage with
  | some d, .fresh =>
    let s := s.reach (d.takenAt + 300)
    State.refreshHornBell { s with shaper := { s.shaper with stage := .coasting, zeroPass := false } }
  | _, _ => s

/-- The 1000 ms timer expires with the stage COASTING (R38). -/
def State.staleExpiry (s : State) : State :=
  match s.shaper.demand, s.shaper.stage with
  | some d, .coasting =>
    let s := s.reach (d.takenAt + 1000)
    State.raise .demandStale { s with shaper := { s.shaper with stage := .staleBrake } }
  | _, _ => s

/-- The demand record a holder's frame leaves at stage 3 (R37). -/
def DemandBody.ofFrame (f : DemandFrame) (now : Nat) : DemandBody :=
  { lever := clampLever f.lever, handle := f.handle, horn := f.horn, bell := f.bell, sand := f.sand, takenAt := now }

/-- Stage 2 of a holder's frame (R37, R39): a handle released at rest disarms zero-pass. -/
def State.frameHandle (f : DemandFrame) (s : State) : State :=
  let drops := (s.shaper.demand.map DemandBody.handle).getD false && !f.handle && s.wheel.stationary
  { s with shaper := { s.shaper with zeroPass := if drops then false else s.shaper.zeroPass } }

/-- Stage 3 of a holder's frame (R37): the record written, the stage FRESH; then the removal test of LEVER (R60, log 14). -/
def State.frameWrite (f : DemandFrame) (s : State) : State :=
  State.testLever { s with shaper := { s.shaper with demand := some (.ofFrame f s.now), stage := .fresh } }

/-- Stage 4 of a holder's frame (R37, R39, R60): zero-pass armed at or below zero, LEVER added at -128. -/
def State.frameLever (f : DemandFrame) (s : State) : State :=
  State.addSourceIf (decide (clampLever f.lever = -128)) .lever
    { s with shaper := { s.shaper with zeroPass := s.shaper.zeroPass || decide (clampLever f.lever ≤ 0) } }

/-- Stage 5 of a holder's frame (R37): VIGIL, with the buttons of the record before the frame, and SOUND. -/
def State.frameHandOn (before : Option DemandBody) (f : DemandFrame) (s : State) : State :=
  State.refreshHornBell <|
    State.vigilFrame { lever := clampLever f.lever, handle := f.handle, edge := pressEdge before f.horn f.bell } s

/-- A holder's frame applied in its five stages (R37). -/
def State.holderFrame (x : Cab) (d : Direction) (f : DemandFrame) (s : State) : State :=
  let before := s.shaper.demand
  let s := if s.turns d then s.turn x d else s
  (((s.frameHandle f).frameWrite f).frameLever f).frameHandOn before f

/-- A claimant's frame (R6): the claimant fields written, then the synchronisation check. -/
def State.claimantFrame (d : Direction) (f : DemandFrame) (s : State) : State :=
  match s.auth with
  | .claiming x start _ =>
    State.syncCheck
      { s with
        auth := .claiming x start (some
          { lever := clampLever f.lever, direction := d, handle := f.handle, horn := f.horn, bell := f.bell, sand := f.sand,
            frameTime := s.now }) }
  | _ => s

end Sys2Proof.Machine
end

