-- ==== Sys2Proof/Machine/Outbank.lean ====
section
/-! DEFINITION. OUTBANK, ILINK and the switch die: drive bits, drive and status frames, switch states, sticky fault sets (08). -/

namespace Sys2Proof.Machine

/-! ### Drive bits (R118, R119) -/

/-- Whether the test slot requests a channel: its step there is on (R108). -/
def SoundRec.testOn (s : SoundRec) (ch : SetChannel) : Bool :=
  match s.testSlot with
  | none => false
  | some (c, i) => decide (c = ch) && (s.stepOf i).on

/-- Whether the request set of a channel is non-empty (R119): its block's member, or the output test's. -/
def State.requested (s : State) : SetChannel → Bool
  | .stopsign => s.stop.record.requested || s.sound.testOn .stopsign
  | .sand => s.shaper.sandReq || s.sound.testOn .sand
  | .trackbrake => s.shaper.trackReq || s.sound.testOn .trackbrake

/-- The drive bit of a channel (R118). -/
def State.driveBit (s : State) (n : Fin 12) : Bool :=
  match n.val with
  | 0 => s.sound.isOn .hornA
  | 1 => s.sound.isOn .hornB
  | 2 => s.sound.isOn .bellA
  | 3 => s.sound.isOn .bellB
  | 4 => s.sound.isOn .buzzA
  | 5 => s.sound.isOn .buzzB
  | 6 => s.requested .stopsign
  | 7 => s.sound.isOn .chime
  | 8 => s.requested .sand
  | 9 => s.requested .trackbrake
  | 10 => s.sound.isOn .hazard
  | _ => s.shaper.calm

/-- The twelve drive bits as a drive frame carries them (R114). -/
def State.driveBits (s : State) : BitVec 12 :=
  (List.finRange 12).foldl (fun x n => if s.driveBit n then addFlag x n.val else x) 0

/-! ### The switch die (R110 to R113) -/

/-- A channel under a taken drive bit (R111). -/
def SwitchChan.drive (c : SwitchChan) (bit : Bool) : SwitchChan :=
  match c.sw with
  | .off => { c with sw := if bit then .on else .off }
  | .on => { c with sw := if bit then .on else .off }
  | .retryWait _ => c
  | .latchedOff => if bit then c else { c with sw := .off, history := [] }

/-- A taken drive frame (R110): every channel follows its bit. -/
def DieRec.take (d : DieRec) (bits : BitVec 12) : DieRec :=
  { d with taken := bits, chans := rowOf fun n => (cell d.chans n).drive (hasFlag bits n.val) }

/-- A good drive frame (R110): taken while FOLLOWING; in SAFE counted, and the eighth is taken. -/
def DieRec.goodFrame (d : DieRec) (now : Nat) (f : DriveFrame) : DieRec :=
  let d := { d with echo := f.count, lastGood := now }
  if d.following then d.take f.bits
  else if 8 ≤ d.recovery + 1 then { d with following := true, recovery := 8 }.take f.bits
  else { d with recovery := d.recovery + 1 }

/-- A bad drive frame (R110): ignored while FOLLOWING; in SAFE the recovery run returns to 0. -/
def DieRec.badFrame (d : DieRec) : DieRec := { d with recovery := if d.following then d.recovery else 0 }

/-- Whether a channel's output is physically on (R111). -/
def DieRec.physicallyOn (d : DieRec) (n : Fin 12) : Bool :=
  decide ((cell d.chans n).sw = .on) && !(cell d.chans n).hot && !d.uv && d.following

/-- Whether a channel waits for a retry (R111). -/
def SwitchChan.waiting (c : SwitchChan) : Bool :=
  match c.sw with
  | .retryWait _ => true
  | _ => false

/-- What a status frame says of a channel (R110 to R112); `low` is whether its current is below the open-load level. -/
def DieRec.chanStatus (d : DieRec) (low : Bool) (n : Fin 12) : ChanStatus :=
  { on := d.physicallyOn n, openLoad := d.physicallyOn n && low, overload := (cell d.chans n).waiting
    overtemp := (cell d.chans n).hot, latched := decide ((cell d.chans n).sw = .latchedOff) }

/-- The status frame the die answers (R110). -/
def DieRec.answer (d : DieRec) (openLoad : BitVec 12) : StatusFrame :=
  { following := d.following, uv := d.uv, zeros := 0, echo := d.echo
    chans := rowOf fun n => d.chanStatus (hasFlag openLoad n.val) n }

/-- A drive frame at the die: its effect and the status frame answered in the same slot (R110). -/
def DieRec.receive (d : DieRec) (now : Nat) (f : DriveFrame) (a : DriveArrival) (openLoad : BitVec 12) : DieRec :=
  match a with
  | .good => let d' := d.goodFrame now f; { d' with status := some (d'.answer openLoad) }
  | .bad => let d' := d.badFrame; { d' with status := some (d'.answer openLoad) }
  | .lost => { d with status := none }

/-- A drive frame is sent (R114). -/
def State.sendDrive (a : DriveArrival) (openLoad : BitVec 12) (s : State) : State :=
  let s := s.reach ((s.outbank.driveAt.map fun t => t + 1).getD s.now)
  let f : DriveFrame := { bits := s.driveBits, count := s.outbank.driveCount }
  { s with
    outbank := { s.outbank with driveCount := s.outbank.driveCount + 1, driveAt := some s.now, sent := some f }
    die := s.die.receive s.now f a openLoad }

/-- SAFE entered (R110): ON channels go OFF, the recovery run is 0. -/
def DieRec.enterSafe (d : DieRec) : DieRec :=
  { d with
    following := false, recovery := 0
    chans := rowOf fun n =>
      { cell d.chans n with sw := if (cell d.chans n).sw = .on then .off else (cell d.chans n).sw } }

/-- 16 ms without a good drive frame (R110). -/
def State.dieSafe (s : State) : State :=
  if s.die.following then
    let s := s.reach (s.die.lastGood + 16)
    { s with die := s.die.enterSafe }
  else s

/-- A channel's overload at a time (R111): recorded; the third within 60 s latches, otherwise a retry of 1000 ms. -/
def SwitchChan.overload (c : SwitchChan) (now : Nat) : SwitchChan :=
  let h := now :: c.history.filter fun t => decide (now ≤ t + 60000)
  { c with history := h, sw := if 3 ≤ h.length then .latchedOff else .retryWait (now + 1000) }

/-- A current limit trips (R111); it can only while the output is physically on. -/
def DieRec.trip (d : DieRec) (now : Nat) (n : Fin 12) : DieRec :=
  if d.physicallyOn n then { d with chans := putCell d.chans n ((cell d.chans n).overload now) } else d

/-- A retry expires (R111): ON or OFF by the latest taken bit; in SAFE no channel is switched on (R110, log 18). -/
def State.retryExpiry (n : Fin 12) (s : State) : State :=
  match (cell s.die.chans n).sw with
  | .retryWait due =>
    let s := s.reach due
    let on := hasFlag s.die.taken n.val && s.die.following
    { s with
      die := { s.die with chans := putCell s.die.chans n { cell s.die.chans n with sw := if on then .on else .off } } }
  | _ => s

/-- A channel's switch passes its temperature limit, one way or the other (R112). -/
def DieRec.setHot (d : DieRec) (n : Fin 12) (hot : Bool) : DieRec :=
  { d with chans := putCell d.chans n { cell d.chans n with hot := hot } }

/-- The output supply recovers (R113): the die restarts its channels and keeps its follow state. -/
def DieRec.uvRecover (d : DieRec) : DieRec :=
  { d with uv := false, chans := rowOf fun n => { sw := .off, history := [], hot := (cell d.chans n).hot } }

/-- The die's own supply comes up (R110); the outside conditions it senses, UV and hot switches, are kept (log 29). DESIGN CHOICE
(log 52): a status frame with which the die has answered in a slot still open is lost with its supply. -/
def DieRec.restart (d : DieRec) : DieRec :=
  { DieRec.powerUp with
    uv := d.uv, lastGood := d.lastGood
    chans := rowOf fun n => { sw := .off, history := [], hot := (cell d.chans n).hot } }

/-! ### Sticky sets (R120, R121) -/

/-- The sticky set is non-empty (R120). -/
def Sticky.nonEmpty (k : Sticky) : Bool := k.uv || k.te || k.linkLost || k.chans.toList.any fun x => x != 0

/-- FAULT is driven low while Port V's sticky set is non-empty (R124). -/
def State.faultLow (s : State) : Bool := s.outbank.sticky.v.nonEmpty

/-- The four fault flags a status frame reports of a channel (R117, R121). -/
def chanFlags (c : ChanStatus) : BitVec 4 :=
  (if c.openLoad then addFlag 0 0 else 0) ||| (if c.overload then addFlag 0 1 else 0) |||
    (if c.overtemp then addFlag 0 2 else 0) ||| (if c.latched then addFlag 0 3 else 0)

/-- What a slot adds to every sticky set. -/
structure Additions where
  chans : Vector (BitVec 4) 12
  uv : Bool
  te : Bool
  linkLost : Bool
deriving DecidableEq, Repr

/-- A sticky set with additions made. -/
def Sticky.add (k : Sticky) (x : Additions) : Sticky :=
  { chans := rowOf fun n => cell k.chans n ||| cell x.chans n, uv := k.uv || x.uv, te := k.te || x.te
    linkLost := k.linkLost || x.linkLost }

/-- The additions made to the three sets, with OUTPUT_FAULT to each port whose set went from empty to non-empty (R121). -/
def State.addSticky (x : Additions) (s : State) : State :=
  let note (p : Port) (r : PortRec) : PortRec :=
    if !(s.outbank.sticky.get p).nonEmpty && ((s.outbank.sticky.get p).add x).nonEmpty then
      r.notify (addFlag 0 Notice.outputFault.idx)
    else r
  { s with
    outbank := { s.outbank with sticky := s.outbank.sticky.map fun k => k.add x }
    ports := { a := note .A s.ports.a, b := note .B s.ports.b, v := note .V s.ports.v } }

/-! ### The status slot (R115 to R117, R66) -/

/-- The frame that arrives in the slot with a correct check, if any (R115). -/
def State.arrived (s : State) : StatusArrival → Option StatusFrame
  | .asSent => s.die.status
  | .missing => none
  | .badCheck => none
  | .other f => some f

/-- A status frame makes the slot good (R115): it echoes the count of this slot's drive frame, reports FOLLOWING, and its zero
bits are 0. -/
def goodStatus (sent : Option DriveFrame) (f : StatusFrame) : Bool :=
  decide (sent.map DriveFrame.count = some f.echo) && f.following && f.zeros == 0

/-- The EBLOOP mismatch run after a good frame (R66): increased when EBLOOP was commanded on and is reported off, else 0. -/
def mismatchNext (run : Nat) (commanded reportedOn : Bool) : Nat := if commanded && !reportedOn then run + 1 else 0

/-- Whether a drive frame commanded EBLOOP on. -/
def loopCommanded (sent : Option DriveFrame) : Bool := (sent.map fun f => hasFlag f.bits 11).getD false

/-- The channel records and the live UV flag a good frame leaves (R117). -/
def OutbankRec.takeStatus (o : OutbankRec) (f : StatusFrame) : OutbankRec :=
  { o with
    reported := rowOf fun n => some (cell f.chans n).on
    live := rowOf fun n => chanFlags (cell f.chans n)
    liveUv := f.uv }

/-- A good slot (R116, R117, R121, R66, R67). -/
def State.goodSlot (f : StatusFrame) (s : State) : State :=
  let run := mismatchNext s.shaper.mismatch (loopCommanded s.outbank.sent) (cell f.chans 11).on
  let comesUp := !s.outbank.linkUp && decide (8 ≤ s.outbank.goodRun + 1)
  let s' := State.addSticky
    { chans := rowOf fun n => chanFlags (cell f.chans n), uv := f.uv, te := false, linkLost := false }
    { s with
      outbank :=
        { s.outbank.takeStatus f with
          badRun := 0, goodRun := min 8 (s.outbank.goodRun + 1), linkUp := s.outbank.linkUp || comesUp }
      shaper := { s.shaper with mismatch := if run = 3 then 0 else run } }
  let s'' := s'.addSourceIf (decide (run = 3)) .loopDropped
  if comesUp then s''.testLoopDropped else s''

/-- A bad slot (R116, R121, R66). -/
def State.badSlot (s : State) : State :=
  let goesDown := s.outbank.linkUp && decide (16 ≤ s.outbank.badRun + 1)
  State.addSourceIf goesDown .loopDropped <|
    State.addSticky { chans := Vector.replicate 12 0, uv := false, te := true, linkLost := goesDown }
      { s with
        outbank :=
          { s.outbank with
            goodRun := 0, badRun := min 16 (s.outbank.badRun + 1), linkUp := s.outbank.linkUp && !goesDown } }

/-- The slot closes and ILINK judges its status frame (R115). DESIGN CHOICE (log 45): the close takes no time of its own and is
not held back to the next drive frame's start. -/
def State.slotClose (a : StatusArrival) (s : State) : State :=
  let s' := match s.arrived a with
    | some f => if goodStatus s.outbank.sent f then s.goodSlot f else s.badSlot
    | none => s.badSlot
  { s' with die := { s'.die with status := none } }

/-! ### The summary read (R122) -/

/-- The sticky set reduced to the kinds still live (R120, R122). -/
def Sticky.reduce (k : Sticky) (o : OutbankRec) : Sticky :=
  { chans := if o.linkUp then rowOf fun n => cell k.chans n &&& cell o.live n else k.chans
    uv := k.uv && (!o.linkUp || o.liveUv)
    te := k.te && decide (0 < o.badRun)
    linkLost := k.linkLost && !o.linkUp }

/-- A port's summary read: its detail view copied, its sticky set reduced (R122). -/
def OutbankRec.summaryRead (o : OutbankRec) (p : Port) : OutbankRec :=
  { o with
    detail := o.detail.put p (o.sticky.get p).chans
    sticky := o.sticky.put p ((o.sticky.get p).reduce o) }

end Sys2Proof.Machine
end

