-- ==== Sys2Proof/Machine/Supply.lean ====
section
/-! DEFINITION. SUPPLY and SETTINGS: the resets of the control die, battery sense, and the settings record (12). -/

namespace Sys2Proof.Machine

/-! ### Resets (R178 to R180) -/

/-- The ports after a reset whose end finds the select lines at these levels (R168, R169). -/
def portsReset (sel : SelLow) : ByPort PortRec := { a := .reset sel.a, b := .reset sel.b, v := .reset sel.v }

/-- Every block of the control die at the values its chapter gives after reset, alike for the three kinds (R178). The switch die,
the lines, the queue and the reset cause record are kept (R125, R180); no sounder runs yet. -/
def State.resetBlocks (s : State) : State :=
  { s with
    raised := 0, ports := portsReset { a := false, b := false, v := false }, auth := .vacant, wheel := .reset s.now,
    shaper := .reset s.now, tlink := .reset, vigil := .reset, sound := .silent, outbank := .reset, stop := .reset s.lines.dcl,
    junct := .reset, supply := .reset s.now s.supply.causes s.supply.latest, settings := .reset }

/-- A kind added to the cause record, and latest made that kind (R180). -/
def SupplyRec.note (r : SupplyRec) (k : ResetKind) : SupplyRec := { r with causes := addFlag r.causes k.idx, latest := k }

/-- A reset ends: the blocks start at their reset values, the lines are sampled (R57, R136, R168, R179), and the hazard request
is placed (R96). A pressed line adds its source to the set that holds STARTUP, with no notice. -/
def State.endReset (sel : SelLow) (s : State) : State :=
  let r := s.resetBlocks
  { r with
    held := false, epoch := s.now, ports := portsReset sel, sound := r.sound.place s.now .hazard
    supply := { r.supply with latch := if s.lines.resetnLow then .timing else .idle }
    shaper :=
      { r.shaper with
        sources := r.shaper.sources ||| (if s.lines.emstopA then addFlag 0 EmSource.emstopA.idx else 0) |||
          (if s.lines.emstopB then addFlag 0 EmSource.emstopB.idx else 0) } }

/-- SUPPLY_LOW carried out (R178): every block reset, the die held, the cause noted. A die already held is left as it is. -/
def State.enterSupplyLow (s : State) : State :=
  if s.held then s
  else
    let r := s.resetBlocks
    { r with held := true, supply := { r.supply.note .supplyLow with lowRun := 8 } }

/-- A PIN reset, carried out and ended at the rising edge (R179, R180). -/
def State.pinReset (sel : SelLow) (s : State) : State := State.endReset sel { s with supply := s.supply.note .pin }

/-- A POWER_ON reset up to its end (R178, R180; log 8): the cause record emptied, then POWER_ON. -/
def State.powerOn (lines : Lines) (sel : SelLow) (s : State) : State :=
  State.endReset sel { s with lines := lines, supply := { s.supply with causes := addFlag 0 ResetKind.powerOn.idx, latest := .powerOn } }

/-- A core-supply sample (R178): the low run advances or clears; at 8 the SUPPLY_LOW reset is carried out; a sample at or above
the threshold ends it. -/
def State.coreSample (low : Bool) (sel : SelLow) (s : State) : State :=
  let s := s.reach (s.supply.coreAt + 1)
  if low then
    let s' := { s with supply := { s.supply with lowRun := min 8 (s.supply.lowRun + 1), coreAt := s.now } }
    if s'.supply.lowRun = 8 then s'.enterSupplyLow else s'
  else if s.held then State.endReset sel s
  else { s with supply := { s.supply with lowRun := 0, coreAt := s.now } }

/-- RESETn falls (R179). -/
def State.resetFall (s : State) : State :=
  { s with
    lines := { s.lines with resetnLow := true }
    supply := { s.supply with latch := if !s.held && decide (s.supply.latch = .idle) then .timing else s.supply.latch } }

/-- 100 us pass with RESETn still low (R179). -/
def State.latchArmed (s : State) : State :=
  { s with supply := { s.supply with latch := if !s.held && decide (s.supply.latch = .timing) then .armed else s.supply.latch } }

/-- RESETn rises (R179): a short pulse is ignored; an armed latch carries out the PIN reset; a die held in reset notices
nothing. -/
def State.resetRise (sel : SelLow) (s : State) : State :=
  let s := { s with lines := { s.lines with resetnLow := false } }
  if s.held then s
  else
    match s.supply.latch with
    | .armed => s.pinReset sel
    | _ => { s with supply := { s.supply with latch := .idle } }

/-! ### Battery (R181) -/

/-- The battery level of a code, in mV (R182). -/
def batteryLevel (code : Nat) : Nat := if code = 0 then 18000 else if code = 1 then 19500 else 21000

/-- A battery sample: the two runs (R181). -/
def SupplyRec.batRuns (r : SupplyRec) (level mv : Nat) : SupplyRec :=
  { r with
    batLow := if mv < level then min 12 (r.batLow + 1) else 0
    batHigh := if level + 500 < mv then min 12 (r.batHigh + 1) else 0 }

/-- A battery sample (R181): the runs, then the flag; setting it raises BATTERY_LOW. -/
def State.batterySample (mv : Nat) (s : State) : State :=
  let s := s.reach (s.supply.batAt + 10)
  let r := s.supply.batRuns (batteryLevel s.settings.battery) mv
  let sets := !s.supply.batteryLow && decide (r.batLow = 12)
  let clears := s.supply.batteryLow && decide (r.batHigh = 12)
  { s with
    supply := { r with batteryLow := (s.supply.batteryLow || sets) && !clears, batAt := s.now }
    raised := if sets then addFlag s.raised Notice.batteryLow.idx else s.raised }

/-! ### Settings (R182 to R184) -/

/-- A value moved to the nearest bound of a range (R183). -/
def clampTo (lo hi x : Nat) : Nat := max lo (min hi x)

/-- The range of a settings field but the touch assignment (R182). -/
def settingRange (field : Nat) : Nat × Nat :=
  match field with
  | 0 => (1, 9999)
  | 1 => (0, 999)
  | 2 => (1760, 2140)
  | 3 => (20, 60)
  | 4 => (10, 30)
  | 5 => (50, 800)
  | 6 => (20, 120)
  | 7 => (0, 1)
  | 8 => (20, 400)
  | _ => (0, 2)

/-- A field that may be written only in VACANT at standstill (R182). -/
def restricted (field : Nat) : Bool := decide (field = 2) || decide (field = 3) || decide (field = 4)

/-- A numbered field but the touch assignment set to a value (R182). -/
def SettingsRec.put (r : SettingsRec) (field x : Nat) : SettingsRec :=
  match field with
  | 0 => { r with tram := x }
  | 1 => { r with run := x }
  | 2 => { r with circumference := x }
  | 3 => { r with vigilInterval := x }
  | 4 => { r with handleGrace := x }
  | 5 => { r with lineLimit := x }
  | 6 => { r with cautionLead := x }
  | 7 => { r with departureBell := x }
  | 8 => { r with threshold := x }
  | 10 => { r with battery := x }
  | _ => r

/-- A numbered field but the touch assignment, as stored (R182). -/
def SettingsRec.look (r : SettingsRec) (field : Nat) : Nat :=
  match field with
  | 0 => r.tram
  | 1 => r.run
  | 2 => r.circumference
  | 3 => r.vigilInterval
  | 4 => r.handleGrace
  | 5 => r.lineLimit
  | 6 => r.cautionLead
  | 7 => r.departureBell
  | 8 => r.threshold
  | _ => r.battery

/-- The assignment a value of field 9 names, its door clamped to 1-6 (R183, R185); none for another kind code. -/
def assignmentOf (value : Nat) : Option Assignment :=
  match value / 256 with
  | 0 => some .disabled
  | 1 => some (.door (clampTo 1 6 (value % 256)))
  | 2 => some (.wheelchair (clampTo 1 6 (value % 256)))
  | _ => none

/-- Whether the door of an assignment's value was clamped (R183). DESIGN CHOICE (log 50): DISABLED has no door, so its low byte is
not clamped whatever it is. -/
def doorClamped (value : Nat) : Bool := decide (value / 256 ≠ 0) && decide (clampTo 1 6 (value % 256) ≠ value % 256)

/-- A taken write of a field but the touch assignment (R183, R184): a write of the battery level sets both runs to 0 (R181). -/
def State.writeSetting (field value : Nat) (s : State) : State :=
  { s with
    settings := s.settings.put field (clampTo (settingRange field).1 (settingRange field).2 value)
    supply := if field = 10 then { s.supply with batLow := 0, batHigh := 0 } else s.supply }

/-- A taken write of a touch assignment, acting on the channel's record at once (R127, R184). -/
def State.writeTouch (k : Fin 16) (a : Assignment) (s : State) : State :=
  { s with
    settings := { s.settings with touch := putCell s.settings.touch k a }
    stop := { s.stop with chans := putCell s.stop.chans k ((cell s.stop.chans k).reassign (cell s.settings.touch k) a) } }

end Sys2Proof.Machine
end

