-- ==== Sys2Proof/Machine/Tlink.lean ====
section
/-! DEFINITION. TLINK: the cycle, polls, replies and misses (05). -/

namespace Sys2Proof.Machine

/-- The command frame to a traction unit (R72). -/
def TlinkRec.tuCommand (t : TlinkRec) : TuCommand :=
  { demand := t.handOver.o, direction := t.handOver.direction, brake := t.handOver.brake, emergency := t.handOver.emergency,
    count := t.cycle }

/-- The command frame to BRK (R73): the magnitude of O when below zero, else 0. -/
def TlinkRec.brkCommand (t : TlinkRec) : BrkCommand :=
  { demand := if t.handOver.o < 0 then t.handOver.o.natAbs else 0, brake := t.handOver.brake, emergency := t.handOver.emergency }

/-- The station a poll addresses. -/
def Poll.station : Poll → Station
  | .tu1 _ => .tu1
  | .tu2 _ => .tu2
  | .brk _ => .brk

/-- The time a poll's reply window closes (R74; log 35). -/
def PollRec.closes (p : PollRec) : Nat := p.began + 2

/-- The open poll of a station. -/
def TlinkRec.pollOf (t : TlinkRec) (st : Station) : Option PollRec := t.poll.filter fun p => decide (p.frame.station = st)

/-- A cycle begins (R71): TU1 is polled; the first cycle after a reset carries count 0 (log 16). -/
def TlinkRec.startCycle (t : TlinkRec) (now : Nat) : TlinkRec :=
  let t := { t with cycle := if t.cycleAt.isSome then (t.cycle + 1) % 16 else t.cycle, cycleAt := some now }
  { t with poll := some { frame := .tu1 t.tuCommand, began := now }, answered := [] }

/-- The open poll joins those that a reply has closed: its window runs on after it (R74). -/
def TlinkRec.answer (t : TlinkRec) : TlinkRec := { t with answered := t.poll.toList ++ t.answered }

/-- The close of a station's poll begins the next station's (R71). -/
def TlinkRec.nextPoll (t : TlinkRec) (now : Nat) : Station → TlinkRec
  | .tu1 => { t with poll := some { frame := .tu2 t.tuCommand, began := now } }
  | .tu2 => { t with poll := some { frame := .brk t.brkCommand, began := now } }
  | .brk => { t with poll := none }

/-- A traction unit's record after a good reply (R75). -/
def TuRec.good (_ : TuRec) (r : TuReply) : TuRec := { answering := true, missRun := 0, last := some r }

/-- BRK's record after a good reply (R75). -/
def BrkRec.good (_ : BrkRec) (r : BrkReply) : BrkRec := { answering := true, missRun := 0, last := some r }

/-- A traction unit's record after a miss (R76). -/
def TuRec.miss (t : TuRec) : TuRec :=
  { t with missRun := min 5 (t.missRun + 1), answering := t.answering && decide (t.missRun + 1 < 5) }

/-- BRK's record after a miss (R76). -/
def BrkRec.miss (t : BrkRec) : BrkRec :=
  { t with missRun := min 5 (t.missRun + 1), answering := t.answering && decide (t.missRun + 1 < 5) }

/-- What of a traction unit's record STATION_CHANGED reports (R77). -/
def TuRec.watched (t : TuRec) : Bool × Option (UnitState × Bool) := (t.answering, t.last.map fun r => (r.unit, r.lineVoltage))

/-- What of BRK's record STATION_CHANGED reports (R77). -/
def BrkRec.watched (t : BrkRec) : Bool × Option (UnitState × Bool) :=
  (t.answering, t.last.map fun r => (r.unit, r.brakeAvailable))

/-- A closing of TU1's poll that leaves a record: STATION_CHANGED by R77, then TU2's poll. -/
def State.closeTu1 (t : TuRec) (s : State) : State :=
  { s with
    tlink := { s.tlink with tu1 := t }.nextPoll s.now .tu1
    raised := if s.tlink.tu1.watched ≠ t.watched then addFlag s.raised Notice.stationChanged.idx else s.raised }

/-- A closing of TU2's poll that leaves a record: STATION_CHANGED by R77, then BRK's poll. -/
def State.closeTu2 (t : TuRec) (s : State) : State :=
  { s with
    tlink := { s.tlink with tu2 := t }.nextPoll s.now .tu2
    raised := if s.tlink.tu2.watched ≠ t.watched then addFlag s.raised Notice.stationChanged.idx else s.raised }

/-- A closing of BRK's poll that leaves a record: STATION_CHANGED by R77; BRAKE_LINK as the link state changed (R64, R80); the
synchronisation check (R79). -/
def State.closeBrk (t : BrkRec) (s : State) : State :=
  let s' := { s with
    tlink := { s.tlink with brk := t }.nextPoll s.now .brk
    raised := if s.tlink.brk.watched ≠ t.watched then addFlag s.raised Notice.stationChanged.idx else s.raised }
  State.syncCheck <|
    if t.answering && !s.tlink.brk.answering then s'.testBrakeLink
    else if !t.answering && s.tlink.brk.answering then s'.addSourceIf (!s.wheel.stationary) .brakeLink
    else s'

/-- A station's poll closes with a miss (R76). -/
def State.closeMiss (st : Station) (s : State) : State :=
  match st with
  | .tu1 => s.closeTu1 s.tlink.tu1.miss
  | .tu2 => s.closeTu2 s.tlink.tu2.miss
  | .brk => s.closeBrk s.tlink.brk.miss

/-- A traction unit's reply lies within its values (R74): an effort of at most 1000. -/
def tuReplyIn (r : TuReply) : Bool := decide (r.effort.toNat ≤ 1000)

/-- The slip flag of a good reply handed to WHEEL (R27, R78). -/
def State.takeSlip (r : TuReply) (s : State) : State := if r.slip then s.slipReported else s

/-- The station a reply comes from. -/
def replyStation : StationReply → Station
  | .tu1 _ => .tu1
  | .tu2 _ => .tu2
  | .brk _ => .brk

/-- The polled station's reply, complete in its window: taken when it is good (R75); a reply outside its values is bad, hence a
miss (R74). -/
def State.closeReply (r : StationReply) (s : State) : State :=
  match r with
  | .tu1 r => if tuReplyIn r then (s.closeTu1 (s.tlink.tu1.good r)).takeSlip r else s.closeMiss .tu1
  | .tu2 r => if tuReplyIn r then (s.closeTu2 (s.tlink.tu2.good r)).takeSlip r else s.closeMiss .tu2
  | .brk r => s.closeBrk (s.tlink.brk.good r)

/-- The poll whose reply window is open: a poll is open and its window has not closed (R74). -/
def State.window (s : State) : Option PollRec := s.tlink.poll.filter fun p => decide (s.now ≤ p.closes)

/-- A station's window still runs after its reply has been taken (R74). -/
def State.replied (s : State) (st : Station) : Bool :=
  s.tlink.answered.any fun p => decide (p.frame.station = st) && decide (s.now ≤ p.closes)

/-- The open poll marked as answered: a reply, good or bad, is about to close it (R74). -/
def State.answer (s : State) : State := { s with tlink := s.tlink.answer }

/-- A good reply arrives (R74): discarded outside every window, so also when a reset has abandoned the poll it answers (R70). From
the polled station it closes the poll. From another station it is a miss for the polled station, but discarded while the sender's
own window runs on after its reply. DEDUCED (log 53): the row names a sender and no time of its characters, so a reply is read
against its sender's window where that still runs. -/
def State.stationReply (r : StationReply) (s : State) : State :=
  match s.window with
  | none => s
  | some p =>
    if replyStation r = p.frame.station then s.answer.closeReply r
    else if s.replied (replyStation r) then s
    else s.answer.closeMiss p.frame.station

/-- A poll of a station closes with a miss (R74, R76): on a bad reply while its window is open, else at the window's close. It
names the polled station; without an open poll of that station nothing happens (log 17). -/
def State.stationMiss (st : Station) (cause : MissCause) (s : State) : State :=
  match s.tlink.pollOf st with
  | none => s
  | some p =>
    match cause with
    | .bad => if s.now ≤ p.closes then s.answer.closeMiss st else s
    | .missing => (s.reach p.closes).closeMiss st

/-- A cycle begins 20 ms after the one before (R71). -/
def State.cycleStart (s : State) : State :=
  let s := s.reach ((s.tlink.cycleAt.map fun t => t + 20).getD s.now)
  { s with tlink := s.tlink.startCycle s.now }

end Sys2Proof.Machine
end

