-- ==== Sys2Proof/Machine/Ports.lean ====
section
/-! DEFINITION. PORTS: the taking of a frame, its gating by standing, and the reply it leaves pending (11). -/

namespace Sys2Proof.Machine

/-- Which standings a command is taken from (R172). -/
abbrev Permit := Standing → Bool

/-- All standings. -/
def permitAll : Permit := fun _ => true

/-- DRIVING alone. -/
def permitDriving : Permit := fun x => decide (x = .driving)

/-- VEHICLE alone. -/
def permitVehicle : Permit := fun x => decide (x = .vehicle)

/-- DRIVING and CLAIMING. -/
def permitDesk : Permit := fun x => decide (x = .driving) || decide (x = .claiming)

/-- The three cab standings. -/
def permitCab : Permit := fun x => decide (x ≠ .vehicle)

/-- DRIVING and VEHICLE. -/
def permitStop : Permit := fun x => decide (x = .driving) || decide (x = .vehicle)

/-- The catalogue's codes with their standings (R172). -/
def catalogue : List (BitVec 8 × Permit) :=
  [(0x00, permitAll), (0x01, permitAll), (0x02, permitAll), (0x10, permitDesk), (0x11, permitCab), (0x12, permitDriving),
    (0x13, permitDriving), (0x14, permitVehicle), (0x20, permitDriving), (0x21, permitDriving), (0x23, permitAll),
    (0x30, permitStop), (0x31, permitStop), (0x32, permitAll), (0x33, permitVehicle), (0x40, permitAll), (0x41, permitAll),
    (0x42, permitVehicle), (0x50, permitVehicle), (0x51, permitVehicle), (0x52, permitVehicle), (0x53, permitVehicle),
    (0x54, permitVehicle), (0x55, permitVehicle), (0x60, permitVehicle), (0x61, permitVehicle), (0x62, permitVehicle),
    (0x63, permitVehicle), (0x64, permitVehicle), (0x65, permitVehicle), (0x66, permitVehicle), (0x70, permitVehicle)]

/-- The standings a code is taken from; none for a code outside the catalogue (R171, R172). -/
def permitOf (code : BitVec 8) : Option Permit := (catalogue.find? fun e => e.1 == code).map Prod.snd

/-- The port record after a taking: the shift state IDLE and a reply pending (R170, R171). -/
def PortRec.answered (r : PortRec) (reply : Reply) : PortRec := { r with shift := .idle, reply := reply }

/-- A reply made pending on a port. -/
def State.reply (p : Port) (r : Reply) (s : State) : State := { s with ports := s.ports.put p ((s.ports.get p).answered r) }

/-- The reply of an answer to a command code. -/
def Answer.reply (a : Answer) (code : BitVec 8) : Reply := { status := a.status, code := code, data := a.data }

/-- The SEL rise that ends a frame begun before a reset (R169): nothing is taken, waiting for release becomes no. -/
def State.release (p : Port) (s : State) : State :=
  { s with ports := s.ports.put p { s.ports.get p with waiting := false } }

/-- A frame closing on a port (R169 to R171). While the die is held in reset nothing is taken (R178); on a port waiting for
release the closing takes nothing (log 9). -/
def State.taking (p : Port) (f : State → State) (s : State) : State :=
  if s.held then s else if (s.ports.get p).waiting then s.release p else f s

/-- A block's rule carried out and its answer made pending; the step's notices are routed last (R171, R18). -/
def State.conclude (p : Port) (code : BitVec 8) (r : State × Answer) : State := (r.1.reply p (r.2.reply code)).deliver

/-- A good frame of a catalogued command (R171): refused NOT_PERMITTED outside its standings, else decided by its rule. -/
def State.command (p : Port) (code : BitVec 8) (rule : State → State × Answer) (s : State) : State :=
  s.taking p fun s =>
    State.conclude p code
      (if ((permitOf code).map fun f => f (s.auth.standing p)).getD false then rule s else (s, .refused .notPermitted))

/-- A rule that only reads. -/
def reads (f : State → Answer) (s : State) : State × Answer := (s, f s)

/-- The port's notice set emptied (R176). -/
def State.fetchNotices (p : Port) (s : State) : State :=
  { s with ports := s.ports.put p { s.ports.get p with notices := 0 } }

/-- Bytes 2 to 4 the mask as one 24-bit number, bytes 5 and 6 zero ("Notice mask"). -/
def noticeData (m : BitVec 20) : BitVec 40 := (0#4 ++ m) ++ 0#16

/-- A good frame whose code is not in the catalogue (R171). -/
def State.unknown (p : Port) (code : BitVec 8) (s : State) : State :=
  s.taking p fun s => State.conclude p code (s, .refused .unknownCommand)

/-- The FRAME_REJECTED reply (R170, section 13.1): the kind of error, the clock count saturating at 255, and for a check error byte
0 as received. -/
def rejectedReply (clocks : Nat) (byte0 : BitVec 8) : Reply :=
  { status := .frameRejected, code := 0
    data := (((if clocks = 64 then 2#8 else 1#8) ++ BitVec.ofNat 8 (min 255 clocks)) ++ (if clocks = 64 then byte0 else 0#8)) ++ 0#16 }

/-- A bad frame (R170): discarded, a FRAME_REJECTED reply pending. -/
def State.rejected (p : Port) (clocks : Nat) (byte0 : BitVec 8) (s : State) : State :=
  s.taking p fun s => s.reply p (rejectedReply clocks byte0)

/-! ### The data of DEMAND (R56) -/

/-- The code of a vigilance state ("DEMAND"). -/
def VigilState.code : VigilState → BitVec 2
  | .idle => 0 | .watch => 1 | .warn => 2 | .penalty => 3

/-- The code of a freshness stage ("DEMAND"). -/
def Stage.code : Stage → BitVec 2
  | .fresh => 0 | .coasting => 1 | .staleBrake => 2

/-- The data of a DEMAND reply (R56). -/
def State.demandData (s : State) : BitVec 40 :=
  (BitVec.ofNat 16 s.wheel.v ++ BitVec.ofInt 16 s.shaper.o) ++
    (((BitVec.ofBool (!s.shaper.calm) ++ BitVec.ofBool s.caution) ++ BitVec.ofBool s.stop.record.requested) ++
      ((s.vigil.state.code ++ s.shaper.stage.code) ++ 0#1))

/-- DEMAND from a port it is permitted from (R6, R36, R37). -/
def State.demandRule (f : DemandFrame) (s : State) : State × Answer :=
  match directionOf f.direction with
  | none => (s, .refused .outOfRange)
  | some d =>
    match s.auth with
    | .held x _ =>
      let s' := s.holderFrame x d f
      (s', .taken (leverClamped f.lever || (decide (s.auth.direction ≠ d) && !s.turns d)) s'.demandData)
    | _ =>
      let s' := s.claimantFrame d f
      (s', .taken (leverClamped f.lever) s'.demandData)

/-! ### AUTH's and VIGIL's commands -/

/-- DESK CLAIM from cab X (R5); entering CLAIMING ends every output test (R103). -/
def State.claimRule (x : Cab) (s : State) : State × Answer :=
  match s.auth with
  | .vacant =>
    if keyLevel s.lines x then
      (State.raise .authChanged { s with auth := .claiming x s.now none, sound := s.sound.endTests s.now }, .accepted)
    else (s, .refused .noKey)
  | .claiming c _ _ => (s, .refused (if c = x then .already else .deskBusy))
  | .held c _ => (s, .refused (if c = x then .already else .deskBusy))
  | .lost _ _ => (s, .refused .deskBusy)

/-- DESK CLAIM on a port; Port V is refused NOT_PERMITTED before this rule (R5, R172). -/
def State.claimOn (p : Port) (s : State) : State × Answer :=
  match cabOf p with
  | some x => s.claimRule x
  | none => (s, .refused .notPermitted)

/-- DESK RELEASE (R11). -/
def State.releaseRule (s : State) : State × Answer :=
  if s.wheel.stationary = true ∧ s.shaper.o ≤ 0 then (s.enterVacant, .done 0) else (s, .refused .moving)

/-- VACATE (R12). -/
def State.vacateRule (s : State) : State × Answer :=
  match s.auth with
  | .vacant => (s, .done 0)
  | .claiming c _ _ => (s.endClaim c, .done 0)
  | .held _ _ => if s.wheel.stationary then (s.enterVacant, .done 0) else (s, .refused .moving)
  | .lost _ _ => (s, .refused .moving)

/-- VIGIL RESET (R94). -/
def State.vigilResetRule (s : State) : State × Answer :=
  if s.vigil.state ≠ .penalty then (s, .refused .already)
  else if !s.wheel.stationary then (s, .refused .moving)
  else if (s.shaper.demand.map fun d => decide (d.lever = -100 ∨ d.lever = -128)).getD false then (s.vigilResetTaken, .done 0)
  else (s, .refused .notReady)

/-! ### JUNCT's commands -/

/-- ROUTE OVERRIDE (R161). -/
def State.overrideRule (route : Nat) (s : State) : State × Answer :=
  if route = 0 ∨ 4 < route then (s, .refused .outOfRange)
  else
    let pend := ({ s with junct := { s.junct with pendingOverride := some route } }, Answer.done 0)
    match s.junct.newest with
    | none => pend
    | some t =>
      if s.junct.presence = true ∧ t.state ≠ .set then
        match s.junct.entry t.id with
        | none => (s, .refused .conflict)
        | some e =>
          if !e.override then (s, .refused .conflict)
          else if e.routes < route then (s, .refused .badRoute)
          else (s.reRequest t route .override, .accepted)
      else pend

/-- JUNCTION REPEAT (R162). -/
def State.repeatRule (s : State) : State × Answer :=
  if !s.junct.presence then (s, .refused .notOnLoop)
  else
    match s.junct.newest with
    | none => (s, .refused .notReady)
    | some t => if t.state = .set then (s, .refused .already) else (s.reRequest t t.route t.source, .accepted)

/-- A carried entry as it is stored (R145): distances clamped. -/
def storedEntry (e : EntryFrame) : Entry :=
  { id := e.id.toNat, routes := e.routes.toNat, defaultRoute := e.defaultRoute.toNat, override := e.override
    points := clampTo 10 400 e.points.toNat, clear := clampTo 5 60 e.clear.toNat }

/-- Whether a distance was clamped (R145). -/
def entryClamped (e : EntryFrame) : Bool :=
  decide ((storedEntry e).points ≠ e.points.toNat) || decide ((storedEntry e).clear ≠ e.clear.toNat)

/-- The table with an entry added or replaced, kept in ascending order of id (R144, R145). -/
def putEntry : List Entry → Entry → List Entry
  | [], e => [e]
  | h :: t, e => if e.id < h.id then e :: h :: t else if e.id = h.id then e :: t else h :: putEntry t e

/-- The fields of an entry in a reply (R145, R147, R185). -/
def Entry.fields (e : Entry) : List Field :=
  [(3, e.routes), (3, e.defaultRoute), bitField e.override, (9, e.points), (6, e.clear)]

/-- The same fields in the reply to TABLE WRITE. DESIGN CHOICE (log 23): routes and default route, each 1 to 4, stand less one in
two bits, so that the number of entries, which R145 has the reply carry, fits the frame's 40. -/
def Entry.shortFields (e : Entry) : List Field :=
  [(2, e.routes - 1), (2, e.defaultRoute - 1), bitField e.override, (9, e.points), (6, e.clear)]

/-- TABLE WRITE (R145): the reply carries the entry as stored and the number of entries the table now holds. -/
def State.tableWriteRule (f : EntryFrame) (s : State) : State × Answer :=
  let e := storedEntry f
  if e.id = 0 ∨ e.routes = 0 ∨ 4 < e.routes ∨ e.defaultRoute = 0 ∨ e.routes < e.defaultRoute then (s, .refused .outOfRange)
  else if (s.junct.live e.id).isSome then (s, .refused .inUse)
  else if s.junct.plan.any fun q => decide (q.id = e.id) && decide (e.routes < q.route) then (s, .refused .conflict)
  else if (s.junct.entry e.id).isNone && decide (96 ≤ s.junct.table.length) then (s, .refused .full)
  else
    let table := putEntry s.junct.table e
    ({ s with junct := { s.junct with table := table } },
      .taken (entryClamped f) (packData ([(12, e.id)] ++ e.shortFields ++ [(7, table.length)])))

/-- TABLE DELETE (R146). -/
def State.tableDeleteRule (id : Nat) (s : State) : State × Answer :=
  if (s.junct.entry id).isNone then (s, .refused .unknownJunction)
  else if (s.junct.live id).isSome then (s, .refused .inUse)
  else if s.junct.plan.any fun q => decide (q.id = id) then (s, .refused .conflict)
  else ({ s with junct := { s.junct with table := s.junct.table.filter fun e => decide (e.id ≠ id) } }, .done 0)

/-- TABLE READ (R147): every part begins with the id. An absent entry is answered all zero in either part (log 22); part 1 of a
present entry holds no field and is refused (R185; log 24). -/
def State.tableReadRule (position part : Nat) (s : State) : Answer :=
  if 95 < position ∨ 1 < part then .refused .outOfRange
  else
    match s.junct.table[position]? with
    | none => .done 0
    | some e => Answer.part [(12, e.id)] e.fields part

/-- The six bytes of an entry, as TABLE WRITE carries them ("Junction table entry"). -/
def Entry.bytes (e : Entry) : List Byte :=
  bytesOf16 ((BitVec.ofNat 12 e.id ++ BitVec.ofNat 3 e.routes) ++ BitVec.ofBool e.override) ++ [BitVec.ofNat 8 e.defaultRoute] ++
    bytesOf16 (BitVec.ofNat 16 e.points) ++ [BitVec.ofNat 8 e.clear]

/-- The table's signature: the CRC-16 over its entries in ascending order of id (R147). -/
def tableSignature (table : List Entry) : BitVec 16 := crc16 (table.flatMap Entry.bytes)

/-- TABLE SIGNATURE (R147). -/
def State.signatureRule (s : State) : Answer :=
  .done (packData [(7, s.junct.table.length), (16, (tableSignature s.junct.table).toNat)])

/-- PLAN APPEND (R148). -/
def State.planAppendRule (id route : Nat) (s : State) : State × Answer :=
  if 32 ≤ s.junct.plan.length then (s, .refused .full)
  else
    match s.junct.entry id with
    | none => (s, .refused .unknownJunction)
    | some e =>
      if route = 0 ∨ e.routes < route then (s, .refused .badRoute)
      else
        let plan := s.junct.plan ++ [{ id := id, route := route }]
        ({ s with junct := { s.junct with plan := plan } }, .done (packData [(6, plan.length)]))

/-- PLAN CLEAR (R149). -/
def State.planClearRule (s : State) : State × Answer := ({ s with junct := { s.junct with plan := [] } }, .done 0)

/-- PLAN READ (R149): presence, id, route, and the plan's length. -/
def State.planReadRule (position : Nat) (s : State) : Answer :=
  if 31 < position then .refused .outOfRange
  else
    match s.junct.plan[position]? with
    | none => .done (packData [(1, 0), (12, 0), (3, 0), (6, s.junct.plan.length)])
    | some q => .done (packData [(1, 1), (12, q.id), (3, q.route), (6, s.junct.plan.length)])

/-! ### STOPREQ's commands -/

/-- STOP SET (R139): the source is DRIVER from a cab port and VEHICLE from Port V. -/
def State.stopSetRule (p : Port) (s : State) : State × Answer :=
  if !s.lines.dcl then (s, .refused .notReady)
  else if s.stop.record.requested then (s, .done 0)
  else (s.setStop (if p = .V then .vehicle else .driver), .done 0)

/-- STOP CANCEL (R140). -/
def State.stopCancelRule (s : State) : State × Answer := (s.cancelStop, .done 0)

/-! ### SOUND's commands -/

/-- OUTPUT TEST on a sounder channel (R108). -/
def State.testSounder (c : Sounder) (s : State) : State × Answer :=
  match s.sound.slot c with
  | none => ({ s with sound := s.sound.oneShot s.now c 7 .outputTest }, .done 0)
  | some i =>
    if (cell s.sound.patterns 7).priority ≤ s.sound.priorityOf i then (s, .refused .inUse)
    else ({ s with sound := s.sound.oneShot s.now c 7 .outputTest }, .done 0)

/-- OUTPUT TEST on a request-set channel, through the test slot (R108). -/
def State.testSet (ch : SetChannel) (s : State) : State × Answer :=
  if s.sound.testSlot.isSome then (s, .refused .inUse)
  else ({ s with sound := { s.sound with testSlot := some (ch, s.sound.newInstance s.now 7 .outputTest false) } }, .done 0)

/-- OUTPUT TEST (R108). -/
def State.testRule (channel : Nat) (s : State) : State × Answer :=
  if !s.auth.isVacant then (s, .refused .notVacant)
  else if !s.wheel.stationary then (s, .refused .moving)
  else
    match channel with
    | 0 => s.testSounder .hornA
    | 1 => s.testSounder .hornB
    | 2 => s.testSounder .bellA
    | 3 => s.testSounder .bellB
    | 4 => s.testSounder .buzzA
    | 5 => s.testSounder .buzzB
    | 6 => s.testSet .stopsign
    | 7 => s.testSounder .chime
    | 8 => s.testSet .sand
    | 9 => s.testSet .trackbrake
    | 10 => s.testSounder .hazard
    | _ => (s, .refused .outOfRange)

/-- The header of a pattern entry in a reply (R98): what PATTERN HEADER writes, in its order, the pattern number apart; 0 stands
for HOLD. That the entry's header is these four fields, without the class, is DEDUCED (log 44). -/
def Pattern.header (p : Pattern) : List Field := [(4, p.count), (4, p.rep.getD 0), (2, p.priority), (8, p.minRun)]

/-- A step in a reply (R98). -/
def PatStep.fields (x : PatStep) : List Field := [bitField x.on, (8, x.duration), (11, x.tone)]

/-- A pattern entry written, its running instances ended (R98). -/
def State.putPattern (n : Fin 8) (p : Pattern) (s : State) : State :=
  { s with sound := { s.sound with patterns := putCell s.sound.patterns n p }.endPattern s.now n }

/-- The tests both pattern commands make first (R98): the reason, if one refuses. -/
def State.patternRefusal (number index : Nat) (s : State) : Option Reason :=
  if !s.auth.isVacant then some .notVacant
  else if !s.wheel.stationary then some .moving
  else if 7 < number ∨ 7 < index then some .outOfRange
  else none

/-- PATTERN HEADER (R98). -/
def State.headerRule (number count rep priority minRun : Nat) (s : State) : State × Answer :=
  match s.patternRefusal number 0 with
  | some r => (s, .refused r)
  | none =>
    let n := Fin.ofNat 8 number
    let p : Pattern :=
      { cell s.sound.patterns n with
        count := clampTo 1 8 count, rep := if rep = 0 then none else some (min 15 rep), priority := min 3 priority, minRun := minRun }
    let clamped := decide (p.count ≠ count) || decide (15 < rep) || decide (3 < priority)
    (s.putPattern n p, .taken clamped (packData p.header))

/-- A tone as it is stored (R98): 0, or 200 to 2000. -/
def clampTone (t : Nat) : Nat := if t = 0 then 0 else clampTo 200 2000 t

/-- PATTERN STEP (R98). -/
def State.stepRule (number index : Nat) (on : Bool) (duration tone : Nat) (s : State) : State × Answer :=
  match s.patternRefusal number index with
  | some r => (s, .refused r)
  | none =>
    let n := Fin.ofNat 8 number
    let x : PatStep := { on := on, duration := max 1 duration, tone := clampTone tone }
    let old := cell s.sound.patterns n
    let p : Pattern := { old with steps := putCell old.steps (Fin.ofNat 8 index) x }
    (s.putPattern n p, .taken (decide (x.duration ≠ duration) || decide (x.tone ≠ tone)) (packData (p.header ++ x.fields)))

/-! ### SETTINGS' and SUPPLY's commands -/

/-- The bits of a settings field in a reply: the fewest that hold its range (R185). -/
def settingWidth (field : Nat) : Nat :=
  match field with
  | 0 => 14
  | 1 => 10
  | 2 => 12
  | 3 => 6
  | 4 => 5
  | 5 => 10
  | 6 => 7
  | 7 => 1
  | 8 => 9
  | _ => 2

/-- A touch assignment in a reply: its kind, then its door, 0 for DISABLED (R185). -/
def Assignment.fields : Assignment → List Field
  | .disabled => [(2, 0), (3, 0)]
  | .door d => [(2, 1), (3, d)]
  | .wheelchair d => [(2, 2), (3, d)]

/-- A settings field as stored, in a reply (R182, R183). -/
def SettingsRec.fields (r : SettingsRec) (field channel : Nat) : List Field :=
  if field = 9 then (cell r.touch (Fin.ofNat 16 channel)).fields else [(settingWidth field, r.look field)]

/-- A field number or channel number out of range (R182, R183); the channel counts for field 9 alone (log 27). -/
def settingOut (field channel : Nat) : Bool := decide (10 < field) || (decide (field = 9) && decide (15 < channel))

/-- A write of a settings field (R183). -/
def State.settingRule (field value channel : Nat) (s : State) : State × Answer :=
  if settingOut field channel then (s, .refused .outOfRange)
  else if field = 9 then
    match assignmentOf value with
    | none => (s, .refused .outOfRange)
    | some a =>
      let s' := s.writeTouch (Fin.ofNat 16 channel) a
      (s', .taken (doorClamped value) (packData (s'.settings.fields field channel)))
  else if restricted field && !s.auth.isVacant then (s, .refused .notVacant)
  else if restricted field && !s.wheel.stationary then (s, .refused .moving)
  else
    let s' := s.writeSetting field value
    (s', .taken (decide (s'.settings.look field ≠ value)) (packData (s'.settings.fields field channel)))

/-- SETTING READ (R182). -/
def State.settingReadRule (field channel : Nat) (s : State) : Answer :=
  if settingOut field channel then .refused .outOfRange else .done (packData (s.settings.fields field channel))

/-- The code of a reset kind, in the order of R180. -/
def ResetKind.field (k : ResetKind) : Field := (2, k.idx)

/-- RESET CAUSE (R180). -/
def State.causeRule (s : State) : Answer := .done (packData (flagFields s.supply.causes ++ [s.supply.latest.field]))

/-! ### OUTBANK's commands -/

/-- DIAG SUMMARY's report (R122). -/
def State.summaryData (p : Port) (s : State) : BitVec 40 :=
  let k := s.outbank.sticky.get p
  packData ((k.chans.toList.map fun x => bitField (x != 0)) ++
    [bitField k.uv, bitField k.te, bitField k.linkLost, bitField (!s.outbank.linkUp), bitField s.outbank.liveUv])

/-- DIAG SUMMARY (R122): report, copy, reduce. -/
def State.summaryRule (p : Port) (s : State) : State × Answer :=
  ({ s with outbank := s.outbank.summaryRead p }, .done (s.summaryData p))

/-- DIAG CHANNEL (R123). -/
def State.channelRule (p : Port) (n : Nat) (s : State) : Answer :=
  if h : n < 12 then
    let i : Fin 12 := ⟨n, h⟩
    .done (packData (flagFields (cell (s.outbank.detail.get p) i) ++ [bitField (s.driveBit i)] ++
      [optField 1 ((cell s.outbank.reported i).map Bool.toNat)] ++ flagFields (cell s.outbank.live i) ++
      [bitField (cell (s.outbank.sticky.get p).chans i != 0), bitField (!s.outbank.linkUp)]))
  else .refused .outOfRange

end Sys2Proof.Machine
end

