-- ==== Sys2Proof/Machine/Reading.lean ====
section
/-! DEFINITION. The replies of the reading commands: GET STATUS, GET JUNCTION, GET STOP RECORD, TOUCH READ. Each packs its
fields in the order its rule lists them (R185). -/

namespace Sys2Proof.Machine

/-! ### GET STATUS (R177) -/

/-- An end or cab, or none (R2, R4). -/
def cabField (c : Option Cab) : Field :=
  optField 1 (c.map fun
    | .A => 0
    | .B => 1)

/-- The code of an authority state, in the order of R1. -/
def Auth.code : Auth → Nat
  | .vacant => 0
  | .claiming _ _ _ => 1
  | .held _ _ => 2
  | .lost _ _ => 3

/-- The code of a cab-relative direction, in the order of R1. -/
def directionCode : Direction → Nat
  | .neutral => 0
  | .forward => 1
  | .reverse => 2

/-- The code of a vehicle-relative direction (13.2, 13.3: none, plus, minus). -/
def VDir.code : VDir → Nat
  | .none => 0
  | .plus => 1
  | .minus => 2

/-- The code of a standing, in the order of R172 (log 25). -/
def Standing.code : Standing → Nat
  | .driving => 0
  | .claiming => 1
  | .watching => 2
  | .vehicle => 3

/-- The code of an adhesion state, in the order of R26. -/
def Adhesion.code : Adhesion → Nat
  | .normal => 0
  | .slip => 1
  | .slide => 2

/-- The code of a unit state (13.2). -/
def unitCode : UnitState → Nat
  | .ready => 0
  | .starting => 1
  | .limited => 2
  | .fault => 3

/-- Group 0: the authority record and the standings. -/
def State.group0 (s : State) : List Field :=
  [(2, s.auth.code), cabField s.auth.cab, (2, directionCode s.auth.direction), (2, s.auth.vdir.code), cabField s.auth.leading,
    (2, (s.auth.standing .A).code), (2, (s.auth.standing .B).code), (2, (s.auth.standing .V).code)]

/-- Group 1: WHEEL's fields; a status is 0 for OK and 1 for FAILED. -/
def State.group1 (s : State) : List Field :=
  [(11, s.wheel.v), bitField s.wheel.stationary, bitField s.wheel.s1.failed, bitField s.wheel.s2.failed,
    (2, s.wheel.adhesion.code), bitField s.wheel.runOn.isSome, bitField s.wheel.rollback]

/-- Group 2: the odometer. -/
def State.group2 (s : State) : List Field := [(32, s.wheel.odometer)]

/-- Group 3: O, T and V_lim. -/
def State.group3 (s : State) : List Field := [signedField 11 s.shaper.o, signedField 11 s.shaper.t, (10, s.shaper.vLim)]

/-- Group 4: the rest of SHAPER's fields. -/
def State.group4 (s : State) : List Field :=
  [(10, s.shaper.c), (2, s.shaper.stage.code.toNat), bitField s.shaper.zeroPass, bitField s.shaper.overspeed,
    bitField s.shaper.holdingBrake, bitField s.shaper.sandReq, bitField s.shaper.trackReq]

/-- Group 5: the eight source flags and the battery-low flag. -/
def State.group5 (s : State) : List Field := flagFields s.shaper.sources ++ [bitField s.supply.batteryLow]

/-- A traction unit's last reply and its presence (R70). -/
def tuReplyFields : Option TuReply → List Field
  | none => [(1, 0), (2, 0), (10, 0), (1, 0), (1, 0)]
  | some r => [(1, 1), (2, unitCode r.unit), (10, r.effort.toNat), bitField r.slip, bitField r.lineVoltage]

/-- The brake control unit's last reply and its presence (R70). -/
def brkReplyFields : Option BrkReply → List Field
  | none => [(1, 0), (2, 0), (1, 0), (1, 0)]
  | some r => [(1, 1), (2, unitCode r.unit), bitField r.brakeApplied, bitField r.brakeAvailable]

/-- Groups 6 and 7: a traction unit; a link state is 0 for ANSWERING and 1 for LOST. -/
def TuRec.fields (t : TuRec) : List Field := [bitField (!t.answering), (3, t.missRun)] ++ tuReplyFields t.last

/-- Group 8: the brake control unit and the latest cycle count. -/
def State.group8 (s : State) : List Field :=
  [bitField (!s.tlink.brk.answering), (3, s.tlink.brk.missRun)] ++ brkReplyFields s.tlink.brk.last ++ [(4, s.tlink.cycle)]

/-- The time to VIGIL's next timed step in units of 100 ms, rounded up; 0 when there is none (R95). -/
def State.vigilLeft (s : State) : Nat :=
  match s.vigil.nextDue s.settings.vigilInterval s.settings.handleGrace with
  | none => 0
  | some due => unitsLeft 100 s.now due

/-- Group 9: VIGIL's fields (R95). -/
def State.group9 (s : State) : List Field :=
  [(2, s.vigil.state.code.toNat), bitField s.vigil.buzzer, bitField s.vigil.releaseTime.isSome, (10, s.vigilLeft)]

/-- The code of a requester, in the order of R99. -/
def Requester.code : Requester → Nat
  | .hornButton => 0
  | .bellButton => 1
  | .departureBell => 2
  | .vigil => 3
  | .junct => 4
  | .stopreq => 5
  | .emergency => 6
  | .outputTest => 7

/-- An instance slot's fields (R109; log 26): the pattern with its presence, requester, step index, step on, held. -/
def SoundRec.slotFields (s : SoundRec) (c : Sounder) : List Field :=
  match s.slot c with
  | none => [(1, 0), (3, 0), (3, 0), (3, 0), (1, 0), (1, 0)]
  | some i =>
    [(1, 1), (3, i.pattern.val), (3, i.requester.code), (3, i.step), bitField (s.stepOf i).on, bitField i.isHeld]

/-- The channel number of the test slot's channel (section 7.1). -/
def SetChannel.number : SetChannel → Nat
  | .stopsign => 6
  | .sand => 8
  | .trackbrake => 9

/-- Group 12: the last two slots and SOUND's other fields. -/
def State.group12 (s : State) : List Field :=
  s.sound.slotFields .chime ++ s.sound.slotFields .hazard ++
    [optField 4 (s.sound.testSlot.map fun t => t.1.number), bitField s.sound.departurePending, bitField s.sound.waving]

/-- A level request record's two fields, placed and spent. -/
def LevelReq.fields : LevelReq → List Field
  | .notPlaced => [(1, 0), (1, 0)]
  | .placed spent => [(1, 1), bitField spent]

/-- Group 13: the level request records. -/
def State.group13 (s : State) : List Field := allSounders.flatMap fun c => (s.sound.req c).fields

/-- The fields of a group; none above 13 (R177). -/
def State.groupFields (s : State) (g : Nat) : Option (List Field) :=
  match g with
  | 0 => some s.group0
  | 1 => some s.group1
  | 2 => some s.group2
  | 3 => some s.group3
  | 4 => some s.group4
  | 5 => some s.group5
  | 6 => some s.tlink.tu1.fields
  | 7 => some s.tlink.tu2.fields
  | 8 => some s.group8
  | 9 => some s.group9
  | 10 => some (s.sound.slotFields .hornA ++ s.sound.slotFields .hornB ++ s.sound.slotFields .bellA)
  | 11 => some (s.sound.slotFields .bellB ++ s.sound.slotFields .buzzA ++ s.sound.slotFields .buzzB)
  | 12 => some s.group12
  | 13 => some s.group13
  | _ => none

/-- GET STATUS (R177). -/
def State.statusRule (g : Nat) (s : State) : Answer :=
  match s.groupFields g with
  | none => .refused .outOfRange
  | some fs => .done (packData fs)

/-! ### GET JUNCTION (R167) -/

/-- The code of a route's source, in the order of R152. -/
def RouteSource.code : RouteSource → Nat
  | .plan => 0
  | .override => 1
  | .default => 2

/-- The code of a transaction's state, in the order of R152. -/
def TransState.code : TransState → Nat
  | .requesting => 0
  | .set => 1
  | .refused => 2
  | .wrongRoute => 3
  | .unconfirmed => 4

/-- The code of a report's result in a reply, in the order of R152. -/
def resultCode : ReportResult → Nat
  | .setLocked => 0
  | .moving => 1
  | .refusedOccupied => 2
  | .refusedRoute => 3
  | .pointFault => 4

/-- Whole metres from the odometer to a mark, rounded down, 0 once it is reached (R185). -/
def metresTo (odometer mark : Nat) : Nat := (mark - odometer) / 1000

/-- Index 0: JUNCT's own fields. -/
def State.junctionSummary (s : State) : List Field :=
  [bitField s.junct.presence, bitField s.caution, bitField s.junct.overflow, optField 3 s.junct.pendingOverride,
    (3, s.junct.list.length), (6, s.junct.plan.length), (3, s.junct.seq.toNat), (7, s.junct.table.length)]

/-- Part 0 of a transaction. DESIGN CHOICE (log 49): R167 gives the report timer's time left in REQUESTING only and names no flag;
it is eight bits without a presence bit, 0 where no timer runs. -/
def Transaction.fields (t : Transaction) (now : Nat) : List Field :=
  [(12, t.id), (3, t.route), (2, t.source.code), (3, t.seq.toNat), (3, t.state.code), (2, t.tries),
    optField 3 (t.last.map resultCode), (8, (t.timer.map (unitsLeft 10 now)).getD 0)]

/-- Part 1 of a transaction (R185). -/
def Transaction.distances (t : Transaction) (odometer : Nat) : List Field :=
  [(12, t.id), (9, metresTo odometer t.cautionMark), (9, metresTo odometer t.clearMark)]

/-- GET JUNCTION (R167): index 0 ignores the part number whatever it is (log 42); an absent transaction is answered all zero
(log 22). -/
def State.junctionRule (index part : Nat) (s : State) : Answer :=
  if index = 0 then .done (packData s.junctionSummary)
  else if 4 < index ∨ 1 < part then .refused .outOfRange
  else
    match s.junct.list[index - 1]? with
    | none => .done 0
    | some t => .done (packData (if part = 0 then t.fields s.now else t.distances s.wheel.odometer))

/-! ### GET STOP RECORD (R142) -/

/-- The code of a stop's first source, in the order of R135. -/
def StopSource.code : StopSource → Nat
  | .touch => 0
  | .driver => 1
  | .vehicle => 2

/-- The current record's fields with the section state (0 RUNNING, 1 AT_STOP) and the DCL level, coded 1 for high, doors closed
(log 25: the spec gives the level no code). -/
def State.stopFields (s : State) : List Field :=
  let r := s.stop.record
  [bitField r.requested] ++ flagFields r.doors ++
    [bitField r.wheelchair, optField 2 (r.first.map fun f => f.source.code), optField 32 (r.first.map FirstRequest.mark),
      optField 32 (r.first.map FirstRequest.time), (8, r.presses), bitField r.chime, bitField (decide (s.stop.sect = .atStop)), bitField s.lines.dcl]

/-- A history entry's fields after its identifier (R141, R185). -/
def HistoryEntry.fields (h : HistoryEntry) : List Field :=
  flagFields h.doors ++ [bitField h.wheelchair, (2, h.first.source.code), (32, h.first.mark), (32, h.first.time),
    (8, h.presses), bitField h.chime, (32, h.endMark), (32, h.endTime)]

/-- What every part of a history entry begins with: the low 8 bits of its end mark (R142, R185). -/
def HistoryEntry.ident (h : HistoryEntry) : List Field := [(8, h.endMark)]

/-- GET STOP RECORD (R142): a history entry is a field that may be absent, so part 0 shows its presence bit after the
identifier (R185); an absent entry is answered all zero, whatever the part number (log 22). -/
def State.stopRecordRule (index part : Nat) (s : State) : Answer :=
  if 8 < index then .refused .outOfRange
  else if index = 0 then Answer.part [] s.stopFields part
  else
    match s.stop.history[index - 1]? with
    | none => .done 0
    | some h => Answer.part h.ident ([(1, 1)] ++ h.fields) part

/-! ### TOUCH READ (R143) -/

/-- The code of a touch state, in the order of R126. -/
def TouchState.code : TouchState → Nat
  | .disabled => 0
  | .idle => 1
  | .pressing => 2
  | .pressed => 3
  | .releasing => 4
  | .stuck => 5
  | .faulted => 6

/-- The depth of a channel, when its count and its baseline are both present (R143). -/
def TouchRec.depthField (c : TouchRec) : Field :=
  match c.baseline, c.count with
  | some b, some n => optField 13 (some (signedField 13 (depth b n)).2)
  | _, _ => optField 13 none

/-- A touch channel's fields (R143); the time since the pressed time counts whole units (log 40). -/
def State.touchFields (s : State) (k : Fin 16) : List Field :=
  let c := cell s.stop.chans k
  (cell s.settings.touch k).fields ++
    [(3, c.state.code), optField 12 c.count, optField 12 (c.baseline.map (· / 16)), c.depthField, (2, c.confirm), (2, c.voidRun),
      optField 6 c.rangeRun, optField 8 (c.pressedAt.map fun t => min 255 ((s.stopTime - t) / 100))]

/-- TOUCH READ (R143). Its fields take 68 bits and a reply holds 40, so they are answered in two parts, packed as R185 packs
parts; bit 0 of byte 2 of the command asks for the later one (DESIGN CHOICE, log 23). No byte 2 refuses the command. -/
def State.touchRule (channel : Nat) (later : Bool) (s : State) : Answer :=
  if 15 < channel then .refused .outOfRange
  else Answer.part [] (s.touchFields (Fin.ofNat 16 channel)) (if later then 1 else 0)

/-! ### GET NOTICES (R176) -/

/-- The port's notice set captured into the reply and emptied. -/
def State.noticesRule (p : Port) (s : State) : State × Answer := (s.fetchNotices p, .done (noticeData (s.ports.get p).notices))

end Sys2Proof.Machine
end

