-- ==== Sys2Proof/Machine/Desk.lean ====
section
/-! DEFINITION. The meanings of the desk commands and the frames on the ports (11 R168 to R172): one definition for each. A
command whose rule refuses is answered REFUSED, which is its effect. -/

namespace Sys2Proof.Machine

/-- A step that goes on. -/
abbrev Result := Host.Outcome State Fault Refusal

/-! ### PORTS -/

/-- NOP (R171). -/
def execNop (p : Port) (s : State) : Result := .next (s.command p 0x00 (reads fun _ => .done 0))

/-- GET NOTICES (R176). -/
def execGetNotices (p : Port) (s : State) : Result := .next (s.command p 0x01 (State.noticesRule p))

/-- GET STATUS (R177). -/
def execGetStatus (p : Port) (group : BitVec 8) (s : State) : Result :=
  .next (s.command p 0x02 (reads (State.statusRule group.toNat)))

/-- A code outside the catalogue (R171). -/
def execUnknownCommand (p : Port) (code : BitVec 8) (s : State) : Result := .next (s.unknown p code)

/-- A bad frame (R170). -/
def execFrameRejected (p : Port) (clocks : Nat) (byte0 : BitVec 8) (s : State) : Result := .next (s.rejected p clocks byte0)

/-- SEL rises on a port that waits for release (R169). -/
def execWaitingForReleaseEnd (p : Port) (s : State) : Result :=
  .next (if s.held then s else if (s.ports.get p).waiting then s.release p else s)

/-! ### SHAPER and AUTH -/

/-- DEMAND (R6, R36, R37). -/
def execDemand (p : Port) (f : DemandFrame) (s : State) : Result := .next (s.command p 0x10 (State.demandRule f))

/-- DESK CLAIM (R5). -/
def execDeskClaim (p : Port) (s : State) : Result := .next (s.command p 0x11 (State.claimOn p))

/-- DESK RELEASE (R11). -/
def execDeskRelease (p : Port) (s : State) : Result := .next (s.command p 0x12 State.releaseRule)

/-- VIGIL RESET (R94). -/
def execVigilReset (p : Port) (s : State) : Result := .next (s.command p 0x13 State.vigilResetRule)

/-- VACATE (R12). -/
def execVacate (p : Port) (s : State) : Result := .next (s.command p 0x14 State.vacateRule)

/-! ### JUNCT -/

/-- ROUTE OVERRIDE (R161). -/
def execRouteOverride (p : Port) (route : BitVec 8) (s : State) : Result :=
  .next (s.command p 0x20 (State.overrideRule route.toNat))

/-- JUNCTION REPEAT (R162). -/
def execJunctionRepeat (p : Port) (s : State) : Result := .next (s.command p 0x21 State.repeatRule)

/-- GET JUNCTION (R167). -/
def execGetJunction (p : Port) (index part : BitVec 8) (s : State) : Result :=
  .next (s.command p 0x23 (reads (State.junctionRule index.toNat part.toNat)))

/-- TABLE WRITE (R145). -/
def execTableWrite (p : Port) (e : EntryFrame) (s : State) : Result := .next (s.command p 0x60 (State.tableWriteRule e))

/-- TABLE DELETE (R146). -/
def execTableDelete (p : Port) (id : BitVec 16) (s : State) : Result :=
  .next (s.command p 0x61 (State.tableDeleteRule id.toNat))

/-- TABLE READ (R147). -/
def execTableRead (p : Port) (position part : BitVec 8) (s : State) : Result :=
  .next (s.command p 0x62 (reads (State.tableReadRule position.toNat part.toNat)))

/-- TABLE SIGNATURE (R147). -/
def execTableSignature (p : Port) (s : State) : Result := .next (s.command p 0x63 (reads State.signatureRule))

/-- PLAN APPEND (R148). -/
def execPlanAppend (p : Port) (id : BitVec 16) (route : BitVec 8) (s : State) : Result :=
  .next (s.command p 0x64 (State.planAppendRule id.toNat route.toNat))

/-- PLAN CLEAR (R149). -/
def execPlanClear (p : Port) (s : State) : Result := .next (s.command p 0x65 State.planClearRule)

/-- PLAN READ (R149). -/
def execPlanRead (p : Port) (position : BitVec 8) (s : State) : Result :=
  .next (s.command p 0x66 (reads (State.planReadRule position.toNat)))

/-! ### STOPREQ -/

/-- STOP SET (R139). -/
def execStopSet (p : Port) (s : State) : Result := .next (s.command p 0x30 (State.stopSetRule p))

/-- STOP CANCEL (R140). -/
def execStopCancel (p : Port) (s : State) : Result := .next (s.command p 0x31 State.stopCancelRule)

/-- GET STOP RECORD (R142). -/
def execGetStopRecord (p : Port) (index part : BitVec 8) (s : State) : Result :=
  .next (s.command p 0x32 (reads (State.stopRecordRule index.toNat part.toNat)))

/-- TOUCH READ (R143). -/
def execTouchRead (p : Port) (ask : ChannelPart) (s : State) : Result :=
  .next (s.command p 0x33 (reads (State.touchRule ask.channel.toNat ask.later)))

/-! ### OUTBANK and SOUND -/

/-- DIAG SUMMARY (R122). -/
def execDiagSummary (p : Port) (s : State) : Result := .next (s.command p 0x40 (State.summaryRule p))

/-- DIAG CHANNEL (R123). -/
def execDiagChannel (p : Port) (channel : BitVec 8) (s : State) : Result :=
  .next (s.command p 0x41 (reads (State.channelRule p channel.toNat)))

/-- OUTPUT TEST (R108). -/
def execOutputTest (p : Port) (channel : BitVec 8) (s : State) : Result :=
  .next (s.command p 0x42 (State.testRule channel.toNat))

/-- PATTERN HEADER (R98). -/
def execPatternHeader (p : Port) (number count rep priority minRun : BitVec 8) (s : State) : Result :=
  .next (s.command p 0x54 (State.headerRule number.toNat count.toNat rep.toNat priority.toNat minRun.toNat))

/-- PATTERN STEP (R98). -/
def execPatternStep (p : Port) (number index : BitVec 8) (on : Bool) (duration : BitVec 8) (tone : BitVec 16) (s : State) :
    Result :=
  .next (s.command p 0x55 (State.stepRule number.toNat index.toNat on duration.toNat tone.toNat))

/-! ### SETTINGS and SUPPLY -/

/-- SET LINE LIMIT: a write of field 5 (R183). -/
def execSetLineLimit (p : Port) (value : BitVec 16) (s : State) : Result :=
  .next (s.command p 0x50 (State.settingRule 5 value.toNat 0))

/-- SET RUN NUMBER: a write of field 1 (R183). -/
def execSetRunNumber (p : Port) (value : BitVec 16) (s : State) : Result :=
  .next (s.command p 0x51 (State.settingRule 1 value.toNat 0))

/-- SETTING WRITE (R183). -/
def execSettingWrite (p : Port) (field : BitVec 8) (value : BitVec 16) (channel : BitVec 8) (s : State) : Result :=
  .next (s.command p 0x52 (State.settingRule field.toNat value.toNat channel.toNat))

/-- SETTING READ (R182). -/
def execSettingRead (p : Port) (field channel : BitVec 8) (s : State) : Result :=
  .next (s.command p 0x53 (reads (State.settingReadRule field.toNat channel.toNat)))

/-- RESET CAUSE (R180). -/
def execResetCause (p : Port) (s : State) : Result := .next (s.command p 0x70 (reads State.causeRule))

end Sys2Proof.Machine
end

