-- ==== Sys2Proof/Machine/Events.lean ====
section
/-! DEFINITION. The meanings of the events: lines, wheel, timers, traction link, sounders, touch inputs, loop telegrams. An
event of the control die changes nothing while that die is held in reset, but for the level of a line (R178, log 11). -/

namespace Sys2Proof.Machine

/-- A line changes level, with what follows from it; while the die is held only the level changes (log 11). -/
def State.lineEvent (level effect : State → State) (s : State) : State := if s.held then level s else (effect s).deliver

/-! ### Lines -/

/-- A cab key's level. -/
def State.keyTo (c : Cab) (on : Bool) (s : State) : State := { s with lines := setKey s.lines c on }

/-- An emergency-stop line's level. -/
def State.emstopTo (c : Cab) (pressed : Bool) (s : State) : State := { s with lines := setEmstop s.lines c pressed }

/-- DCL's level. -/
def State.dclTo (high : Bool) (s : State) : State := { s with lines := { s.lines with dcl := high } }

/-- A key goes off (R9, R13, R14). -/
def execKeyOff (c : Cab) (s : State) : Result :=
  .next (s.lineEvent (State.keyTo c false) fun s => (s.keyTo c false).keyGoesOff c)

/-- A key goes on: no authority transition follows (R5, R14). -/
def execKeyOn (c : Cab) (s : State) : Result := .next (s.lineEvent (State.keyTo c true) (State.keyTo c true))

/-- An emergency stop is pressed (R61), then the synchronisation check (R7). DESIGN CHOICE (log 46): where the press of the other
cab's stop lets the check enter HELD, its source is added before STARTUP is removed; R59 allows both orders. -/
def execEmstopPress (c : Cab) (s : State) : Result :=
  .next (s.lineEvent (State.emstopTo c true) fun s => ((s.emstopTo c true).addSource (.emstop c)).syncCheck)

/-- An emergency stop is released (R61), then the synchronisation check (R7). -/
def execEmstopRelease (c : Cab) (s : State) : Result :=
  .next (s.lineEvent (State.emstopTo c false) fun s => ((s.emstopTo c false).testEmstop c).syncCheck)

/-- DCL goes low (R39, R55, R104, R137). -/
def execDclOpen (s : State) : Result := .next (s.lineEvent (State.dclTo false) State.doorsOpen)

/-- DCL goes high (R55, R104, R136). -/
def execDclClose (s : State) : Result := .next (s.lineEvent (State.dclTo true) State.doorsClose)

/-! ### WHEEL -/

/-- A tachometer pulse (R20, R31, R33). -/
def execTachoPulse (i : Sensor) (bHigh : Bool) (s : State) : Result := .next (s.event (State.pulse i bHigh))

/-- A window ends (R22). -/
def execWindowEnd (s : State) : Result := .next (s.event State.windowEnd)

/-- The slip run-on ends (R28). -/
def execSlipRunOnExpiry (s : State) : Result := .next (s.event State.runOnExpiry)

/-! ### SHAPER and AUTH -/

/-- A shaper period (R40). -/
def execShaperPeriod (s : State) : Result := .next (s.event State.shaperPeriod)

/-- The 300 ms of a demand's age pass (R38). -/
def execFreshness300MsExpiry (s : State) : Result := .next (s.event State.freshExpiry)

/-- The 1000 ms of a demand's age pass (R38). -/
def execFreshness1000MsExpiry (s : State) : Result := .next (s.event State.staleExpiry)

/-- The claim window ends (R8). -/
def execClaimWindowExpiry (s : State) : Result := .next (s.event State.claimExpiry)

/-! ### TLINK -/

/-- A cycle begins (R71). -/
def execTlinkCycleStart (s : State) : Result := .next (s.event State.cycleStart)

/-- A good reply of a station arrives (R74, R75). -/
def execStationReplyGood (r : StationReply) (s : State) : Result := .next (s.event (State.stationReply r))

/-- A station's poll closes with a miss (R74, R76). -/
def execStationMiss (m : Miss) (s : State) : Result := .next (s.event (State.stationMiss m.station m.cause))

/-! ### VIGIL -/

/-- The activity timer expires (R87). -/
def execVigilActivityTimerExpiry (s : State) : Result := .next (s.event State.activityExpiry)

/-- The warn timer expires (R89). -/
def execWarnTimerExpiry (s : State) : Result := .next (s.event State.warnExpiry)

/-- The grace timer expires (R91). -/
def execGraceTimerExpiry (s : State) : Result := .next (s.event State.graceExpiry)

/-! ### SOUND -/

/-- The time an instance's step ends, if a slot holds one. -/
def SoundRec.dueOf (s : SoundRec) : SlotId → Option Nat
  | .sounder c => (s.slot c).map Instance.stepEnd
  | .test => s.testSlot.map fun t => t.2.stepEnd

/-- A slot's step expires at a time. -/
def SoundRec.expire (s : SoundRec) (now : Nat) : SlotId → SoundRec
  | .sounder c => s.stepExpiry now c
  | .test => s.testExpiry now

/-- A step's time runs out in a slot; an empty slot has no step (R99). -/
def State.slotExpiry (slot : SlotId) (s : State) : State :=
  match s.sound.dueOf slot with
  | none => s
  | some due =>
    let s := s.reach due
    { s with sound := s.sound.expire s.now slot }

/-- A pattern step's time runs out (R99). -/
def execPatternStepExpiry (slot : SlotId) (s : State) : Result := .next (s.event (State.slotExpiry slot))

/-- The run time of a channel's instance reaches its minimum run (R100). -/
def State.minRun (c : Sounder) (s : State) : State :=
  match s.sound.slot c with
  | none => s
  | some i =>
    let s := s.reach (i.started + s.sound.minRunOf i)
    { s with sound := s.sound.minRunReached s.now c }

/-- A minimum run is reached (R100). -/
def execMinimumRunReached (c : Sounder) (s : State) : Result := .next (s.event (State.minRun c))

/-- A half-period of a running wave ends (R106): at the time due, whose whole milliseconds the clock shows (log 35). -/
def State.toneChange (s : State) : State :=
  match s.sound.toneDue with
  | none => s
  | some due => if s.sound.waving then { s.reach (due / 1000) with sound := s.sound.toneToggle due } else s

/-- TONE changes level (R106). -/
def execToneHalfPeriod (s : State) : Result := .next (s.event State.toneChange)

/-! ### STOPREQ -/

/-- A scan begins 20 ms after the one before (R128). -/
def State.scanStart (s : State) : State :=
  let s := s.reach ((s.stop.scanAt.map fun t => t + 20).getD s.now)
  { s with stop := { s.stop with scanAt := some s.now } }

/-- A touch scan begins (R128). -/
def execTouchScanStart (s : State) : Result := .next (s.event State.scanStart)

/-- The gate of channel k ends k + 1 ms into its scan, with a count (R128). -/
def State.gateEnd (k : Fin 16) (n : Nat) (s : State) : State :=
  (s.reach ((s.stop.scanAt.map fun t => t + k.val + 1).getD s.now)).measure k n

/-- A touch channel is measured (R128 to R134). -/
def execTouchMeasurement (k : Fin 16) (count : BitVec 12) (s : State) : Result := .next (s.event (State.gateEnd k count.toNat))

/-! ### JUNCT -/

/-- A telegram that passed its check is taken when its fields lie in their ranges, and otherwise dropped (R187, log 38). -/
def State.telegram (id routeSet : Nat) (f : State → State) (s : State) : State := if telegramIn id routeSet then f s else s

/-- A REQUEST beacon (R150, R153 to R155). -/
def execRequestBeacon (id : BitVec 16) (s : State) : Result :=
  .next (s.event fun s => s.telegram id.toNat 0 (State.requestBeacon id.toNat))

/-- A CONFIRM beacon (R150, R159). -/
def execConfirmBeacon (id : BitVec 16) (routeSet : BitVec 3) (locked occupied : Bool) (s : State) : Result :=
  .next (s.event fun s => s.telegram id.toNat routeSet.toNat (State.confirmBeacon id.toNat routeSet.toNat locked occupied))

/-- A report telegram (R156). -/
def execReport (id tram : BitVec 16) (seq : BitVec 3) (result : ReportResult) (routeSet : BitVec 8) (s : State) : Result :=
  .next (s.event fun s =>
    s.telegram id.toNat routeSet.toNat (State.report id.toNat tram.toNat seq result routeSet.toNat))

/-- A telegram that fails its check is dropped: no record changes (R150, R187). -/
def execTelegramDropped (s : State) : Result := .next s

/-- Loop presence lapses (R150, R158). -/
def execLoopPresenceLapse (s : State) : Result := .next (s.event State.loopLapse)

/-- A report timer expires (R157). -/
def execReportTimerExpiry (id : BitVec 16) (s : State) : Result := .next (s.event (State.reportExpiry id.toNat))

end Sys2Proof.Machine
end

