-- ==== Sys2Proof/Machine/Dies.lean ====
section
/-! DEFINITION. The meanings of the events of the isolation link, of the switch die, which goes on while the control die is held
in reset (R125), and of SUPPLY. -/

namespace Sys2Proof.Machine

/-! ### The isolation link -/

/-- A drive frame is sent (R114) and arrives at the switch die or does not (R110). A control die held in reset sends none. -/
def execDriveFrame (a : DriveArrival) (openLoad : BitVec 12) (s : State) : Result :=
  .next (s.event (State.sendDrive a openLoad))

/-- The slot closes (R115). -/
def execStatusSlotClose (a : StatusArrival) (s : State) : Result := .next (s.event (State.slotClose a))

/-! ### The switch die -/

/-- 16 ms pass without a good drive frame (R110). -/
def execSwitchDieSafe (s : State) : Result := .next s.dieSafe

/-- A channel's current limit trips (R111). -/
def execCurrentLimitTrip (n : Fin 12) (s : State) : Result := .next { s with die := s.die.trip s.now n }

/-- A channel's retry expires (R111). -/
def execRetryExpiry (n : Fin 12) (s : State) : Result := .next (s.retryExpiry n)

/-- A channel's switch passes its temperature limit (R112). -/
def execOvertempChange (n : Fin 12) (hot : Bool) (s : State) : Result := .next { s with die := s.die.setHot n hot }

/-- The output supply falls below its limit (R113). -/
def execUvOnset (s : State) : Result := .next { s with die := { s.die with uv := true } }

/-- The output supply recovers (R113). -/
def execUvRecovery (s : State) : Result := .next { s with die := s.die.uvRecover }

/-- The switch die's own supply comes up (R110). -/
def execSwitchDiePowerUp (s : State) : Result := .next { s with die := s.die.restart }

/-! ### SUPPLY -/

/-- A core-supply sample (R178). -/
def execCoreSupplySample (low : Bool) (sel : SelLow) (s : State) : Result := .next (s.coreSample low sel)

/-- A SUPPLY_LOW reset is carried out (R178, R180). -/
def execSupplyLowReset (s : State) : Result := .next s.enterSupplyLow

/-- A POWER_ON reset (R178, R180). -/
def execPowerOnReset (lines : Lines) (sel : SelLow) (s : State) : Result := .next (s.powerOn lines sel)

/-- RESETn falls (R179). -/
def execResetnFall (s : State) : Result := .next s.resetFall

/-- RESETn has been low for 100 us (R179). -/
def execPinLatchArmed (s : State) : Result := .next s.latchArmed

/-- RESETn rises (R179). -/
def execResetnRise (sel : SelLow) (s : State) : Result := .next (s.resetRise sel)

/-- A battery sample (R181). -/
def execBatterySample (millivolts : Nat) (s : State) : Result := .next (s.event (State.batterySample millivolts))

end Sys2Proof.Machine
end

