-- ==== Sys2Proof/Machine/Dispatch.lean ====
section
/-! DEFINITION. The dispatch: one arm for each command, each a direct call of its meaning. -/

namespace Sys2Proof.Machine

/-- The effect of a command on everything but the queue. -/
def exec (i : Instr) (s : State) : Host.Outcome State Fault Refusal :=
  match i with
  | .nop p => Sys2Proof.Machine.execNop p s
  | .getNotices p => Sys2Proof.Machine.execGetNotices p s
  | .getStatus p group => Sys2Proof.Machine.execGetStatus p group s
  | .demand p f => Sys2Proof.Machine.execDemand p f s
  | .deskClaim p => Sys2Proof.Machine.execDeskClaim p s
  | .deskRelease p => Sys2Proof.Machine.execDeskRelease p s
  | .vigilReset p => Sys2Proof.Machine.execVigilReset p s
  | .vacate p => Sys2Proof.Machine.execVacate p s
  | .routeOverride p route => Sys2Proof.Machine.execRouteOverride p route s
  | .junctionRepeat p => Sys2Proof.Machine.execJunctionRepeat p s
  | .getJunction p index part => Sys2Proof.Machine.execGetJunction p index part s
  | .stopSet p => Sys2Proof.Machine.execStopSet p s
  | .stopCancel p => Sys2Proof.Machine.execStopCancel p s
  | .getStopRecord p index part => Sys2Proof.Machine.execGetStopRecord p index part s
  | .touchRead p ask => Sys2Proof.Machine.execTouchRead p ask s
  | .diagSummary p => Sys2Proof.Machine.execDiagSummary p s
  | .diagChannel p channel => Sys2Proof.Machine.execDiagChannel p channel s
  | .outputTest p channel => Sys2Proof.Machine.execOutputTest p channel s
  | .setLineLimit p value => Sys2Proof.Machine.execSetLineLimit p value s
  | .setRunNumber p value => Sys2Proof.Machine.execSetRunNumber p value s
  | .settingWrite p field value channel => Sys2Proof.Machine.execSettingWrite p field value channel s
  | .settingRead p field channel => Sys2Proof.Machine.execSettingRead p field channel s
  | .patternHeader p number count rep priority minRun => Sys2Proof.Machine.execPatternHeader p number count rep priority minRun s
  | .patternStep p number index on duration tone => Sys2Proof.Machine.execPatternStep p number index on duration tone s
  | .tableWrite p e => Sys2Proof.Machine.execTableWrite p e s
  | .tableDelete p id => Sys2Proof.Machine.execTableDelete p id s
  | .tableRead p position part => Sys2Proof.Machine.execTableRead p position part s
  | .tableSignature p => Sys2Proof.Machine.execTableSignature p s
  | .planAppend p id route => Sys2Proof.Machine.execPlanAppend p id route s
  | .planClear p => Sys2Proof.Machine.execPlanClear p s
  | .planRead p position => Sys2Proof.Machine.execPlanRead p position s
  | .resetCause p => Sys2Proof.Machine.execResetCause p s
  | .unknownCommand p code => Sys2Proof.Machine.execUnknownCommand p code s
  | .frameRejected p clocks byte0 => Sys2Proof.Machine.execFrameRejected p clocks byte0 s
  | .waitingForReleaseEnd p => Sys2Proof.Machine.execWaitingForReleaseEnd p s
  | .keyOff c => Sys2Proof.Machine.execKeyOff c s
  | .emstopPress c => Sys2Proof.Machine.execEmstopPress c s
  | .emstopRelease c => Sys2Proof.Machine.execEmstopRelease c s
  | .dclOpen => Sys2Proof.Machine.execDclOpen s
  | .dclClose => Sys2Proof.Machine.execDclClose s
  | .tachoPulse sensor bHigh => Sys2Proof.Machine.execTachoPulse sensor bHigh s
  | .windowEnd => Sys2Proof.Machine.execWindowEnd s
  | .slipRunOnExpiry => Sys2Proof.Machine.execSlipRunOnExpiry s
  | .shaperPeriod => Sys2Proof.Machine.execShaperPeriod s
  | .freshness300MsExpiry => Sys2Proof.Machine.execFreshness300MsExpiry s
  | .freshness1000MsExpiry => Sys2Proof.Machine.execFreshness1000MsExpiry s
  | .claimWindowExpiry => Sys2Proof.Machine.execClaimWindowExpiry s
  | .tlinkCycleStart => Sys2Proof.Machine.execTlinkCycleStart s
  | .stationReplyGood r => Sys2Proof.Machine.execStationReplyGood r s
  | .stationMiss m => Sys2Proof.Machine.execStationMiss m s
  | .vigilActivityTimerExpiry => Sys2Proof.Machine.execVigilActivityTimerExpiry s
  | .warnTimerExpiry => Sys2Proof.Machine.execWarnTimerExpiry s
  | .graceTimerExpiry => Sys2Proof.Machine.execGraceTimerExpiry s
  | .patternStepExpiry slot => Sys2Proof.Machine.execPatternStepExpiry slot s
  | .minimumRunReached c => Sys2Proof.Machine.execMinimumRunReached c s
  | .toneHalfPeriod => Sys2Proof.Machine.execToneHalfPeriod s
  | .touchScanStart => Sys2Proof.Machine.execTouchScanStart s
  | .touchMeasurement k count => Sys2Proof.Machine.execTouchMeasurement k count s
  | .driveFrame a openLoad => Sys2Proof.Machine.execDriveFrame a openLoad s
  | .switchDieSafe => Sys2Proof.Machine.execSwitchDieSafe s
  | .currentLimitTrip n => Sys2Proof.Machine.execCurrentLimitTrip n s
  | .retryExpiry n => Sys2Proof.Machine.execRetryExpiry n s
  | .overtempChange n hot => Sys2Proof.Machine.execOvertempChange n hot s
  | .uvOnset => Sys2Proof.Machine.execUvOnset s
  | .uvRecovery => Sys2Proof.Machine.execUvRecovery s
  | .statusSlotClose a => Sys2Proof.Machine.execStatusSlotClose a s
  | .requestBeacon id => Sys2Proof.Machine.execRequestBeacon id s
  | .confirmBeacon id routeSet locked occupied => Sys2Proof.Machine.execConfirmBeacon id routeSet locked occupied s
  | .report id tram seq result routeSet => Sys2Proof.Machine.execReport id tram seq result routeSet s
  | .telegramDropped => Sys2Proof.Machine.execTelegramDropped s
  | .loopPresenceLapse => Sys2Proof.Machine.execLoopPresenceLapse s
  | .reportTimerExpiry id => Sys2Proof.Machine.execReportTimerExpiry id s
  | .coreSupplySample low sel => Sys2Proof.Machine.execCoreSupplySample low sel s
  | .supplyLowReset => Sys2Proof.Machine.execSupplyLowReset s
  | .powerOnReset lines sel => Sys2Proof.Machine.execPowerOnReset lines sel s
  | .resetnFall => Sys2Proof.Machine.execResetnFall s
  | .pinLatchArmed => Sys2Proof.Machine.execPinLatchArmed s
  | .resetnRise sel => Sys2Proof.Machine.execResetnRise sel s
  | .batterySample millivolts => Sys2Proof.Machine.execBatterySample millivolts s
  | .keyOn c => Sys2Proof.Machine.execKeyOn c s
  | .switchDiePowerUp => Sys2Proof.Machine.execSwitchDiePowerUp s

end Sys2Proof.Machine
end

