-- ==== Sys2Proof/Machine/Wire.lean ====
section
/-! DEFINITION. The lines themselves: the bits of a desk port (R168 to R170), and the frames and telegrams that the block sends
and receives (chapter 13). A row of the table is what these read; `step` takes the rows (log 10). -/

namespace Sys2Proof.Machine

/-! ### A desk port, bit by bit (R168 to R170) -/

/-- SEL falls (R169): a frame opens in IDLE when the port does not wait for release. -/
def PortRec.selFall (r : PortRec) : PortRec :=
  match r.shift with
  | .idle => if r.waiting then r else { r with shift := .shifting 0 [] }
  | .shifting _ _ => r

/-- SCK rises with SDI at a level (R169): while SHIFTING the bit is appended and the clock count, saturating at 255, increased. -/
def PortRec.sckRise (r : PortRec) (sdi : Bool) : PortRec :=
  match r.shift with
  | .idle => r
  | .shifting n bits => { r with shift := .shifting (min 255 (n + 1)) (bits ++ [sdi]) }

/-- Bit k of a reply as it is shifted out, bit 7 of byte 0 first; low after the 64th (R169). -/
def Reply.bitAt (r : Reply) (k : Nat) : Bool :=
  match r.bytes[k / 8]? with
  | some b => b.getMsbD (k % 8)
  | none => false

/-- The level of SDO after k falling edges of SCK in an open frame; not driven while SEL is high (R169). DESIGN CHOICE (log 48):
nor is it driven while SEL is low on a port that waits for release, where R169 says nothing of it. -/
def PortRec.sdo (r : PortRec) (k : Nat) : Option Bool :=
  match r.shift with
  | .idle => none
  | .shifting _ _ => some (r.reply.bitAt k)

/-- Eight bits as a byte, the first bit 7. -/
def byteOfBits (bits : List Bool) : Byte := BitVec.ofNat 8 (bits.foldl (fun n b => 2 * n + b.toNat) 0)

/-- The whole bytes of a run of bits. -/
def bytesOfBits : Nat → List Bool → List Byte
  | 0, _ => []
  | n + 1, bits => byteOfBits (bits.take 8) :: bytesOfBits n (bits.drop 8)

/-- SEL rises (R169, R170): the row it is, if any. A frame of 64 clocks is judged by its check; one of another length is bad. -/
def PortRec.selRise (p : Port) (r : PortRec) : Option Instr :=
  match r.shift with
  | .idle => if r.waiting then some (.waitingForReleaseEnd p) else none
  | .shifting n bits => some (if n = 64 then decodeFrame p (bytesOfBits 8 bits) else .frameRejected p n 0)

/-! ### The traction link (13.2) -/

/-- The address of a station. -/
def address : Station → Byte
  | .tu1 => 0x51
  | .tu2 => 0x52
  | .brk => 0x53

/-- The code of a vehicle-relative direction: 0 none, 1 plus, 2 minus. -/
def vdirBits : VDir → BitVec 2
  | .none => 0
  | .plus => 1
  | .minus => 2

/-- A frame closed with the CRC-8 over its other bytes. -/
def close8 (body : List Byte) : List Byte := body ++ [crc8 body]

/-- The command frame to a traction unit (R72). -/
def TuCommand.bytes (c : TuCommand) (st : Station) : List Byte :=
  close8 ([address st] ++ bytesOf16 (BitVec.ofInt 16 c.demand) ++
    [((vdirBits c.direction ++ BitVec.ofBool c.brake) ++ BitVec.ofBool c.emergency) ++ BitVec.ofNat 4 c.count])

/-- The command frame to the brake control unit (R73). -/
def BrkCommand.bytes (c : BrkCommand) : List Byte :=
  close8 ([address .brk] ++ bytesOf16 (BitVec.ofNat 16 c.demand) ++ [(BitVec.ofBool c.brake ++ BitVec.ofBool c.emergency) ++ 0#6])

/-- The command frame of the open poll. -/
def Poll.bytes : Poll → List Byte
  | .tu1 c => c.bytes .tu1
  | .tu2 c => c.bytes .tu2
  | .brk c => c.bytes

/-- A unit state of two bits. -/
def unitOf (x : BitVec 2) : UnitState := if x = 0 then .ready else if x = 1 then .starting else if x = 2 then .limited else .fault

/-- A traction unit's reply to a command (R74): none when it is bad. -/
def readTu (st : Station) (c : TuCommand) (bytes : List Byte) : Option TuReply :=
  match bytes with
  | [a, x, e1, e0, k] =>
    if a = address st ∧ k = crc8 [a, x, e1, e0] ∧ (x.extractLsb' 0 4).toNat = c.count ∧ (word16 e1 e0).toNat ≤ 1000 then
      some { unit := unitOf (x.extractLsb' 6 2), effort := word16 e1 e0, slip := x.getLsbD 5, lineVoltage := x.getLsbD 4 }
    else none
  | _ => none

/-- The brake control unit's reply (R74): its four zero bits are 0. -/
def readBrk (bytes : List Byte) : Option BrkReply :=
  match bytes with
  | [a, x, k] =>
    if a = address .brk ∧ k = crc8 [a, x] ∧ x.extractLsb' 0 4 = 0#4 then
      some { unit := unitOf (x.extractLsb' 6 2), brakeApplied := x.getLsbD 5, brakeAvailable := x.getLsbD 4 }
    else none
  | _ => none

/-- The length of a reply frame of a station (13.2). -/
def replyLength : Station → Nat
  | .tu1 => 5
  | .tu2 => 5
  | .brk => 3

/-- The good reply that a complete frame is, if it is one (R74). -/
def Poll.judge (poll : Poll) (frame : List Byte) : Option StationReply :=
  match poll with
  | .tu1 c => (readTu .tu1 c frame).map .tu1
  | .tu2 c => (readTu .tu2 c frame).map .tu2
  | .brk _ => (readBrk frame).map .brk

/-- The station whose address the first character is, if it is one's. -/
def senderOf (chars : List Byte) : Option Station :=
  [Station.tu1, .tu2, .brk].find? fun st => decide (chars.head? = some (address st))

/-- How many characters make the first frame complete: the reply length of the station whose address it bears. DESIGN CHOICE (log
47): the spec gives the link no framing, and a first character that is no station's address takes the polled station's length. -/
def Poll.frameLength (poll : Poll) (chars : List Byte) : Nat := replyLength ((senderOf chars).getD poll.station)

/-- The row that closes a poll, by the characters that arrive in its window (R74): the first complete frame is judged, and the
characters after it are discarded; fewer characters than a frame are a missing reply. Every row it gives closes the polled
station's poll. -/
def Poll.closing (poll : Poll) (chars : List Byte) : Instr :=
  if chars.length < poll.frameLength chars then .stationMiss { station := poll.station, cause := .missing }
  else
    match poll.judge (chars.take (poll.frameLength chars)) with
    | some r => .stationReplyGood r
    | none => .stationMiss { station := poll.station, cause := .bad }

/-! ### Loop telegrams (13.3) -/

/-- A telegram closed with the CRC-16 over its other bytes. -/
def close16 (body : List Byte) : List Byte := body ++ bytesOf16 (crc16 body)

/-- A telegram as it is handed to the loop modem (R151). -/
def Telegram.bytes : Telegram → List Byte
  | .request id route tram run dir seq =>
    close16 ([0x10] ++ bytesOf16 (BitVec.ofNat 16 id) ++ [BitVec.ofNat 8 route] ++ bytesOf16 (BitVec.ofNat 16 tram) ++
      bytesOf16 (BitVec.ofNat 16 run) ++ [(vdirBits dir ++ 0#3) ++ seq])
  | .cancel id tram run seq =>
    close16 ([0x11] ++ bytesOf16 (BitVec.ofNat 16 id) ++ bytesOf16 (BitVec.ofNat 16 tram) ++ bytesOf16 (BitVec.ofNat 16 run) ++
      [seq.setWidth 8])

/-- A report's result by its code (13.3). -/
def resultOf (x : BitVec 3) : Option ReportResult :=
  match x.toNat with
  | 1 => some .setLocked
  | 2 => some .moving
  | 3 => some .refusedOccupied
  | 4 => some .refusedRoute
  | 5 => some .pointFault
  | _ => none

/-- A telegram's row kept when the telegram is well formed, else the row of a dropped telegram (R187). -/
def keepIf (i : Instr) : Instr := if wellFormed i then i else .telegramDropped

/-- The row of a received telegram (R150, R187): dropped when its length, type, check or a field is wrong. DESIGN CHOICE (log 54):
a telegram of type 0x10 or 0x11, codes that R187 gives to what the tram sends, is dropped too, whatever its length and check: the
spec gives its receipt no effect. -/
def readTelegram (bytes : List Byte) : Instr :=
  match bytes with
  | [0x01#8, i1, i0, k1, k0] =>
    if word16 k1 k0 = crc16 [0x01, i1, i0] then keepIf (.requestBeacon (word16 i1 i0)) else .telegramDropped
  | [0x02#8, i1, i0, x, k1, k0] =>
    if word16 k1 k0 = crc16 [0x02, i1, i0, x] then
      keepIf (.confirmBeacon (word16 i1 i0) (x.extractLsb' 5 3) (x.getLsbD 4) (x.getLsbD 3))
    else .telegramDropped
  | [0x03#8, i1, i0, t1, t0, x, r, k1, k0] =>
    if word16 k1 k0 = crc16 [0x03, i1, i0, t1, t0, x, r] then
      match resultOf (x.extractLsb' 2 3) with
      | some res => keepIf (.report (word16 i1 i0) (word16 t1 t0) (x.extractLsb' 5 3) res r)
      | none => .telegramDropped
    else .telegramDropped
  | _ => .telegramDropped

/-! ### The isolation link (13.4) -/

/-- A drive frame (R114). -/
def DriveFrame.bytes (f : DriveFrame) : List Byte := close8 (bytesOf16 (f.bits ++ f.count))

/-- A drive frame read at the switch die (R110): none when it is not good. -/
def readDrive (bytes : List Byte) : Option DriveFrame :=
  match bytes with
  | [x, y, k] =>
    if k = crc8 [x, y] then some { bits := (word16 x y).extractLsb' 4 12, count := (word16 x y).extractLsb' 0 4 } else none
  | _ => none

/-- The five bits of a channel in a status frame. -/
def chanBits (c : ChanStatus) : List Bool := [c.on, c.openLoad, c.overload, c.overtemp, c.latched]

/-- Bytes 1 to 8 of a status frame: the 60 bits of the channels, then its last 4 zero bits. -/
def chanBytes (f : StatusFrame) : List Byte :=
  bytesOfBits 8 ((f.chans.toList.flatMap chanBits) ++ (List.range 4).map fun i => f.zeros.getMsbD (i + 2))

/-- A status frame (13.4); the zero bits that the switch die sends are 0. -/
def statusBytes (f : StatusFrame) : List Byte :=
  close8 ([((BitVec.ofBool f.following ++ BitVec.ofBool f.uv) ++ f.zeros.extractLsb' 4 2) ++ f.echo] ++ chanBytes f)

/-- The eight bits of a byte, bit 7 first. -/
def bitsOfByte (b : Byte) : List Bool := (List.range 8).map b.getMsbD

/-- What the bits of bytes 1 to 8 report of channel n. -/
def chanOf (bits : List Bool) (n : Nat) : ChanStatus :=
  let at_ (k : Nat) : Bool := (bits[5 * n + k]?).getD false
  { on := at_ 0, openLoad := at_ 1, overload := at_ 2, overtemp := at_ 3, latched := at_ 4 }

/-- What a status frame of a right check reads as (R115); none when it is incomplete or its check is wrong. -/
def readStatus (bytes : List Byte) : Option StatusFrame :=
  match bytes with
  | [b0, b1, b2, b3, b4, b5, b6, b7, b8, k] =>
    let bits := [b1, b2, b3, b4, b5, b6, b7, b8].flatMap bitsOfByte
    if k = crc8 [b0, b1, b2, b3, b4, b5, b6, b7, b8] then
      some
        { following := b0.getLsbD 7, uv := b0.getLsbD 6, zeros := b0.extractLsb' 4 2 ++ b8.extractLsb' 0 4
          echo := b0.extractLsb' 0 4, chans := rowOf fun n => chanOf bits n.val }
    else none
  | _ => none

end Sys2Proof.Machine
end

