-- ==== Sys2Proof/Safety.lean ====
section
/-! DEFINITION. What always holds of the block, part by part, and the terms that the statements use. -/

namespace Sys2Proof.Machine

/-! ### Terms of the statements -/

/-- Port p takes a good frame (R169, R170): the die is not held in reset, the port does not wait for release, and no notice of a
running step waits to be routed. -/
def Taking (p : Port) (s : State) : Prop := s.held = false ∧ (s.ports.get p).waiting = false ∧ s.raised = 0

/-- The control die runs and no notice of a running step waits to be routed. -/
def Running (s : State) : Prop := s.held = false ∧ s.raised = 0

/-- A port has kind k waiting (R174). -/
def Told (s : State) (p : Port) (k : Notice) : Prop := hasFlag (s.ports.get p).notices k.idx = true

/-- The reply pending on a port. -/
def State.replyOf (s : State) (p : Port) : Reply := (s.ports.get p).reply

/-- The reply of a refusal (R171, section 13.1). -/
def refusal (code : BitVec 8) (r : Reason) : Reply := { status := .refused, code := code, data := r.code ++ 0#32 }

/-- A reply DONE with data. -/
def doneReply (code : BitVec 8) (data : BitVec 40) : Reply := { status := .done, code := code, data := data }

/-- The refusal of a command: the reply is its only effect. -/
def State.refuse (s : State) (p : Port) (code : BitVec 8) (r : Reason) : State := s.reply p (refusal code r)

/-- The set of one notice kind. -/
def only (k : Notice) : BitVec 20 := addFlag 0 k.idx

/-- The recipients of a notice kind (R174); CLAIM_LAPSED and OUTPUT_FAULT go to ports that their rules name. -/
def recipients (k : Notice) (a : Auth) (p : Port) : Bool :=
  match k with
  | .authChanged | .vigilPenalty | .emergencyChanged | .batteryLow => true
  | .claimLapsed | .outputFault => false
  | .touchFault => decide (p = .V)
  | .overrideIgnored => decide (a.holder = some p)
  | _ => decide (a.holder = some p) || decide (p = .V)

/-- The notices of one kind, when a condition holds, as R174 routes them under a record. -/
def toldIf (b : Bool) (k : Notice) (a : Auth) (p : Port) : BitVec 20 := if b && recipients k a p then only k else 0

/-- Every port's record in `t` is that of `s` with the kinds given for the port added to its notice set (R174): nothing else is
told, and each port's pending reply, shift state and waiting for release stay. What a command on port p leaves is compared with
`s.reply p r`, so that its reply is `r`. -/
def Notified (s t : State) (kinds : Port → BitVec 20) : Prop :=
  ∀ p, t.ports.get p = { s.ports.get p with notices := (s.ports.get p).notices ||| kinds p }

/-! #### SOUND, the emergency sources and JUNCT, as a transition of another block leaves them -/

/-- A channel of SOUND keeps its slot and its level request. -/
def channelKept (a b : SoundRec) (c : Sounder) : Prop := b.slot c = a.slot c ∧ b.req c = a.req c

/-- A channel's level request stands exactly when it is asked for; slot and request are as the placing or the withdrawing leaves
them (R100). -/
def channelAsked (a b : SoundRec) (now : Nat) (c : Sounder) (on : Bool) : Prop :=
  (b.req c ≠ .notPlaced ↔ on = true) ∧ b.slot c = (a.want now c on).slot c ∧ b.req c = (a.want now c on).req c

/-- Of SOUND only the slots and requests of the channels named may change: the other channels, patterns, test slot, TONE and the
departure flags stay. -/
def soundKept (a b : SoundRec) (but : List Sounder) : Prop :=
  (∀ c, c ∉ but → channelKept a b c) ∧ { b with slots := a.slots, level := a.level } = a

/-- What the adding of a source leaves of SHAPER and SOUND (R57, R58): to an empty set, O and O_prev of -1000 and the hazard
request placed. Of SOUND only the channels named besides may change. -/
def sourceAdded (s t : State) (k : EmSource) (but : List Sounder := []) : Prop :=
  let first := s.shaper.sources = 0
  t.shaper = { s.shaper with
    sources := addFlag s.shaper.sources k.idx
    o := if first then -1000 else s.shaper.o
    oPrev := if first then -1000 else s.shaper.oPrev } ∧
  (if first then channelAsked s.sound t.sound t.now .hazard true else channelKept s.sound t.sound .hazard) ∧
  soundKept s.sound t.sound (.hazard :: but) ∧ t.driveBit 11 = false

/-- What the removal of a source that is present leaves of SHAPER and SOUND (R48, R59, R66): the set that empties disarms
zero-pass, has the next period take O_prev of -1000, withdraws the hazard request and commands EBLOOP on; while the link is LINK_LOST the set keeps LOOP_DROPPED instead of emptying. Of
SOUND only the channels named besides may change. -/
def sourceRemoved (s t : State) (k : EmSource) (but : List Sounder := []) : Prop :=
  let rest := dropFlag s.shaper.sources k.idx
  let empties := rest = 0 ∧ s.outbank.linkUp = true
  t.shaper = { s.shaper with
    sources := if rest = 0 ∧ s.outbank.linkUp = false then addFlag 0 EmSource.loopDropped.idx else rest
    zeroPass := if empties then false else s.shaper.zeroPass
    oPrev := if empties then -1000 else s.shaper.oPrev } ∧
  (if empties then channelAsked s.sound t.sound t.now .hazard false ∧ t.driveBit 11 = true
   else channelKept s.sound t.sound .hazard) ∧
  soundKept s.sound t.sound (.hazard :: but)

/-- JUNCT once every transaction is cancelled (R166): a CANCEL telegram for each, in creation order, while loop presence is set;
the list empty and, if it was not, the overflow caution cleared. Plan, pending override, sequence and loop presence stay. -/
def junctCancelled (s : State) : JunctRec :=
  { s.junct with
    list := [], overflow := s.junct.overflow && s.junct.list.isEmpty
    outbox := if s.junct.presence then
        s.junct.outbox ++ s.junct.list.map fun x => .cancel x.id s.settings.tram s.settings.run x.seq
      else s.junct.outbox }

/-! #### The transitions of the authority record -/

/-- What the entry to VACANT from HELD at standstill leaves (R15, R35, R59, R60, R83, R88, R103, R166): no cab, no demand,
zero-pass disarmed, LEVER removed with what follows from it, every transaction cancelled, VIGIL at rest but for a PENALTY, no horn
or bell but what an output test sounds, no buzzer request. AUTH_CHANGED is told to all, EMERGENCY_CHANGED if the set empties, and
JUNCTION_CHANGED if a transaction was cancelled. Everything else is kept. -/
def Vacated (s t : State) : Prop :=
  let left : State := { s with shaper := { s.shaper with demand := none, stage := .coasting, zeroPass := false } }
  let silenced : List Sounder := [.hornA, .hornB, .bellA, .bellB, .buzzA, .buzzB]
  t.auth = .vacant ∧
    (s.shaper.has .lever = true → sourceRemoved left t .lever silenced) ∧
    (s.shaper.has .lever = false → t.shaper = left.shaper ∧ soundKept s.sound t.sound silenced) ∧
    t.junct = junctCancelled s ∧
    t.vigil = { s.vigil with
      state := if s.vigil.state = .penalty then .penalty else .idle
      lastActivity := none, warnStart := none, releaseTime := none, handle := true, buzzer := false } ∧
    (∀ c ∈ hornBellChannels,
      t.sound.req c = .notPlaced ∧ t.sound.slot c = (s.sound.slot c).filter fun i => decide (3 ≤ i.pattern.val)) ∧
    (∀ c ∈ [Sounder.buzzA, .buzzB], channelAsked s.sound t.sound s.now c false) ∧
    Notified s t (fun p => only .authChanged |||
      (if s.shaper.sources ≠ 0 ∧ t.shaper.sources = 0 then only .emergencyChanged else 0) |||
      toldIf (!s.junct.list.isEmpty) .junctionChanged .vacant p) ∧
    { t with ports := s.ports, auth := s.auth, shaper := s.shaper, vigil := s.vigil, sound := s.sound, junct := s.junct } = s

/-- The emergency sources after an entry to HELD (R10, R59, R66, R67): STARTUP is removed and, with the link UP, LOOP_DROPPED; while
the link is LINK_LOST the set that STARTUP leaves keeps LOOP_DROPPED instead of emptying. -/
def heldSources (u : State) : BitVec 8 :=
  let rest := dropFlag u.shaper.sources EmSource.startup.idx
  if u.outbank.linkUp then dropFlag rest EmSource.loopDropped.idx
  else if u.shaper.has .startup = true ∧ rest = 0 then addFlag 0 EmSource.loopDropped.idx
  else rest

/-- What the entry of cab x's claim to HELD leaves at standstill, from the records `u` (R10, R38, R39, R59, R67, R83, R88, R103,
R140, R166): the demand record from the claimant fields with its stage by the frame's age; zero-pass disarmed; the sources as
`heldSources`; VIGIL at rest but for a PENALTY, with the claimant's lever and handle; the stop record cleared but for the chime;
every transaction cancelled; horn and bell at cab x by the claimant's buttons while FRESH; the hazard request withdrawn if the set
empties. Everything else is kept. -/
def HeldEntered (u t : State) (x : Cab) (c : Claimant) : Prop :=
  let age := u.now - c.frameTime
  let stage : Stage := if 1000 < age then .staleBrake else if 300 < age then .coasting else .fresh
  let rested : VigilRec :=
    if u.vigil.state = .penalty then u.vigil
    else { u.vigil with state := .idle, lastActivity := none, warnStart := none, releaseTime := none }
  t.auth = .held x .neutral ∧
    t.shaper = { u.shaper with
      demand := some
        { lever := c.lever, handle := c.handle, horn := c.horn, bell := c.bell, sand := c.sand, takenAt := c.frameTime }
      stage := stage, zeroPass := false, sources := heldSources u
      oPrev := if u.shaper.sources ≠ 0 ∧ heldSources u = 0 then -1000 else u.shaper.oPrev } ∧
    t.vigil = { rested with leverRef := c.lever, handle := c.handle, buzzer := rested.releaseTime.isSome } ∧
    t.stop = { u.stop with
      record := if u.stop.record.first.isSome then { StopRec.empty with chime := u.stop.record.chime } else u.stop.record } ∧
    t.junct = junctCancelled u ∧
    (∀ e : Cab, channelAsked u.sound t.sound u.now (hornOf e) (decide (stage = .fresh) && c.horn && decide (e = x)) ∧
      channelAsked u.sound t.sound u.now (bellOf e) (decide (stage = .fresh) && c.bell && decide (e = x)) ∧
      channelAsked u.sound t.sound u.now (buzzOf e) (t.vigil.buzzer && decide (e = x))) ∧
    (if u.shaper.sources ≠ 0 ∧ t.shaper.sources = 0 then channelAsked u.sound t.sound u.now .hazard false
     else channelKept u.sound t.sound .hazard) ∧
    soundKept u.sound t.sound [.hornA, .hornB, .bellA, .bellB, .buzzA, .buzzB, .hazard] ∧
    { t with ports := u.ports, auth := u.auth, shaper := u.shaper, vigil := u.vigil, stop := u.stop, junct := u.junct,
             sound := u.sound } = u

/-- The notices of an entry to HELD (R10, R38, R59, R88, R140, R166, R174). -/
def heldKinds (u t : State) (p : Port) : BitVec 20 :=
  only .authChanged ||| toldIf (decide (t.shaper.stage = .staleBrake)) .demandStale t.auth p |||
    toldIf (t.vigil.buzzer && !u.vigil.buzzer) .vigilWarn t.auth p |||
    (if u.shaper.sources ≠ 0 ∧ t.shaper.sources = 0 then only .emergencyChanged else 0) |||
    toldIf u.stop.record.first.isSome .stopChanged t.auth p ||| toldIf (!u.junct.list.isEmpty) .junctionChanged t.auth p

/-- The synchronisation check of a claim with claimant fields, on the records `u` (R7): HELD is entered when every condition holds,
and otherwise nothing changes. -/
def syncTaken (u t : State) (x : Cab) (c : Claimant) : Prop :=
  if u.wheel.stationary = true ∧ u.tlink.brk.answering = true ∧ (u.tlink.brk.last.map BrkReply.brakeApplied) = some true ∧
      emstopLevel u.lines x = false ∧ (-100 ≤ c.lever ∧ c.lever ≤ 0) ∧ c.direction = .neutral then
    HeldEntered u t x c
  else { t with ports := u.ports } = u

/-- The notices of an event after which the check is made: its own, and those of the entry to HELD if there is one. -/
def withHeldKinds (u t : State) (kinds : Port → BitVec 20) (p : Port) : BitVec 20 :=
  kinds p ||| if t.auth.isHeld then heldKinds u t p else 0

/-- The notices of a window end, by what it changed (R14, R25, R28, R38, R55, R58, R59, R88, R137, R166, R174). -/
def windowKinds (s t : State) (p : Port) : BitVec 20 :=
  toldIf (s.wheel.s1.failed != t.wheel.s1.failed || s.wheel.s2.failed != t.wheel.s2.failed) .sensorChanged t.auth p |||
    toldIf (decide (s.wheel.adhesion ≠ t.wheel.adhesion)) .adhesion t.auth p |||
    toldIf (!s.shaper.doorReported && t.shaper.doorReported) .doorOpenMoving t.auth p |||
    (if s.shaper.sources = 0 ↔ t.shaper.sources = 0 then 0 else only .emergencyChanged) |||
    toldIf (!s.vigil.buzzer && t.vigil.buzzer) .vigilWarn t.auth p |||
    toldIf (s.stop.record.first.isSome && t.stop.record.first.isNone) .stopChanged t.auth p |||
    toldIf (!s.junct.list.isEmpty && t.junct.list.isEmpty) .junctionChanged t.auth p |||
    (if s.auth = t.auth then 0 else only .authChanged) |||
    toldIf (!s.auth.isHeld && t.auth.isHeld && decide (t.shaper.stage = .staleBrake)) .demandStale t.auth p

/-- A lever as the demand record may hold it (R35). -/
def leverIn (x : Int) : Prop := x = -128 ∨ (-100 ≤ x ∧ x ≤ 100)

/-! ### What always holds -/

/-- R57, R58, R66, R107: while the set is non-empty O is -1000; while the link is LINK_LOST the set is non-empty; the hazard
request stands exactly while the set is non-empty. -/
def EmergencyInv (s : State) : Prop :=
  (s.shaper.sources ≠ 0 → s.shaper.o = -1000) ∧
    (s.outbank.linkUp = false → s.shaper.sources ≠ 0) ∧
    (s.held = false → (s.sound.req .hazard ≠ .notPlaced ↔ s.shaper.sources ≠ 0))

/-- The authority state is LOST. -/
def Auth.isLost : Auth → Bool
  | .lost _ _ => true
  | _ => false

/-- The authority state has a leading end: HELD or LOST (R4). -/
def Auth.leads (a : Auth) : Bool := a.isHeld || a.isLost

/-- R35, R62, R63, R65: the demand record has its fields exactly while HELD; AUTH_LOST is in the set exactly while LOST, PENALTY
exactly while VIGIL is in PENALTY; STARTUP is gone once a cab holds. -/
def AuthInv (s : State) : Prop :=
  s.shaper.demand.isSome = s.auth.isHeld ∧
    s.shaper.has .authLost = s.auth.isLost ∧
    s.shaper.has .penalty = decide (s.vigil.state = .penalty) ∧
    (s.auth.leads = true → s.shaper.has .startup = false)

/-- The claimant fields of a claim (R1). -/
def Auth.claimant : Auth → Option Claimant
  | .claiming _ _ c => c
  | _ => none

/-- R1, R35, R43, R46, R47, R49, R50: levers, O, O_prev, T, V_lim and C lie in their ranges, and a positive O does not exceed C. -/
def OutputInv (s : State) : Prop :=
  (∀ d ∈ s.shaper.demand, leverIn d.lever) ∧ (∀ c ∈ s.auth.claimant, leverIn c.lever) ∧
    (-1000 ≤ s.shaper.o ∧ s.shaper.o ≤ 1000) ∧ (-1000 ≤ s.shaper.oPrev ∧ s.shaper.oPrev ≤ 1000) ∧
    (-1000 ≤ s.shaper.t ∧ s.shaper.t ≤ 1000) ∧ (50 ≤ s.shaper.vLim ∧ s.shaper.vLim ≤ 800) ∧ s.shaper.c ≤ 1000 ∧
    (0 < s.shaper.o → s.shaper.o ≤ s.shaper.c)

/-- A sensor record within its ranges (R19). -/
def sensorIn (r : SensorRec) : Prop := r.count ≤ 511 ∧ r.speed ≤ 1200 ∧ r.failRun ≤ 8 ∧ r.recoverRun ≤ 8

/-- R19, R23, R24, R26, R28, R29, R31, R33: WHEEL's fields lie in their ranges, at most one sensor is FAILED, and SLIP has no slip
run-on. -/
def WheelInv (s : State) : Prop :=
  let w := s.wheel
  sensorIn w.s1 ∧ sensorIn w.s2 ∧ w.v ≤ 1200 ∧ ¬(w.s1.failed = true ∧ w.s2.failed = true) ∧ w.disagree ≤ 4 ∧ w.agree ≤ 2 ∧
    w.emptyRun ≤ 4 ∧ w.odometer ≤ odometerMax ∧ w.remainder ≤ 63 ∧ w.reverse ≤ reverseMax ∧
    (w.adhesion = .slip → w.runOn = none)

/-- R70, R71, R76: a station is ANSWERING exactly while its miss run is below 5, and then has a last reply. -/
def TlinkInv (s : State) : Prop :=
  let t := s.tlink
  (t.tu1.missRun ≤ 5 ∧ t.tu1.answering = decide (t.tu1.missRun < 5) ∧ (t.tu1.answering = true → t.tu1.last.isSome = true)) ∧
    (t.tu2.missRun ≤ 5 ∧ t.tu2.answering = decide (t.tu2.missRun < 5) ∧ (t.tu2.answering = true → t.tu2.last.isSome = true)) ∧
    (t.brk.missRun ≤ 5 ∧ t.brk.answering = decide (t.brk.missRun < 5) ∧ (t.brk.answering = true → t.brk.last.isSome = true)) ∧
    (∀ r ∈ t.tu1.last, r.effort.toNat ≤ 1000) ∧ (∀ r ∈ t.tu2.last, r.effort.toNat ≤ 1000) ∧ t.cycle ≤ 15

/-- R82, R83, R88: the times are present exactly in their states, VIGIL watches only under a leading end, and the buzzer request
stands exactly in WARN or while the grace timer runs. -/
def VigilInv (s : State) : Prop :=
  let v := s.vigil
  v.lastActivity.isSome = v.state.watching ∧ v.warnStart.isSome = decide (v.state = .warn) ∧
    (v.releaseTime.isSome = true → v.state.watching = true) ∧ (v.state.watching = true → s.auth.leads = true) ∧
    v.buzzer = v.wantsBuzzer ∧ leverIn v.leverRef

/-- R110, R111: in SAFE no channel of the switch die is ON and the recovery run is below 8; a latched channel has had three
overloads. -/
def DieInv (s : State) : Prop :=
  s.die.recovery ≤ 8 ∧ (s.die.following = false → s.die.recovery < 8) ∧
    ∀ n : Fin 12, (s.die.following = false → (cell s.die.chans n).sw ≠ .on) ∧
      ((cell s.die.chans n).sw = .latchedOff → 3 ≤ (cell s.die.chans n).history.length)

/-- A port's sticky set holds every live fault (R120, R121). -/
def stickyHolds (o : OutbankRec) (k : Sticky) : Prop :=
  (o.linkUp = false → k.linkLost = true) ∧ (0 < o.badRun → k.te = true) ∧
    (o.linkUp = true → (o.liveUv = true → k.uv = true) ∧ ∀ n : Fin 12, cell o.live n &&& cell k.chans n = cell o.live n)

/-- R66, R116, R120: the runs of the link agree with its state, and each port's sticky set holds every live fault. -/
def LinkInv (s : State) : Prop :=
  let o := s.outbank
  o.badRun ≤ 16 ∧ o.goodRun ≤ 8 ∧ (o.linkUp = true → o.badRun < 16) ∧ (o.linkUp = false → o.goodRun < 8) ∧
    stickyHolds o o.sticky.a ∧ stickyHolds o o.sticky.b ∧ stickyHolds o o.sticky.v ∧ s.shaper.mismatch < 3

/-- A touch channel's record for its assignment (R126): which fields are present in which state. -/
def touchIn (c : TouchRec) (a : Assignment) : Prop :=
  (c.state = .disabled ↔ a = .disabled) ∧ c.confirm ≤ 3 ∧ c.voidRun ≤ 3 ∧
    c.rangeRun.isSome = decide (c.state = .faulted) ∧ (∀ r ∈ c.rangeRun, r ≤ 50) ∧
    (c.state = .disabled → c.baseline = none) ∧
    c.pressedAt.isSome = (decide (c.state = .pressed) || decide (c.state = .releasing) || decide (c.state = .stuck)) ∧
    c.saved.isSome =
      (decide (c.state = .pressing) || decide (c.state = .pressed) || decide (c.state = .releasing) || decide (c.state = .stuck))

/-- R126, R135 to R137, R141: the touch records, the stop record and the history ring keep their forms; AT_STOP has its doors
open, and a section that runs with open doors moves. -/
def StopInv (s : State) : Prop :=
  (∀ k : Fin 16, touchIn (cell s.stop.chans k) (cell s.settings.touch k)) ∧ s.stop.history.length ≤ 8 ∧
    s.stop.record.presses ≤ 255 ∧
    (s.stop.record.first = none → s.stop.record.doors = 0 ∧ s.stop.record.wheelchair = false ∧ s.stop.record.presses = 0) ∧
    (s.held = false → s.stop.sect = .atStop → s.lines.dcl = false) ∧
    (s.held = false → s.stop.sect = .running → s.lines.dcl = false → s.wheel.stationary = false)

/-- A junction table entry within its ranges (R144). -/
def entryIn (e : Entry) : Prop :=
  (1 ≤ e.id ∧ e.id ≤ 4095) ∧ (1 ≤ e.routes ∧ e.routes ≤ 4) ∧ (1 ≤ e.defaultRoute ∧ e.defaultRoute ≤ e.routes) ∧
    (10 ≤ e.points ∧ e.points ≤ 400) ∧ (5 ≤ e.clear ∧ e.clear ≤ 60)

/-- A junction and route agree with the table (R145). -/
def routeIn (table : List Entry) (id route : Nat) : Prop := ∃ e ∈ table, e.id = id ∧ 1 ≤ route ∧ route ≤ e.routes

/-- A transaction's own fields (R152): the report timer is present exactly in REQUESTING, and the marks are in order. -/
def transIn (t : Transaction) : Prop :=
  t.timer.isSome = decide (t.state = .requesting) ∧ (1 ≤ t.tries ∧ t.tries ≤ 3) ∧ t.requestMark ≤ t.cautionMark ∧
    t.cautionMark ≤ t.clearMark ∧ t.clearMark ≤ odometerMax

/-- R144, R145, R148, R150, R152, R161, R164: the table ascends without repeats and holds at most 96 entries; the plan holds at most
32 and the list at most 4, never two for one junction; plan, list and table agree; the overflow caution stands only while the list
is full. -/
def JunctInv (s : State) : Prop :=
  let j := s.junct
  j.table.Pairwise (fun a b => a.id < b.id) ∧ j.table.length ≤ 96 ∧ (∀ e ∈ j.table, entryIn e) ∧ j.plan.length ≤ 32 ∧
    (∀ q ∈ j.plan, routeIn j.table q.id q.route) ∧ j.list.length ≤ 4 ∧ j.list.Pairwise (fun a b => a.id ≠ b.id) ∧
    (∀ t ∈ j.list, routeIn j.table t.id t.route ∧ transIn t) ∧ (∀ r ∈ j.pendingOverride, 1 ≤ r ∧ r ≤ 4) ∧
    (j.overflow = true → j.list.length = 4) ∧ j.presence = j.lapseAt.isSome

/-- An assignment within its range (R126). -/
def assignmentIn : Assignment → Prop
  | .disabled => True
  | .door d => 1 ≤ d ∧ d ≤ 6
  | .wheelchair d => 1 ≤ d ∧ d ≤ 6

/-- R182: every settings field lies in its range. -/
def SettingsInv (s : State) : Prop :=
  let r := s.settings
  (1 ≤ r.tram ∧ r.tram ≤ 9999) ∧ r.run ≤ 999 ∧ (1760 ≤ r.circumference ∧ r.circumference ≤ 2140) ∧
    (20 ≤ r.vigilInterval ∧ r.vigilInterval ≤ 60) ∧ (10 ≤ r.handleGrace ∧ r.handleGrace ≤ 30) ∧
    (50 ≤ r.lineLimit ∧ r.lineLimit ≤ 800) ∧ (20 ≤ r.cautionLead ∧ r.cautionLead ≤ 120) ∧ r.departureBell ≤ 1 ∧
    (20 ≤ r.threshold ∧ r.threshold ≤ 400) ∧ (∀ k : Fin 16, assignmentIn (cell r.touch k)) ∧ r.battery ≤ 2

/-- R178, R180, R181: the die is held exactly while the low run stands at 8; the latest reset's kind is in the cause record; the
battery runs lie in their ranges, and no notice waits between steps. -/
def SupplyInv (s : State) : Prop :=
  s.supply.lowRun ≤ 8 ∧ (s.held = true ↔ s.supply.lowRun = 8) ∧ hasFlag s.supply.causes s.supply.latest.idx = true ∧
    s.supply.batLow ≤ 12 ∧ s.supply.batHigh ≤ 12 ∧ s.raised = 0

/-- Everything that always holds. -/
def Inv (s : State) : Prop :=
  EmergencyInv s ∧ AuthInv s ∧ OutputInv s ∧ WheelInv s ∧ TlinkInv s ∧ VigilInv s ∧ DieInv s ∧ LinkInv s ∧ StopInv s ∧
    JunctInv s ∧ SettingsInv s ∧ SupplyInv s

end Sys2Proof.Machine
end

