-- ==== Sys2Proof/Certificates/Slice0/Obligations.lean ====
section
/-! DEFINITION. The statements for the provers. -/

open Sys2Proof Sys2Proof.Machine

/-! ### The step -/

/-- The command at the front of the queue is the step; with an empty queue 1 ms passes (the model's choice, log 2). -/
def Obligations.StepRunsFrontCommand : Prop :=
  (∀ (c : Instr) (rest : List Instr) (s : State), s.pending = c :: rest → step s = exec c { s with pending := rest }) ∧
    ∀ s : State, s.pending = [] → step s = .next { s with now := s.now + 1 }

/-! ### Standstill, as more than one statement needs it -/

/-- STOPREQ once a running section has ended (R137, R141): a record with a request becomes the newest of at most eight history
entries, with the odometer and the time of the end; the record is empty and the section AT_STOP. -/
def sectionEnded (s : State) (now : Nat) : StopReqRec :=
  { s.stop with
    sect := .atStop, record := .empty
    history := (match s.stop.record.first with
      | none => s.stop.history
      | some f => ({ first := f, doors := s.stop.record.doors, wheelchair := s.stop.record.wheelchair,
                     presses := s.stop.record.presses, chime := s.stop.record.chime, endMark := s.wheel.odometer,
                     endTime := now - s.epoch } :: s.stop.history).take 8) }

/-- The sources whose condition holds at the window end that sets STATIONARY (R60, R61, R64, R67, R68); AUTH_LOST ends with LOST
(R63), and LEVER with it, since the demand record then holds no lever (R60). -/
def endAtRest (s : State) : BitVec 8 :=
  let k (b : Bool) (e : EmSource) : BitVec 8 := if b then addFlag 0 e.idx else 0
  k (s.shaper.leverBack || s.auth.isLost) .lever ||| k (!s.lines.emstopA) .emstopA ||| k (!s.lines.emstopB) .emstopB |||
    k s.tlink.brk.answering .brakeLink ||| k s.outbank.linkUp .loopDropped ||| k s.auth.isLost .authLost

/-- What a window end that sets STATIONARY leaves beyond WHEEL, the ports and a claim's check (R14, R15, R39, R59 to R61, R63,
R64, R66 to R68, R83, R88, R92, R103, R137, R141, R166). The set loses every source whose condition holds, and keeps LOOP_DROPPED
instead of emptying while the link is LINK_LOST. -/
def comesToRest (s t : State) : Prop :=
  let lost := s.auth.isLost
  let released := (s.shaper.demand.map DemandBody.handle) = some false
  let rest := s.shaper.sources &&& ~~~(endAtRest s)
  let empties := s.shaper.sources ≠ 0 ∧ rest = 0 ∧ s.outbank.linkUp = true
  let idled : VigilRec := { s.vigil with state := .idle, lastActivity := none, warnStart := none, releaseTime := none, buzzer := false }
  t.auth = (if lost then .vacant else s.auth) ∧
    t.shaper = { s.shaper with
      demand := if lost then none else s.shaper.demand
      stage := if lost then .coasting else s.shaper.stage
      zeroPass := if released ∨ empties ∨ lost = true then false else s.shaper.zeroPass
      oPrev := if empties then -1000 else s.shaper.oPrev
      sources := if s.shaper.sources ≠ 0 ∧ rest = 0 ∧ s.outbank.linkUp = false then addFlag 0 EmSource.loopDropped.idx else rest } ∧
    t.stop = (if s.stop.sect = .running ∧ s.lines.dcl = false then sectionEnded s t.now else s.stop) ∧
    t.vigil =
      (if lost then
        if s.vigil.state = .penalty then { s.vigil with handle := true, buzzer := s.vigil.wantsBuzzer }
        else { idled with handle := true }
      else if s.vigil.state = .watch ∨ s.vigil.state = .warn then idled
      else s.vigil) ∧
    t.junct = (if lost then junctCancelled s else s.junct) ∧
    (∀ c ∈ hornBellChannels,
      if lost then t.sound.req c = .notPlaced ∧ t.sound.slot c = (s.sound.slot c).filter fun i => decide (3 ≤ i.pattern.val)
      else channelKept s.sound t.sound c) ∧
    (∀ c ∈ [Sounder.buzzA, .buzzB],
      if lost = true ∨ s.vigil.state = .watch ∨ s.vigil.state = .warn then channelAsked s.sound t.sound t.now c false
      else channelKept s.sound t.sound c) ∧
    (if empties then channelAsked s.sound t.sound t.now .hazard false else channelKept s.sound t.sound .hazard) ∧
    soundKept s.sound t.sound [.hornA, .hornB, .bellA, .bellB, .buzzA, .buzzB, .hazard]

/-- What a window end that clears STATIONARY leaves beyond WHEEL and the ports (R55, R57, R58, R64, R83, R88, R90): BRAKE_LINK
added when BRK does not answer, with O and O_prev of -1000 and the hazard request at a first source; open doors reported; under
HELD, VIGIL's watch begun from IDLE, with the demand record's lever and, when the handle is released, the grace timer and the
buzzer. -/
def beginsToMove (s t : State) : Prop :=
  let adds := s.tlink.brk.answering = false
  let first := adds ∧ s.shaper.sources = 0
  let watches := s.auth.isHeld = true ∧ s.vigil.state = .idle
  t.auth = s.auth ∧ t.stop = s.stop ∧ t.junct = s.junct ∧
    t.shaper = { s.shaper with
      sources := if adds then addFlag s.shaper.sources EmSource.brakeLink.idx else s.shaper.sources
      o := if first then -1000 else s.shaper.o
      oPrev := if first then -1000 else s.shaper.oPrev
      doorReported := s.shaper.doorReported || !s.lines.dcl } ∧
    (watches →
      { t.vigil with leverRef := s.vigil.leverRef } = { s.vigil with
        state := .watch, lastActivity := some t.now, buzzer := !s.vigil.handle
        releaseTime := if s.vigil.handle then none else some t.now } ∧
      (∀ d, s.shaper.demand = some d → t.vigil.leverRef = d.lever) ∧
      ∀ e, channelAsked s.sound t.sound t.now (buzzOf e) (t.vigil.buzzer && decide (s.auth.cab = some e))) ∧
    (¬watches → t.vigil = s.vigil ∧ ∀ e, channelKept s.sound t.sound (buzzOf e)) ∧
    (if first then channelAsked s.sound t.sound t.now .hazard true else channelKept s.sound t.sound .hazard) ∧
    soundKept s.sound t.sound [.buzzA, .buzzB, .hazard]

/-! ### Driving authority (01) -/

/-- R3: the table of standings, the one DRIVING port, and the gating at the taking. R4: vehicle-relative direction and leading
end, in HELD and LOST and outside them. -/
def Obligations.StandingsAndDirections : Prop :=
   ((∀ (a : Auth) (x : Cab),
      a.standing .V = .vehicle ∧
        (a.standing (portOf x) = .driving ↔ ∃ d, a = .held x d) ∧
        (a.standing (portOf x) = .claiming ↔ ∃ t c, a = .claiming x t c) ∧
        (a.standing (portOf x) ≠ .driving → a.standing (portOf x) ≠ .claiming → a.standing (portOf x) = .watching)) ∧
      (∀ a : Auth, ¬(a.standing .A = .driving ∧ a.standing .B = .driving)) ∧
      ∀ (i : Instr) (p : Port) (code : Byte) (q : Params) (f : Permit) (s : State),
        wellFormed i = true → encodeCommand i = some (p, code, q) → permitOf code = some f → Taking p s →
          f (s.auth.standing p) = false → exec i s = .next (s.refuse p code .notPermitted)) ∧
   ((∀ a ∈ [fun x d => Auth.held x d, fun x d => Auth.lost x d],
      ((a .A .neutral).vdir, (a .A .neutral).leading) = (VDir.none, some Cab.A) ∧
        ((a .A .forward).vdir, (a .A .forward).leading) = (VDir.plus, some Cab.A) ∧
        ((a .A .reverse).vdir, (a .A .reverse).leading) = (VDir.minus, some Cab.B) ∧
        ((a .B .neutral).vdir, (a .B .neutral).leading) = (VDir.none, some Cab.B) ∧
        ((a .B .forward).vdir, (a .B .forward).leading) = (VDir.minus, some Cab.B) ∧
        ((a .B .reverse).vdir, (a .B .reverse).leading) = (VDir.plus, some Cab.A)) ∧
      (Auth.vacant.vdir = .none ∧ Auth.vacant.leading = none) ∧
      ∀ (x : Cab) (t : Nat) (c : Option Claimant), (Auth.claiming x t c).vdir = .none ∧ (Auth.claiming x t c).leading = none)

/-- R5: DESK CLAIM by authority state and key, its acceptance and its refusals. An accepted claim changes the authority record,
tells AUTH_CHANGED to all, and ends every output test (R103). -/
def Obligations.DeskClaimAnswered : Prop :=
  ∀ s : State,
    (Taking .V s → exec (.deskClaim .V) s = .next (s.refuse .V 0x11 .notPermitted)) ∧
      ∀ x : Cab, Taking (portOf x) s →
        match s.auth with
        | .vacant =>
          if keyLevel s.lines x then
            ∃ t, exec (.deskClaim (portOf x)) s = .next t ∧ t.auth = .claiming x s.now none ∧
              t.replyOf (portOf x) = { status := .accepted, code := 0x11, data := 0 } ∧
              Notified (s.reply (portOf x) { status := .accepted, code := 0x11, data := 0 }) t (fun _ => only .authChanged) ∧
              t.sound = s.sound.endTests s.now ∧
              { t with ports := s.ports, auth := s.auth, sound := s.sound } = s
          else exec (.deskClaim (portOf x)) s = .next (s.refuse (portOf x) 0x11 .noKey)
        | .claiming c _ _ =>
          exec (.deskClaim (portOf x)) s = .next (s.refuse (portOf x) 0x11 (if c = x then .already else .deskBusy))
        | .held c _ =>
          exec (.deskClaim (portOf x)) s = .next (s.refuse (portOf x) 0x11 (if c = x then .already else .deskBusy))
        | .lost _ _ => exec (.deskClaim (portOf x)) s = .next (s.refuse (portOf x) 0x11 .deskBusy)

/-- The notices of a claim that ends without HELD (R8, R9): AUTH_CHANGED to all, CLAIM_LAPSED to the claiming cab's port and V. -/
def claimEndNotices (x : Cab) (p : Port) : BitVec 20 :=
  only .authChanged ||| (if p = portOf x ∨ p = .V then only .claimLapsed else 0)

/-- R8, R9: a claim ends at the expiry of its window, at its key going off, and at VACATE; an expiry without a claim and the other
cab's key do not touch the record. That an expiry carries the clock to its due time is the model's choice (log 2). -/
def Obligations.ClaimEndsWithoutHeld : Prop :=
  ∀ (s : State) (x : Cab) (start : Nat) (c : Option Claimant), Running s → s.auth = .claiming x start c →
    (∃ t, exec .claimWindowExpiry s = .next t ∧ t.auth = .vacant ∧ t.now = max s.now (start + 5000) ∧
      Notified s t (claimEndNotices x) ∧ { t with ports := s.ports, auth := s.auth, now := s.now } = s) ∧
    (∃ t, exec (.keyOff x) s = .next t ∧ t.auth = .vacant ∧ t.lines = setKey s.lines x false ∧
      Notified s t (claimEndNotices x) ∧ { t with ports := s.ports, auth := s.auth, lines := s.lines } = s) ∧
    exec (.keyOff (otherEnd x)) s = .next { s with lines := setKey s.lines (otherEnd x) false } ∧
    (Taking .V s → ∃ t, exec (.vacate .V) s = .next t ∧ t.auth = .vacant ∧ t.replyOf .V = doneReply 0x14 0 ∧
      Notified (s.reply .V (doneReply 0x14 0)) t (claimEndNotices x) ∧ { t with ports := s.ports, auth := s.auth } = s) ∧
    ∀ u : State, Running u → (∀ y b d, u.auth ≠ .claiming y b d) → exec .claimWindowExpiry u = .next u

/-- The fields a claim's frame writes (R6). -/
def claimantOf (f : DemandFrame) (d : Direction) (now : Nat) : Claimant :=
  { lever := clampLever f.lever, direction := d, handle := f.handle, horn := f.horn, bell := f.bell, sand := f.sand
    frameTime := now }

/-- R6, R7, R10, R15, R38, R67, R88, R103, R140, R166: a claimant's frame writes the claimant fields, and takes HELD when every
condition of synchronisation holds, with all that the entry to HELD brings: the new holder's demand record is the frame's, FRESH,
with zero-pass disarmed, STARTUP gone, LOOP_DROPPED tested, the stop record cleared but for the chime, and every transaction
cancelled with its telegram. Nothing else changes. R36: a frame whose direction code is 3 is refused OUT_OF_RANGE and nothing of
it is applied. -/
def Obligations.ClaimantFrameSynchronises : Prop :=
  ∀ (s : State) (x : Cab) (start : Nat) (old : Option Claimant) (f : DemandFrame),
    Taking (portOf x) s → s.auth = .claiming x start old →
    (f.direction = 3 → exec (.demand (portOf x) f) s = .next (s.refuse (portOf x) 0x10 .outOfRange)) ∧
    ∀ d : Direction, directionOf f.direction = some d →
    ∃ t, exec (.demand (portOf x) f) s = .next t ∧ (t.replyOf (portOf x)).code = 0x10 ∧
      (t.replyOf (portOf x)).status = (if clampLever f.lever = f.lever.toInt then .done else .doneClamped) ∧
      (let answered := s.reply (portOf x) (t.replyOf (portOf x))
       if s.wheel.stationary = true ∧ s.tlink.brk.answering = true ∧ (s.tlink.brk.last.map BrkReply.brakeApplied) = some true ∧
          emstopLevel s.lines x = false ∧ (-100 ≤ clampLever f.lever ∧ clampLever f.lever ≤ 0) ∧ d = .neutral then
        t.auth = .held x .neutral ∧ t.shaper.demand = some (.ofFrame f s.now) ∧ t.shaper.stage = .fresh ∧
          t.shaper.has .startup = false ∧ HeldEntered answered t x (claimantOf f d s.now) ∧
          Notified answered t (heldKinds answered t)
      else
        t.auth = .claiming x start (some (claimantOf f d s.now)) ∧ { t with auth := s.auth } = answered)

/-- R11, R12 (with R15, R59, R60, R103, R104, R166): DESK RELEASE and VACATE, taken and refused, from every standing and in every
authority state. The premise VigilInv (R82, R88) rules out records of VIGIL that no run reaches; that every step keeps it is a
statement of its own. That the entry to VACANT leaves the holding-brake flag to the next period end, where R15 has the brake
demanded, is the model's reading (log 15). -/
def Obligations.ReleaseAndVacate : Prop :=
  ∀ s : State, VigilInv s →
    (∀ p : Port, Taking p s → s.auth.standing p ≠ .driving → exec (.deskRelease p) s = .next (s.refuse p 0x12 .notPermitted)) ∧
    (∀ x : Cab, Taking (portOf x) s → exec (.vacate (portOf x)) s = .next (s.refuse (portOf x) 0x14 .notPermitted)) ∧
    (∀ (x : Cab) (d : Direction), Taking (portOf x) s → s.auth = .held x d →
      if s.wheel.stationary = true ∧ s.shaper.o ≤ 0 then
        ∃ t, exec (.deskRelease (portOf x)) s = .next t ∧ t.replyOf (portOf x) = doneReply 0x12 0 ∧
          Vacated (s.reply (portOf x) (doneReply 0x12 0)) t
      else exec (.deskRelease (portOf x)) s = .next (s.refuse (portOf x) 0x12 .moving)) ∧
    (Taking .V s →
      (s.auth = .vacant → exec (.vacate .V) s = .next (s.reply .V (doneReply 0x14 0))) ∧
      (∀ x b c, s.auth = .claiming x b c → ∃ t, exec (.vacate .V) s = .next t ∧ t.auth = .vacant ∧ t.replyOf .V = doneReply 0x14 0 ∧
        Notified (s.reply .V (doneReply 0x14 0)) t (claimEndNotices x) ∧ { t with ports := s.ports, auth := s.auth } = s) ∧
      (∀ x d, s.auth = .held x d →
        if s.wheel.stationary then
          ∃ t, exec (.vacate .V) s = .next t ∧ t.replyOf .V = doneReply 0x14 0 ∧ Vacated (s.reply .V (doneReply 0x14 0)) t
        else exec (.vacate .V) s = .next (s.refuse .V 0x14 .moving)) ∧
      (∀ x d, s.auth = .lost x d → exec (.vacate .V) s = .next (s.refuse .V 0x14 .moving)))

/-- R13, R15: the holder's key going off, at rest and in motion. In motion LOST keeps cab and direction, AUTH_LOST joins the set,
every transaction retires with its CANCEL telegram while loop presence is set, and the horn and bell requests are withdrawn
(R103). The premise VigilInv (R82, R88) rules out records of VIGIL that no run reaches. That the entry to VACANT leaves the
holding-brake flag to the next period end, where R15 has the brake demanded, is the model's reading (log 15). -/
def Obligations.KeyOffWhileHeld : Prop :=
  ∀ (s : State) (x : Cab) (d : Direction), Running s → VigilInv s → s.auth = .held x d →
    ∃ t, exec (.keyOff x) s = .next t ∧ t.lines = setKey s.lines x false ∧
      if s.wheel.stationary then Vacated { s with lines := t.lines } t
      else
        t.auth = .lost x d ∧ t.auth.standing (portOf x) = .watching ∧
          sourceAdded { s with shaper := { s.shaper with demand := none, stage := .coasting, zeroPass := false } } t .authLost
            hornBellChannels ∧
          (∀ c ∈ hornBellChannels, channelAsked s.sound t.sound s.now c false) ∧ t.junct = junctCancelled s ∧
          Notified s t (fun p => only .authChanged ||| (if s.shaper.sources = 0 then only .emergencyChanged else 0) |||
            toldIf (!s.junct.list.isEmpty) .junctionChanged (.lost x d) p) ∧
          { t with ports := s.ports, auth := s.auth, lines := s.lines, shaper := s.shaper, junct := s.junct, sound := s.sound } = s

/-- R14, R15 (with R5, R12): in LOST both keys change only their line, claims and VACATE are refused, and the window end that sets
STATIONARY enters VACANT and removes AUTH_LOST, with all that R15 and standstill bring (`comesToRest`): the demand gone, zero-pass
disarmed, the sources that standstill ends, VIGIL at rest or in PENALTY, horn, bell and buzzers silent, the section ended if the
doors stand open, a transaction left over cancelled. A key going on never does more than change its line. That the entry to VACANT
leaves the holding-brake flag to the next period end, where R15 has the brake demanded, is the model's reading (log 15); that a
window end is due 250 ms after the one before is the model's clock (log 2). -/
def Obligations.LostUntilStandstill : Prop :=
  (∀ (s : State) (c : Cab), Running s → exec (.keyOn c) s = .next { s with lines := setKey s.lines c true }) ∧
  ∀ (s : State) (x : Cab) (d : Direction), Running s → s.auth = .lost x d →
    (∀ c : Cab, exec (.keyOff c) s = .next { s with lines := setKey s.lines c false }) ∧
    (∀ c : Cab, Taking (portOf c) s → exec (.deskClaim (portOf c)) s = .next (s.refuse (portOf c) 0x11 .deskBusy)) ∧
    (Taking .V s → exec (.vacate .V) s = .next (s.refuse .V 0x14 .moving)) ∧
    (s.wheel.stationary = false → s.wheel.emptyRun = 3 → s.wheel.s1.count = 0 → s.wheel.s2.count = 0 →
      ∃ t, exec .windowEnd s = .next t ∧ t.auth = .vacant ∧ t.shaper.has .authLost = false ∧ t.wheel.stationary = true ∧
        (s.vigil.state = .penalty → t.vigil.state = .penalty) ∧ (∀ p, Told t p .authChanged) ∧ t.shaper.demand = none ∧
        comesToRest s t ∧ Notified s t (windowKinds s t) ∧
        { t with now := s.now, ports := s.ports, auth := s.auth, wheel := s.wheel, shaper := s.shaper, vigil := s.vigil,
                 sound := s.sound, stop := s.stop, junct := s.junct } = s)

/-! ### Desk ports (11, 13.1) -/

/-- The table of R172: each code of the catalogue with its permitted standings. -/
def permittedStandings : List (Byte × List Standing) :=
  let all : List Standing := [.driving, .claiming, .watching, .vehicle]
  (([0x00, 0x01, 0x02, 0x23, 0x32, 0x40, 0x41] : List Byte).map fun c => (c, all)) ++
    [(0x10, [.driving, .claiming]), (0x11, [.watching, .claiming, .driving]), (0x30, [.driving, .vehicle]),
      (0x31, [.driving, .vehicle])] ++
    (([0x12, 0x13, 0x20, 0x21] : List Byte).map fun c => (c, [.driving])) ++
    ([0x14, 0x33, 0x42, 0x50, 0x51, 0x52, 0x53, 0x54, 0x55, 0x60, 0x61, 0x62, 0x63, 0x64, 0x65, 0x66, 0x70] : List Byte).map
      fun c => (c, [.vehicle])

/-- R171, R172: a frame whose code is outside the catalogue is refused UNKNOWN_COMMAND whatever the standing; a command of the
catalogue from a standing that its row does not permit is refused NOT_PERMITTED. Either refusal changes only the port's reply.
R171 (NOP), R175, R176: NOP only replies; GET NOTICES answers DONE with the port's set as a mask of 20 bits in bytes 2 to 4 and
empties the set, which releases ATTN; the other ports' sets and ATTN lines stay. R174: a kind raised in a step is added to the
sets its row names, with the holder read from the record the step leaves, and to no other; a kind already there leaves the set as
it was; ATTN is low exactly while the set is non-empty (R175). R169, R170: a bad frame is answered FRAME_REJECTED with code 0x00,
the kind of error, the clock count and, for a check error, byte 0 as received; it does nothing else. An unknown code is refused
(R171). On a port that waits for release the rising edge of SEL takes nothing and ends the wait. -/
def Obligations.FramesGatedAndNoticed : Prop :=
   (∀ (i : Instr) (p : Port) (code : Byte) (q : Params) (s : State), wellFormed i = true → encodeCommand i = some (p, code, q) →
      Taking p s →
      match permittedStandings.find? fun e => e.1 == code with
      | none => exec i s = .next (s.refuse p code .unknownCommand)
      | some e => s.auth.standing p ∉ e.2 → exec i s = .next (s.refuse p code .notPermitted)) ∧
   (∀ (p : Port) (s : State), Taking p s →
      exec (.nop p) s = .next (s.reply p (doneReply 0x00 0)) ∧
      ∃ t, exec (.getNotices p) s = .next t ∧
        t.ports.get p = { s.ports.get p with
          notices := 0, shift := .idle, reply := doneReply 0x01 ((s.ports.get p).notices.zeroExtend 40 <<< 16) } ∧
        t.attn p = false ∧ (∀ r, r ≠ p → t.ports.get r = s.ports.get r ∧ t.attn r = s.attn r) ∧
        { t with ports := s.ports } = s) ∧
   ((∀ (s : State) (k : Notice) (p : Port), s.raised = 0 →
      Notified s (s.raise k).deliver (fun r => if recipients k s.auth r then only k else 0) ∧
        ((s.raise k).deliver.attn p = true ↔ ((s.raise k).deliver.ports.get p).notices ≠ 0) ∧
        { (s.raise k).deliver with ports := s.ports } = s) ∧
      ∀ (a : Auth) (p : Port), a.holder = some p ↔ ∃ x d, p = portOf x ∧ a = .held x d) ∧
   ((∀ (p : Port) (code : Byte) (s : State), Taking p s → commandCodes.contains code = false →
      exec (.unknownCommand p code) s = .next (s.refuse p code .unknownCommand)) ∧
    (∀ (p : Port) (clocks : Nat) (b : Byte) (s : State), Taking p s →
      (clocks ≠ 64 → exec (.frameRejected p clocks b) s =
        .next (s.reply p { status := .frameRejected, code := 0, data := (1#8 ++ BitVec.ofNat 8 (min 255 clocks)) ++ 0#24 })) ∧
      exec (.frameRejected p 64 b) s =
        .next (s.reply p { status := .frameRejected, code := 0, data := ((2#8 ++ 64#8) ++ b) ++ 0#16 })) ∧
    ∀ (p : Port) (s : State), s.held = false →
      exec (.waitingForReleaseEnd p) s =
        .next { s with ports := s.ports.put p { s.ports.get p with waiting := false } })

/-- R169, R170, at the level of the lines: SEL falls, 64 clocks carry the bits of eight bytes, bit 7 of byte 0 first, and SEL
rises; the frame is judged by its eight bytes, and the master has been shown the reply's bits in the same order, then low. -/
def Obligations.PortShiftsFrame : Prop :=
  ∀ (p : Port) (r : PortRec) (bytes : List Byte), r.shift = .idle → r.waiting = false → bytes.length = 8 →
    let bits := bytes.flatMap bitsOfByte
    (bits.foldl PortRec.sckRise r.selFall).selRise p = some (decodeFrame p bytes) ∧
      (∀ k : Nat, k < 64 → r.selFall.sdo k = some ((r.reply.bytes.flatMap bitsOfByte)[k]?.getD false)) ∧
      (∀ k : Nat, 64 ≤ k → r.selFall.sdo k = some false) ∧ r.sdo 0 = none ∧
      ∀ (n : Nat) (sdi : Bool), n ≠ 64 → n < 256 →
        ((List.replicate n sdi).foldl PortRec.sckRise r.selFall).selRise p = some (.frameRejected p n 0)

/-- 13.1, R170 to R172, R185: the eight bytes of every well-formed desk command are read back as that command, with every operand.
-/
def Obligations.DeskFramesRoundTrip : Prop :=
  ∀ (i : Instr) (p : Port) (bytes : List Byte), wellFormed i = true → encodeFrame i = some (p, bytes) → decodeFrame p bytes = i

/-! ### Supply, reset and settings (12) -/

/-- The emergency sources of a part whose reset has just ended: STARTUP, and EMSTOP_A and EMSTOP_B where their lines are pressed
(R57). -/
def startSources (l : Lines) : BitVec 8 :=
  addFlag 0 EmSource.startup.idx ||| (if l.emstopA then addFlag 0 EmSource.emstopA.idx else 0) |||
    if l.emstopB then addFlag 0 EmSource.emstopB.idx else 0

/-- The control die as every reset leaves it at its end, alike for the three kinds (R178): each block's record at the value its
chapter gives, with the lines and select lines as sampled; the switch die, the queue and the cause record are not touched. -/
def afterReset (s : State) (l : Lines) (sel : SelLow) (causes : BitVec 3) (latest : ResetKind) : State :=
  { pending := s.pending, now := s.now, epoch := s.now, raised := 0, held := false, lines := l,
    ports := { a := .reset sel.a, b := .reset sel.b, v := .reset sel.v }, auth := .vacant, wheel := .reset s.now,
    shaper := { ShaperRec.reset s.now with sources := startSources l }, tlink := .reset, vigil := .reset, sound := .reset s.now,
    outbank := .reset, die := s.die, stop := .reset l.dcl, junct := .reset,
    supply := { SupplyRec.reset s.now causes latest with latch := if l.resetnLow then .timing else .idle }, settings := .reset }

/-- R178, R180: what a POWER_ON reset and a PIN reset leave, and that a SUPPLY_LOW reset holds the die until a good sample; the
cause record is emptied by POWER_ON alone. R178: the run of low core samples, the SUPPLY_LOW reset when it reaches 8, and the held
die, which takes no frame, sends no drive frame, polls no station and answers no telegram. A sample is due 1 ms after the one
before (log 2). The target, speed limit and ceiling that a reset leaves are the model's (log 6), O_prev beside O is R40's 0 (log
7), which rows begin and end a reset is log 8, and what a held die leaves undone is log 11. R179: the pin latch's table: a fall
times, 100 us arm, a rise in TIMING is ignored, a rise in ARMED carries out the PIN reset; while the die is held nothing but the
line moves. R181: a battery sample's two runs, the flag's setting with BATTERY_LOW to all, and its clearing; the time of the
sample is kept. The level is that of the setting's code; a sample is due 10 ms after the one before (log 2). -/
def Obligations.ResetsAndSupply : Prop :=
   ((∀ (l : Lines) (sel : SelLow) (s : State),
      exec (.powerOnReset l sel) s = .next (afterReset s l sel (addFlag 0 ResetKind.powerOn.idx) .powerOn)) ∧
    (∀ (sel : SelLow) (s : State), s.held = false → s.supply.latch = .armed →
      exec (.resetnRise sel) s =
        .next (afterReset s { s.lines with resetnLow := false } sel (addFlag s.supply.causes ResetKind.pin.idx) .pin)) ∧
    (∀ s : State, s.held = false →
      ∃ t, exec .supplyLowReset s = .next t ∧ t.held = true ∧ t.supply.lowRun = 8 ∧
        t.supply.causes = addFlag s.supply.causes ResetKind.supplyLow.idx ∧ t.supply.latest = .supplyLow ∧ t.die = s.die ∧
        t.lines = s.lines ∧
        ∀ sel : SelLow, exec (.coreSupplySample false sel) t =
          .next (afterReset { t with now := max t.now (t.supply.coreAt + 1) } t.lines sel t.supply.causes .supplyLow)) ∧
    ∀ (l : Lines) (sel : SelLow) (s : State),
      (State.reset.auth, State.reset.wheel.stationary, State.reset.shaper.demand, State.reset.settings.lineLimit) =
        ((Auth.vacant, true, none, 500) : Auth × Bool × Option DemandBody × Nat) ∧
      (afterReset s l sel 1 .powerOn).ports.a.reply = { status := .nothing, code := 0, data := 0 } ∧
      (afterReset s l sel 1 .powerOn).shaper.has .startup = true ∧
      ((afterReset s l sel 1 .powerOn).shaper.has .emstopA, (afterReset s l sel 1 .powerOn).shaper.has .emstopB) =
        (l.emstopA, l.emstopB)) ∧
   ((∀ (low : Bool) (sel : SelLow) (s : State), s.held = false →
      let due := { s with now := max s.now (s.supply.coreAt + 1) }
      (low = false → exec (.coreSupplySample low sel) s =
        .next { due with supply := { s.supply with lowRun := 0, coreAt := due.now } }) ∧
      (low = true → s.supply.lowRun < 7 → exec (.coreSupplySample low sel) s =
        .next { due with supply := { s.supply with lowRun := s.supply.lowRun + 1, coreAt := due.now } }) ∧
      (low = true → s.supply.lowRun = 7 → ∃ t, exec (.coreSupplySample low sel) s = .next t ∧ t.held = true ∧ t.auth = .vacant ∧
        t.shaper.sources = 0x40 ∧ t.supply.latest = .supplyLow ∧ t.settings = SettingsRec.reset ∧ t.die = s.die)) ∧
    ∀ (i : Instr) (s : State), s.held = true →
      ((∃ p code q, encodeCommand i = some (p, code, q)) ∨ (∃ a o, i = .driveFrame a o) ∨ i = .tlinkCycleStart ∨
        (∃ id, i = .requestBeacon id) ∨ i = .shaperPeriod ∨ i = .windowEnd) → exec i s = .next s) ∧
   (∀ s : State, s.held = false →
      (s.supply.latch = .idle → exec .resetnFall s =
        .next { s with lines := { s.lines with resetnLow := true }, supply := { s.supply with latch := .timing } }) ∧
      (s.supply.latch = .timing → exec .pinLatchArmed s = .next { s with supply := { s.supply with latch := .armed } }) ∧
      (∀ sel : SelLow, s.supply.latch = .timing → exec (.resetnRise sel) s =
        .next { s with lines := { s.lines with resetnLow := false }, supply := { s.supply with latch := .idle } }) ∧
      (∀ sel : SelLow, s.supply.latch = .armed → ∃ t, exec (.resetnRise sel) s = .next t ∧ t.supply.latch = .idle ∧
        t.supply.latest = .pin ∧ t.auth = .vacant ∧ t.die = s.die) ∧
      ∀ sel : SelLow, exec (.resetnRise sel) { s with held := true } =
        .next { s with held := true, lines := { s.lines with resetnLow := false } }) ∧
   (∀ (mv : Nat) (s : State), Running s →
      let level := ([18000, 19500, 21000] : List Nat).getD s.settings.battery 21000
      let low := if mv < level then min 12 (s.supply.batLow + 1) else 0
      let high := if level + 500 < mv then min 12 (s.supply.batHigh + 1) else 0
      let sets := low = 12 ∧ s.supply.batteryLow = false
      let clears := high = 12 ∧ s.supply.batteryLow = true
      ∃ t, exec (.batterySample mv) s = .next t ∧ t.supply.batLow = low ∧ t.supply.batHigh = high ∧
        t.supply.batteryLow = (if sets then true else if clears then false else s.supply.batteryLow) ∧
        Notified s t (fun _ => if sets then only .batteryLow else 0) ∧ t.now = max s.now (s.supply.batAt + 10) ∧
        t.supply.batAt = t.now ∧
        { t.supply with batLow := s.supply.batLow, batHigh := s.supply.batHigh, batteryLow := s.supply.batteryLow,
                        batAt := s.supply.batAt } = s.supply ∧
        { t with ports := s.ports, supply := s.supply, now := s.now } = s)

/-- The range of a numbered field of the settings record (R182), field 9 aside, and the bits that hold it. -/
def settingRow : Nat → Nat × Nat × Nat
  | 0 => (1, 9999, 14) | 1 => (0, 999, 10) | 2 => (1760, 2140, 12) | 3 => (20, 60, 6) | 4 => (10, 30, 5) | 5 => (50, 800, 10)
  | 6 => (20, 120, 7) | 7 => (0, 1, 1) | 8 => (20, 400, 9) | _ => (0, 2, 2)

/-- The state a taken write of field n leaves, its reply aside (R181, R183). -/
def settingWritten (s : State) (n v : Nat) : State :=
  let x := max (settingRow n).1 (min (settingRow n).2.1 v)
  { s with
    settings := s.settings.put n x
    supply := if n = 10 then { s.supply with batLow := 0, batHigh := 0 } else s.supply }

/-- The reply to a taken write of field n, or to its reading: the field as stored. -/
def settingReply (code : Byte) (n v : Nat) : Reply :=
  let x := max (settingRow n).1 (min (settingRow n).2.1 v)
  { status := if x = v then .done else .doneClamped, code := code, data := BitVec.ofNat 40 (x * 2 ^ (40 - (settingRow n).2.2)) }

/-- The field n of the settings record, field 9 aside (R182). -/
def settingOf (r : SettingsRec) : Nat → Nat
  | 0 => r.tram | 1 => r.run | 2 => r.circumference | 3 => r.vigilInterval | 4 => r.handleGrace | 5 => r.lineLimit
  | 6 => r.cautionLead | 7 => r.departureBell | 8 => r.threshold | _ => r.battery

/-- R183: SETTING WRITE of every field but 9, tested in the rule's order, clamped and answered with the field as stored; SET LINE
LIMIT is a write of field 5 and SET RUN NUMBER of field 1. R182: SETTING READ answers DONE with the field as stored and changes
nothing; a field number above 10, and for field 9 a channel above 15, is OUT_OF_RANGE. A write changes its own field alone. That
the channel byte counts for field 9 alone is the model's reading (log 27). R127, R183: a write of a touch assignment: its kind
tested, its door clamped, the channel's record changed at once. That a write of DISABLED is DONE whatever door it carries is the
model's choice (log 50). -/
def Obligations.SettingsKept : Prop :=
   (∀ (n : BitVec 8) (v : BitVec 16) (k : BitVec 8) (s : State), Taking .V s →
      (10 < n.toNat → exec (.settingWrite .V n v k) s = .next (s.refuse .V 0x52 .outOfRange)) ∧
      (n.toNat ≤ 10 → n.toNat ≠ 9 →
        exec (.settingWrite .V n v k) s = .next (
          if n.toNat ∈ [2, 3, 4] ∧ s.auth ≠ .vacant then s.refuse .V 0x52 .notVacant
          else if n.toNat ∈ [2, 3, 4] ∧ s.wheel.stationary = false then s.refuse .V 0x52 .moving
          else (settingWritten s n.toNat v.toNat).reply .V (settingReply 0x52 n.toNat v.toNat))) ∧
      exec (.setLineLimit .V v) s = .next ((settingWritten s 5 v.toNat).reply .V (settingReply 0x50 5 v.toNat)) ∧
      exec (.setRunNumber .V v) s = .next ((settingWritten s 1 v.toNat).reply .V (settingReply 0x51 1 v.toNat))) ∧
   ((∀ (n k : BitVec 8) (s : State), Taking .V s → SettingsInv s →
      (10 < n.toNat ∨ (n.toNat = 9 ∧ 15 < k.toNat) → exec (.settingRead .V n k) s = .next (s.refuse .V 0x53 .outOfRange)) ∧
      (n.toNat ≤ 10 → n.toNat ≠ 9 →
        exec (.settingRead .V n k) s = .next (s.reply .V (settingReply 0x53 n.toNat (settingOf s.settings n.toNat)))) ∧
      (∀ c : Fin 16, n.toNat = 9 → k.toNat = c.val → ∃ d, exec (.settingRead .V n k) s = .next (s.reply .V (doneReply 0x53 d)) ∧
        d = (match cell s.settings.touch c with
          | .disabled => 0#40
          | .door x => BitVec.ofNat 40 ((1 * 8 + x) * 2 ^ 35)
          | .wheelchair x => BitVec.ofNat 40 ((2 * 8 + x) * 2 ^ 35)))) ∧
    ∀ (s : State) (n m v : Nat), n ≤ 10 → m ≤ 10 → n ≠ 9 → m ≠ 9 →
      settingOf (settingWritten s n v).settings m =
        (if m = n then max (settingRow n).1 (min (settingRow n).2.1 v) else settingOf s.settings m) ∧
      (settingWritten s n v).settings.touch = s.settings.touch) ∧
   (∀ (v : BitVec 16) (k : BitVec 8) (c : Fin 16) (s : State), Taking .V s → SettingsInv s →
      (15 < k.toNat → exec (.settingWrite .V 9 v k) s = .next (s.refuse .V 0x52 .outOfRange)) ∧
      (k.toNat = c.val →
        (2 < (hiByte v).toNat → exec (.settingWrite .V 9 v k) s = .next (s.refuse .V 0x52 .outOfRange)) ∧
        ((hiByte v).toNat ≤ 2 → ∃ t, exec (.settingWrite .V 9 v k) s = .next t ∧
          let d := max 1 (min 6 (loByte v).toNat)
          let old := cell s.settings.touch c
          let new := if (hiByte v).toNat = 0 then Assignment.disabled else if (hiByte v).toNat = 1 then .door d else .wheelchair d
          let r := cell s.stop.chans c
          cell t.settings.touch c = new ∧
            t.replyOf .V =
              { status := if (hiByte v).toNat ≠ 0 ∧ d ≠ (loByte v).toNat then .doneClamped else .done, code := 0x52
                data := BitVec.ofNat 40 (if (hiByte v).toNat = 0 then 0 else ((hiByte v).toNat * 8 + d) * 2 ^ 35) } ∧
            cell t.stop.chans c =
              (if old = .disabled ∧ new ≠ .disabled then { r with state := .idle }
               else if old ≠ .disabled ∧ new = .disabled then
                 { r with state := .disabled, baseline := none, saved := none, confirm := 0, pressedAt := none, voidRun := 0,
                          rangeRun := none }
               else r) ∧
            (∀ j, j ≠ c → cell t.settings.touch j = cell s.settings.touch j ∧ cell t.stop.chans j = cell s.stop.chans j) ∧
            { t.settings with touch := s.settings.touch } = s.settings ∧ { t.stop with chans := s.stop.chans } = s.stop ∧
            { t with settings := s.settings, stop := s.stop } = s.reply .V (t.replyOf .V))))

/-! ### Wheel sensing, speed and distance (02) -/

/-- The record of a sensor. -/
def sensorOf (w : WheelRec) : Sensor → SensorRec
  | .one => w.s1
  | .two => w.s2

/-- The other sensor. -/
def otherSensor : Sensor → Sensor
  | .one => .two
  | .two => .one

/-- What a pulse of sensor i leaves (R20, R31, R33, R34, R165). -/
def pulseLeaves (i : Sensor) (bHigh : Bool) (s t : State) : Prop :=
  let c := s.settings.circumference
  let drives : Bool := decide (i = if s.wheel.s1.failed then .two else .one)
  let counted := drives && s.auth.isHeld && decide (s.auth.vdir = if bHigh then .plus else .minus)
  let full := decide (s.wheel.odometer = odometerMax)
  let gone := drives && s.junct.list.any fun x => decide (x.clearMark ≤ t.wheel.odometer)
  sensorOf t.wheel i = { sensorOf s.wheel i with count := min 511 ((sensorOf s.wheel i).count + 1) } ∧
    sensorOf t.wheel (otherSensor i) = sensorOf s.wheel (otherSensor i) ∧
    t.wheel.odometer =
      (if drives && !full then min odometerMax (s.wheel.odometer + (s.wheel.remainder + c) / 64) else s.wheel.odometer) ∧
    t.wheel.remainder = (if drives && !full then (s.wheel.remainder + c) % 64 else s.wheel.remainder) ∧
    t.wheel.reverse = (if counted then min 4194240 (s.wheel.reverse + c) else s.wheel.reverse) ∧
    t.wheel.rollback = (s.wheel.rollback || counted && decide (19200 ≤ t.wheel.reverse)) ∧
    t.junct = (if gone then
      { s.junct with list := s.junct.list.filter (fun x => decide (t.wheel.odometer < x.clearMark)), overflow := false }
      else s.junct) ∧
    Notified s t (fun p => toldIf (t.wheel.rollback && !s.wheel.rollback) .rollback s.auth p |||
      toldIf gone .junctionChanged s.auth p) ∧
    { t.wheel with s1 := s.wheel.s1, s2 := s.wheel.s2, odometer := s.wheel.odometer, remainder := s.wheel.remainder,
                   reverse := s.wheel.reverse, rollback := s.wheel.rollback } = s.wheel ∧
    { t with ports := s.ports, wheel := s.wheel, junct := s.junct } = s

/-- R20, R31, R33, R34, R165: a pulse counts in its sensor's window; one of the odometer sensor also moves the odometer by C/64 mm
and, against the selected direction, the reverse-travel counter, which sets ROLLBACK at 19,200; transactions whose clear mark is
reached retire. -/
def Obligations.TachoPulseCounted : Prop :=
  ∀ (i : Sensor) (bHigh : Bool) (s : State), Running s → ∃ t, exec (.tachoPulse i bHigh) s = .next t ∧ pulseLeaves i bHigh s t

/-- The failure run and status that a window end leaves a sensor that is OK, its partner OK too (R24), with its recovery run 0. -/
def judgedOk (n run speedOther : Nat) : Bool × Nat :=
  if n = 0 ∧ 50 < speedOther then (if run + 1 ≥ 8 then (true, 0) else (false, run + 1)) else (false, 0)

/-- The recovery run and status that a window end leaves a FAILED sensor (R25). -/
def judgedFailed (n run speed speedOther : Nat) : Bool × Nat :=
  if 0 < n ∧ (max speed speedOther - min speed speedOther) * 5 ≤ max speed speedOther then
    (if run + 1 ≥ 8 then (false, 0) else (true, run + 1))
  else (true, 0)

/-- What a window end leaves of the sensors and the reference speed (R21 to R25). -/
def windowMeasures (s t : State) : Prop :=
  let c := s.settings.circumference
  let speed (i : Sensor) := min 1200 ((sensorOf s.wheel i).count * c * 9 / 4000)
  (∀ i ∈ [Sensor.one, Sensor.two],
    let r := sensorOf s.wheel i
    let r' := sensorOf t.wheel i
    let o := otherSensor i
    r'.speed = speed i ∧ r'.count = 0 ∧
      (r.failed = true → (r'.failed, r'.recoverRun) = judgedFailed r.count r.recoverRun (speed i) (speed o)) ∧
      (r.failed = false → (sensorOf s.wheel o).failed = false →
        (r'.failed, r'.failRun) = judgedOk r.count r.failRun (speed o)) ∧
      (r.failed = false → (sensorOf s.wheel o).failed = true → r'.failed = false ∧ r'.failRun = 0)) ∧
    t.wheel.v =
      (if t.wheel.s1.failed then speed .two else if t.wheel.s2.failed then speed .one
       else if 0 < s.shaper.o then min (speed .one) (speed .two)
       else if s.shaper.o < 0 then max (speed .one) (speed .two)
       else (speed .one + speed .two) / 2) ∧
    (∀ p ∈ [Port.A, Port.B, Port.V], t.wheel.s1.failed ≠ s.wheel.s1.failed ∨ t.wheel.s2.failed ≠ s.wheel.s2.failed →
      recipients .sensorChanged t.auth p = true → Told t p .sensorChanged)

/-- R21 to R25: what a window end leaves of the sensor speeds, the statuses with their runs, and the reference speed, by the
statuses it leaves and by O; a changed status tells SENSOR_CHANGED. -/
def Obligations.WindowMeasuresSpeed : Prop :=
  ∀ s : State, Running s → ¬(s.wheel.s1.failed = true ∧ s.wheel.s2.failed = true) →
    ∃ t, exec .windowEnd s = .next t ∧ windowMeasures s t

/-- What a window end leaves of the adhesion record, once the sensors are judged (R26, R28). -/
def windowAdhesion (s t : State) : Prop :=
  let a := t.wheel.s1.speed
  let b := t.wheel.s2.speed
  let gap := max a b - min a b
  let differs := t.wheel.s1.failed = false ∧ t.wheel.s2.failed = false ∧ 30 < gap ∧ max a b < gap * 5
  let dis := if differs then min 4 (s.wheel.disagree + 1) else 0
  let agr := if differs then 0 else min 2 (s.wheel.agree + 1)
  let tuSlip := s.tlink.slipping
  (t.wheel.adhesion, t.wheel.disagree, t.wheel.agree, t.wheel.runOn) =
    (match s.wheel.adhesion with
    | .normal =>
      if dis = 4 then
        if 0 < s.shaper.o then (.slip, 0, 0, none) else (.slide, 0, 0, s.wheel.runOn)
      else (.normal, dis, agr, s.wheel.runOn)
    | .slip =>
      if agr = 2 ∧ tuSlip = false then (.normal, 0, 0, some (t.now + 2000)) else (.slip, dis, agr, s.wheel.runOn)
    | .slide => if agr = 2 ∧ tuSlip = false then (.normal, 0, 0, s.wheel.runOn) else (.slide, dis, agr, s.wheel.runOn)) ∧
    (∀ p ∈ [Port.A, Port.B, Port.V], t.wheel.adhesion ≠ s.wheel.adhesion → recipients .adhesion t.auth p = true →
      Told t p .adhesion)

/-- What a window end leaves of STATIONARY (R29, R33, R34) and beyond WHEEL (R14, R15, R39, R55, R58, R59, R64, R68, R83, R88,
R137, R141). -/
def windowStandstill (s t : State) : Prop :=
  let empty := s.wheel.s1.count = 0 ∧ s.wheel.s2.count = 0
  let enters := t.wheel.stationary = true ∧ s.wheel.stationary = false
  let leaves := t.wheel.stationary = false ∧ s.wheel.stationary = true
  t.now = max s.now (s.wheel.windowAt + 250) ∧ t.wheel.windowAt = t.now ∧
    t.wheel.emptyRun = (if empty then min 4 (s.wheel.emptyRun + 1) else 0) ∧
    t.wheel.stationary = (if empty then s.wheel.stationary || decide (t.wheel.emptyRun = 4) else false) ∧
    (t.wheel.reverse, t.wheel.rollback) = (if enters then (0, false) else (s.wheel.reverse, s.wheel.rollback)) ∧
    (t.wheel.odometer, t.wheel.remainder) = (s.wheel.odometer, s.wheel.remainder) ∧
    (enters → s.auth.isLost = false → s.vigil.state.watching = true → t.vigil.state = .idle) ∧
    (enters → s.shaper.has .brakeLink = true → s.tlink.brk.answering = true → t.shaper.has .brakeLink = false) ∧
    (enters → s.stop.sect = .running → s.lines.dcl = false → t.stop.sect = .atStop) ∧
    (enters → s.auth.claimant = none → comesToRest s t) ∧
    (leaves → beginsToMove s t) ∧
    (leaves → s.tlink.brk.answering = false → EmergencyInv s → t.shaper.has .brakeLink = true ∧ t.shaper.o = -1000) ∧
    Notified s t (windowKinds s t) ∧
    { t with now := s.now, ports := s.ports, auth := s.auth, wheel := s.wheel, shaper := s.shaper, vigil := s.vigil, sound := s.sound,
             stop := s.stop, junct := s.junct } = s ∧
    (¬enters → ¬leaves → s.auth.claimant = none → { t with now := s.now, ports := s.ports, wheel := s.wheel } = s)

/-- R29, R22, and what STATIONARY's changes bring to the other blocks: `comesToRest` and `beginsToMove` say all of it, with R39
and R92 for a handle released at rest; and every notice of a window end. What a window end leaves of a claim with claimant fields
is this and then the check of R7, which is a statement of its own. A window end is due 250 ms after the one before (log 2), and
tells its notices under the authority record that it leaves (log 12). That the entry to VACANT leaves the holding-brake flag to
the next period end, where R15 has the brake demanded, is the model's reading (log 15). -/
def Obligations.WindowSetsStandstill : Prop :=
  ∀ s : State, Running s → ∃ t, exec .windowEnd s = .next t ∧ windowStandstill s t

/-- R26, R28: the adhesion record after a window end, from the speeds and statuses it leaves. The disagreement run of a state just
entered is 0 (log 32). R28: the slip run-on is discarded when its 2000 ms have run, and nothing else changes; without one the
expiry changes nothing. That the expiry carries the clock to its due time is the model's choice (log 2). -/
def Obligations.AdhesionJudged : Prop :=
   (∀ s : State, Running s → ∃ t, exec .windowEnd s = .next t ∧ windowAdhesion s t) ∧
   (∀ s : State, Running s →
      exec .slipRunOnExpiry s =
        .next (match s.wheel.runOn with
          | some due => { s with now := max s.now due, wheel := { s.wheel with runOn := none } }
          | none => s))

/-! ### Demand shaping (03) and vigilance (06): the holder's frame -/

/-- What a holder's frame leaves in AUTH, SHAPER, WHEEL and JUNCT, and its notices (R16, R17, R36, R37, R39, R58 to R60, R66, R88,
R166). -/
def frameLeaves (s t : State) (x : Cab) (d0 d : Direction) (f : DemandFrame) : Prop :=
  let lever := clampLever f.lever
  let turns := d ≠ d0 ∧ s.wheel.stationary = true ∧ s.shaper.o ≤ 0 ∧ s.vigil.state ≠ .penalty
  let drops := (s.shaper.demand.map DemandBody.handle) = some true ∧ f.handle = false ∧ s.wheel.stationary = true
  let leaves := lever ≠ -128 ∧ s.wheel.stationary = true ∧ s.shaper.has .lever = true
  let alone := dropFlag s.shaper.sources EmSource.lever.idx = 0
  t.auth = .held x (if turns then d else d0) ∧
    (t.replyOf (portOf x)).status = (if lever ≠ f.lever.toInt ∨ (d ≠ d0 ∧ ¬turns) then .doneClamped else .done) ∧
    t.shaper.demand = some { lever := lever, handle := f.handle, horn := f.horn, bell := f.bell, sand := f.sand, takenAt := s.now } ∧
    t.shaper.stage = .fresh ∧
    t.shaper.sources =
      (if lever = -128 then addFlag s.shaper.sources EmSource.lever.idx
       else if leaves then
         (if alone ∧ s.outbank.linkUp = false then addFlag 0 EmSource.loopDropped.idx
          else dropFlag s.shaper.sources EmSource.lever.idx)
       else s.shaper.sources) ∧
    (t.shaper.o, t.shaper.oPrev) =
      (if lever = -128 ∧ s.shaper.sources = 0 then (-1000, -1000)
       else (s.shaper.o, if s.shaper.sources ≠ 0 ∧ t.shaper.sources = 0 then -1000 else s.shaper.oPrev)) ∧
    (t.shaper.zeroPass = true ↔
      lever ≤ 0 ∨ (s.shaper.zeroPass = true ∧ ¬turns ∧ ¬drops ∧ ¬(s.shaper.sources ≠ 0 ∧ t.shaper.sources = 0))) ∧
    t.wheel = (if turns then { s.wheel with reverse := 0 } else s.wheel) ∧
    t.junct = (if turns then junctCancelled s else s.junct) ∧
    Notified (s.reply (portOf x) (t.replyOf (portOf x))) t (fun p =>
      (if turns then only .authChanged ||| toldIf (!s.junct.list.isEmpty) .junctionChanged t.auth p else 0) |||
        (if s.shaper.sources = 0 ↔ t.shaper.sources = 0 then 0 else only .emergencyChanged) |||
        toldIf (t.vigil.buzzer && !s.vigil.buzzer) .vigilWarn t.auth p) ∧
    { t.shaper with demand := s.shaper.demand, stage := s.shaper.stage, zeroPass := s.shaper.zeroPass, o := s.shaper.o,
                    oPrev := s.shaper.oPrev, sources := s.shaper.sources } = s.shaper ∧
    { t with ports := s.ports, auth := s.auth, shaper := s.shaper, wheel := s.wheel, junct := s.junct, vigil := s.vigil,
             sound := s.sound } = s

/-- What a holder's frame leaves of the vigilance record (R84 to R86, R88, R90 to R92). -/
def frameWatched (s t : State) (before : DemandBody) (f : DemandFrame) : Prop :=
  let v := s.vigil
  let lever := clampLever f.lever
  let moved := 5 ≤ (lever - v.leverRef).natAbs
  let edge := (f.horn = true ∧ before.horn = false) ∨ (f.bell = true ∧ before.bell = false)
  let regrip := v.releaseTime.isSome = true ∧ f.handle = true
  let active := moved ∨ edge ∨ regrip
  t.vigil.handle = f.handle ∧
    (if v.state = .watch ∨ v.state = .warn then
      t.vigil.state = (if active then .watch else v.state) ∧
        t.vigil.lastActivity = (if active then some s.now else v.lastActivity) ∧
        t.vigil.warnStart = (if active then none else v.warnStart) ∧
        t.vigil.leverRef = (if moved then lever else v.leverRef) ∧
        t.vigil.releaseTime =
          (if f.handle = true then none else if v.handle = true then some s.now else v.releaseTime)
    else
      t.vigil.state = v.state ∧ t.vigil.lastActivity = v.lastActivity ∧ t.vigil.warnStart = v.warnStart ∧
        t.vigil.releaseTime = v.releaseTime ∧ t.vigil.leverRef = lever) ∧
    t.vigil.buzzer = (decide (t.vigil.state = .warn) || t.vigil.releaseTime.isSome) ∧
    (v.buzzer = false → t.vigil.buzzer = true → ∀ p, recipients .vigilWarn t.auth p = true → Told t p .vigilWarn)

/-- R84 to R86, R88, R90 to R92: the activity test of a holder's frame, its handle field and the grace timer, and the buzzer
request with VIGIL_WARN at a placing. That a frame in WARN which is activity and also releases the handle keeps the buzzer request
placed, with no second notice, is the model's choice (log 51). -/
def Obligations.HolderFrameWatched : Prop :=
  ∀ (s : State) (x : Cab) (d0 d : Direction) (before : DemandBody) (f : DemandFrame), Taking (portOf x) s →
    s.auth = .held x d0 → s.shaper.demand = some before → directionOf f.direction = some d →
      ∃ t, exec (.demand (portOf x) f) s = .next t ∧ frameWatched s t before f

/-- R16, R17, R36, R37, R39: a holder's DEMAND frame: its direction taken or held, zero-pass, the record written and FRESH, the
LEVER source added at -128 or removed at rest, the reply's status. A direction code of 3 is refused OUT_OF_RANGE and nothing is
applied. That the removal test of LEVER comes before the arming is the model's reading (log 14). R56: the data of a DEMAND reply
are those of the records as the frame leaves them. That a frame in WARN which is activity and also releases the handle keeps the
buzzer request placed, with no second notice, is the model's choice (log 51). -/
def Obligations.HolderFrameApplied : Prop :=
   (∀ (s : State) (x : Cab) (d0 : Direction) (f : DemandFrame), Taking (portOf x) s → s.auth = .held x d0 →
      s.shaper.demand.isSome = true →
      (f.direction = 3 → exec (.demand (portOf x) f) s = .next (s.refuse (portOf x) 0x10 .outOfRange)) ∧
      ∀ d : Direction, directionOf f.direction = some d →
        ∃ t, exec (.demand (portOf x) f) s = .next t ∧ frameLeaves s t x d0 d f) ∧
   (∀ (s : State) (x : Cab) (d : Direction) (f : DemandFrame), Taking (portOf x) s → s.auth.cab = some x → s.auth.isLost = false →
      directionOf f.direction = some d →
        ∃ t, exec (.demand (portOf x) f) s = .next t ∧ (t.replyOf (portOf x)).code = 0x10 ∧
          (t.replyOf (portOf x)).data =
            (BitVec.ofNat 16 t.wheel.v ++ BitVec.ofInt 16 t.shaper.o ++ BitVec.ofBool (decide (t.shaper.sources ≠ 0)) ++
              BitVec.ofBool t.caution ++ BitVec.ofBool t.stop.record.first.isSome ++ t.vigil.state.code ++ t.shaper.stage.code ++
              0#1 : BitVec 40))

/-- R38, R39: the 300 ms expiry takes FRESH to COASTING and disarms zero-pass; the 1000 ms expiry takes COASTING to STALE_BRAKE
and tells DEMAND_STALE; in another stage neither changes anything. The horn and bell requests are withdrawn, each instance as a
withdrawal leaves it (R37, R103, R100); of SOUND nothing else changes. The times are those of the model's clock (log 2). -/
def Obligations.FreshnessExpires : Prop :=
  ∀ (s : State) (d : DemandBody), Running s → s.shaper.demand = some d →
    (s.shaper.stage = .fresh → ∃ t, exec .freshness300MsExpiry s = .next t ∧ t.shaper.stage = .coasting ∧
      t.shaper.zeroPass = false ∧ t.now = max s.now (d.takenAt + 300) ∧ Notified s t (fun _ => 0) ∧
      (∀ c ∈ hornBellChannels, t.sound.req c = .notPlaced ∧ t.sound.slot c = (s.sound.withdraw t.now c).slot c) ∧
      (∀ c ∈ [Sounder.buzzA, .buzzB, .chime, .hazard], t.sound.req c = s.sound.req c ∧ t.sound.slot c = s.sound.slot c) ∧
      { t.sound with slots := s.sound.slots, level := s.sound.level } = s.sound ∧
      { t.shaper with stage := s.shaper.stage, zeroPass := s.shaper.zeroPass } = s.shaper ∧
      { t with now := s.now, shaper := s.shaper, sound := s.sound } = s) ∧
    (s.shaper.stage ≠ .fresh → exec .freshness300MsExpiry s = .next s) ∧
    (s.shaper.stage = .coasting → ∃ t, exec .freshness1000MsExpiry s = .next t ∧
      t.shaper = { s.shaper with stage := .staleBrake } ∧ t.now = max s.now (d.takenAt + 1000) ∧
      Notified s t (fun p => toldIf true .demandStale s.auth p) ∧
      { t with now := s.now, ports := s.ports, shaper := s.shaper } = s) ∧
    (s.shaper.stage ≠ .coasting → exec .freshness1000MsExpiry s = .next s)

/-! ### The shaper period (03) -/

/-- Traction permission (R42), spelled out. -/
def permits (s : State) : Prop :=
  (∃ x d, s.auth = .held x d ∧ d ≠ .neutral) ∧ (∃ b, s.shaper.demand = some b ∧ b.handle = true) ∧ s.lines.dcl = true ∧
    s.shaper.zeroPass = true ∧ s.shaper.sources = 0 ∧ s.vigil.state ≠ .penalty

/-- The speed limit a period computes (R43): the least of the line limit and the ceilings in force. -/
def limitOf (s : State) : Nat :=
  ([s.settings.lineLimit, if s.junct.caution s.wheel.odometer then 100 else 800,
    if s.auth.direction = .reverse then 100 else 800,
    if s.wheel.s1.failed = true ∨ s.wheel.s2.failed = true then 250 else 800] : List Nat).foldl min 800

/-- The target of a period (R41, R42, R47) from the limits it computes. -/
def targetOf (s : State) (p : Bool) (c : Nat) (overspeed : Bool) : Int :=
  let tl : Int :=
    match s.shaper.demand, s.shaper.stage with
    | none, _ => 0
    | some b, .fresh => if b.lever = -128 then -1000 else 10 * b.lever
    | some _, .coasting => 0
    | some _, .staleBrake => -400
  let tl := if p then tl else min tl 0
  let t := if 0 < tl then min tl c else tl
  let t := if overspeed then min t (-300) else t
  let t := if s.wheel.rollback then min t (-300) else t
  if s.shaper.stage = .staleBrake then min t (-400) else t

/-- R40, R43 to R46: the speed limit, OVERSPEED and the traction ceiling that a period leaves. R40 to R42, R47, R48, R50: the
target and the output that a period leaves: -1000 while an emergency source stands, else the step of R49 from O_prev, clamped by
the ceiling and by permission. That a period carries the clock to its due time, 10 ms after the one before, is the model's choice
(log 2). -/
def Obligations.PeriodComputesOutput : Prop :=
   (∀ s : State, Running s → ∃ t, exec .shaperPeriod s = .next t ∧
      t.shaper.vLim = limitOf s ∧
      t.shaper.overspeed =
        (if limitOf s + 30 ≤ s.wheel.v then true else if s.wheel.v ≤ limitOf s then false else s.shaper.overspeed) ∧
      (let e : Nat := if s.wheel.v + 30 ≤ limitOf s then 1000 else if limitOf s ≤ s.wheel.v then 0
        else 1000 * (limitOf s - s.wheel.v) / 30
       t.shaper.c =
        (if s.tlink.tu1.answering = false ∧ s.tlink.tu2.answering = false then 0
         else if s.wheel.adhesion = .slip ∨ s.wheel.runOn.isSome = true then min e 600 else e)) ∧
      t.now = max s.now (s.shaper.periodAt + 10) ∧ t.shaper.periodAt = t.now) ∧
   (∀ (s : State) (p : Bool), Running s → s.shaper.demand.isSome = s.auth.isHeld → (p = true ↔ permits s) →
      ∃ t, exec .shaperPeriod s = .next t ∧
        t.shaper.t = targetOf s p t.shaper.c t.shaper.overspeed ∧
        t.shaper.o =
          (if s.shaper.sources ≠ 0 then -1000
           else
             let x := rateStep s.shaper.oPrev t.shaper.t
             let y := if 0 < x then min x t.shaper.c else x
             if p then y else min y 0) ∧
        t.shaper.oPrev = t.shaper.o ∧ t.shaper.sources = s.shaper.sources ∧ t.shaper.demand = s.shaper.demand ∧
        t.shaper.stage = s.shaper.stage ∧ t.shaper.zeroPass = s.shaper.zeroPass)

/-- R49: the table of stage 9, and what follows from it: a step stops at T, never crosses zero, and keeps within its bounds; no
period without an emergency source leaves O above its step. -/
def Obligations.RateStepTable : Prop :=
  ∀ prev t : Int,
    (prev < t → 0 ≤ prev → rateStep prev t = min t (prev + 15)) ∧
    (prev < t → prev < 0 → rateStep prev t = min (min t (prev + 40)) 0) ∧
    (t < prev → 0 < prev → rateStep prev t = max (max t (prev - 50)) 0) ∧
    (t < prev → prev ≤ 0 → rateStep prev t = max t (prev - 30)) ∧
    (t = prev → rateStep prev t = prev) ∧
    (min prev t ≤ rateStep prev t ∧ rateStep prev t ≤ max prev t) ∧
    ¬(prev < 0 ∧ 0 < rateStep prev t) ∧ ¬(0 < prev ∧ rateStep prev t < 0) ∧
    (0 ≤ prev → rateStep prev t ≤ prev + 15) ∧ (prev < 0 → rateStep prev t ≤ prev + 40) ∧
    (-1000 ≤ prev → prev ≤ 1000 → -1000 ≤ t → t ≤ 1000 → -1000 ≤ rateStep prev t ∧ rateStep prev t ≤ 1000) ∧
    ∀ s : State, Running s → s.shaper.sources = 0 →
      ∃ u, exec .shaperPeriod s = .next u ∧ u.shaper.o ≤ rateStep s.shaper.oPrev u.shaper.t ∧ u.shaper.oPrev = u.shaper.o

/-- R49, R50: after every period O is positive only if every condition of permission held as the period found it, never above the
ceiling C it computed; it rises by at most 15 from at or above zero and 40 from below, no rise crosses zero, and it stays within
its range. -/
def Obligations.TractionIsPermitted : Prop :=
  ∀ s : State, Running s → s.shaper.demand.isSome = s.auth.isHeld → OutputInv s →
    ∃ t, exec .shaperPeriod s = .next t ∧
      (0 < t.shaper.o → permits s ∧ t.shaper.o ≤ t.shaper.c) ∧
      (s.shaper.sources = 0 → (0 ≤ s.shaper.oPrev → t.shaper.o ≤ s.shaper.oPrev + 15) ∧
        (s.shaper.oPrev < 0 → t.shaper.o ≤ s.shaper.oPrev + 40 ∧ t.shaper.o ≤ 0)) ∧
      (s.shaper.sources ≠ 0 → t.shaper.o = -1000) ∧ -1000 ≤ t.shaper.o ∧ t.shaper.o ≤ 1000

/-- What a period leaves beyond the output: R51 to R54, R104. -/
def periodHandsOver (s t : State) : Prop :=
  let o := t.shaper.o
  let active := s.shaper.sources ≠ 0
  let goes := s.sound.departurePending = true ∧ 0 < o
  t.shaper.holdingBrake =
      (if s.auth = .vacant then true else if s.wheel.stationary = true ∧ o ≤ 0 then true else if 50 < o then false
       else s.shaper.holdingBrake) ∧
    t.tlink = { s.tlink with handOver :=
      { o := o, direction := s.auth.vdir, brake := t.shaper.holdingBrake, emergency := decide active } } ∧
    (t.shaper.sandReq = true ↔ s.wheel.adhesion ≠ .normal ∨
      ((s.shaper.demand.map DemandBody.sand) = some true ∧ s.shaper.stage = .fresh ∧ 0 < s.wheel.v) ∨ (active ∧ 0 < s.wheel.v)) ∧
    (t.shaper.trackReq = true ↔ active ∧ s.wheel.stationary = false) ∧
    t.sound.departurePending = (if goes then false else s.sound.departurePending) ∧
    (¬goes ∨ s.settings.departureBell ≠ 1 ∨ s.auth.leading = none →
      { t.sound with departurePending := s.sound.departurePending } = s.sound) ∧
    (∀ e, goes → s.settings.departureBell = 1 → s.auth.leading = some e →
      t.sound = { s.sound.oneShot t.now (bellOf e) 2 .departureBell with departurePending := false } ∧
        (∀ i, s.sound.slot (bellOf e) = some i →
          (i.pattern = 2 ∧ i.requester = .departureBell) ∨
            (cell s.sound.patterns 2).priority ≤ (cell s.sound.patterns i.pattern).priority →
          { t.sound with departurePending := s.sound.departurePending } = s.sound) ∧
        ((∀ i, s.sound.slot (bellOf e) = some i → ¬(i.pattern = 2 ∧ i.requester = .departureBell) ∧
            (cell s.sound.patterns i.pattern).priority < (cell s.sound.patterns 2).priority) →
          ∃ i, t.sound.slot (bellOf e) = some i ∧ i.pattern = 2 ∧ i.requester = .departureBell ∧ i.kind = .oneShot ∧ i.step = 0)) ∧
    { t.shaper with
      o := s.shaper.o, oPrev := s.shaper.oPrev, t := s.shaper.t, vLim := s.shaper.vLim, c := s.shaper.c
      overspeed := s.shaper.overspeed, holdingBrake := s.shaper.holdingBrake, sandReq := s.shaper.sandReq
      trackReq := s.shaper.trackReq, periodAt := s.shaper.periodAt } = s.shaper ∧
    Notified s t (fun _ => 0) ∧
    { t with now := s.now, shaper := s.shaper, tlink := s.tlink, sound := s.sound } = s

/-- R51 to R54, R104: the holding-brake flag, the hand-over to TLINK, the sand and track-brake requests, and the departure bell,
decided as a one-shot by what the leading end's bell slot holds (R101). Of SOUND nothing else changes, and of SHAPER only what a
period computes: the demand record, zero-pass, the sources, and the door and mismatch records stay. -/
def Obligations.PeriodHandsOver : Prop :=
  ∀ s : State, Running s → ∃ t, exec .shaperPeriod s = .next t ∧ periodHandsOver s t

/-! ### Emergency braking (04) and the doors -/

/-- R58, R61: a pressed emergency stop adds its source in every authority state; to an empty set, with O at -1000, EBLOOP off, the
hazard request and EMERGENCY_CHANGED to all. R59, R61, R66: a released emergency stop loses its source at standstill; the set that
empties with the link UP commands EBLOOP on, disarms zero-pass, withdraws the hazard request and tells EMERGENCY_CHANGED. In
motion only the line changes. -/
def Obligations.EmergencyStopLines : Prop :=
   (∀ (s : State) (c : Cab), Running s → s.auth.claimant = none →
      ∃ t, exec (.emstopPress c) s = .next t ∧ t.lines = setEmstop s.lines c true ∧ sourceAdded s t (.emstop c) ∧
        Notified s t (fun _ => if s.shaper.sources = 0 then only .emergencyChanged else 0) ∧
        { t with ports := s.ports, lines := s.lines, shaper := s.shaper, sound := s.sound } = s) ∧
   (∀ (s : State) (c : Cab), Running s → s.auth.claimant = none →
      (s.wheel.stationary = false ∨ s.shaper.has (.emstop c) = false →
        exec (.emstopRelease c) s = .next { s with lines := setEmstop s.lines c false }) ∧
      (s.wheel.stationary = true → s.shaper.has (.emstop c) = true →
        ∃ t, exec (.emstopRelease c) s = .next t ∧ t.lines = setEmstop s.lines c false ∧ sourceRemoved s t (.emstop c) ∧
          Notified s t (fun _ => if t.shaper.sources = 0 then only .emergencyChanged else 0) ∧
          { t with ports := s.ports, lines := s.lines, shaper := s.shaper, sound := s.sound } = s))

/-- R68: the window end that sets STATIONARY removes every one of LEVER, EMSTOP_A, EMSTOP_B, BRAKE_LINK and LOOP_DROPPED whose
condition holds, and keeps the others; AUTH_LOST goes with the entry to VACANT (R63). -/
def Obligations.StandstillRemovesSources : Prop :=
  ∀ s : State, Running s → s.auth.isHeld = true → s.wheel.stationary = false → s.wheel.emptyRun = 3 → s.wheel.s1.count = 0 →
    s.wheel.s2.count = 0 → s.outbank.linkUp = true →
    ∃ t, exec .windowEnd s = .next t ∧
      t.shaper.has .lever = (s.shaper.has .lever && !s.shaper.leverBack) ∧
      (∀ c, t.shaper.has (.emstop c) = (s.shaper.has (.emstop c) && emstopLevel s.lines c)) ∧
      t.shaper.has .brakeLink = (s.shaper.has .brakeLink && !s.tlink.brk.answering) ∧ t.shaper.has .loopDropped = false ∧
      (∀ k ∈ [EmSource.penalty, .startup, .authLost], t.shaper.has k = s.shaper.has k) ∧
      (s.shaper.sources ≠ 0 → t.shaper.sources = 0 → t.shaper.zeroPass = false ∧ t.shaper.oPrev = -1000 ∧ t.driveBit 11 = true ∧
        ∀ p ∈ [Port.A, Port.B, Port.V], Told t p .emergencyChanged)

/-- R7: the synchronisation check is made again at each change of an emergency-stop line of either cab, at each closing of BRK's
poll, by a reply or by a miss, and at each window end, on the records `u` as the event left them: they are those the event leaves
in a claim without claimant fields (R61, R64, R75, R76, R22). HELD is then entered with all that this brings, the stage by the
frame's age and DEMAND_STALE at an entry in STALE_BRAKE (R10, R38), or nothing more changes. A press of the other cab's stop adds
its source before the check (log 46). The window of BRK's reply is the model's (log 35), as are the clock (log 2) and what a row
of a station is judged against (log 17). That the poll a reply closes is kept as answered is the model's, too (log 53). -/
def Obligations.SynchronisationRetried : Prop :=
  ∀ (s : State) (x : Cab) (start : Nat) (c : Claimant), Running s → s.auth = .claiming x start (some c) →
    (∀ y : Cab,
      (∃ t u, exec (.emstopPress y) s = .next t ∧ u.lines = setEmstop s.lines y true ∧ sourceAdded s u (.emstop y) ∧
        { u with lines := s.lines, shaper := s.shaper, sound := s.sound } = s ∧ syncTaken u t x c ∧
        Notified s t (withHeldKinds u t fun _ => if s.shaper.sources = 0 then only .emergencyChanged else 0)) ∧
      (let removes := s.wheel.stationary = true ∧ s.shaper.has (.emstop y) = true
       ∃ t u, exec (.emstopRelease y) s = .next t ∧ u.lines = setEmstop s.lines y false ∧
        (removes → sourceRemoved s u (.emstop y)) ∧ (¬removes → u.shaper = s.shaper ∧ u.sound = s.sound) ∧
        { u with lines := s.lines, shaper := s.shaper, sound := s.sound } = s ∧ syncTaken u t x c ∧
        Notified s t (withHeldKinds u t fun _ => if removes ∧ u.shaper.sources = 0 then only .emergencyChanged else 0))) ∧
    (∃ t, exec (.emstopPress x) s = .next t ∧ t.auth = s.auth) ∧
    (∀ p : PollRec, s.tlink.poll = some p → p.frame.station = .brk →
      let old := s.tlink.brk
      (∀ b : BrkReply, s.now ≤ p.began + 2 →
        let changed := !old.answering || (old.last.map fun q => (q.unit, q.brakeAvailable)) != some (b.unit, b.brakeAvailable)
        let removes := old.answering = false ∧ s.wheel.stationary = true ∧ s.shaper.has .brakeLink = true
        ∃ t u, exec (.stationReplyGood (.brk b)) s = .next t ∧
          u.tlink = { s.tlink with
            brk := { answering := true, missRun := 0, last := some b }, poll := none, answered := p :: s.tlink.answered } ∧
          (removes → sourceRemoved s u .brakeLink) ∧ (¬removes → u.shaper = s.shaper ∧ u.sound = s.sound) ∧
          { u with tlink := s.tlink, shaper := s.shaper, sound := s.sound } = s ∧ syncTaken u t x c ∧
          Notified s t (withHeldKinds u t fun q => toldIf changed .stationChanged t.auth q |||
            if removes ∧ u.shaper.sources = 0 then only .emergencyChanged else 0)) ∧
      ∀ cause : MissCause, (cause = .bad → s.now ≤ p.began + 2) →
        let lost := old.answering && decide (4 ≤ old.missRun)
        let adds := lost && !s.wheel.stationary
        ∃ t u, exec (.stationMiss ⟨.brk, cause⟩) s = .next t ∧
          u.now = (if cause = .bad then s.now else max s.now (p.began + 2)) ∧
          u.tlink = { s.tlink with
            brk := { old with answering := old.answering && !lost, missRun := min 5 (old.missRun + 1) }, poll := none
            answered := if cause = .bad then p :: s.tlink.answered else s.tlink.answered } ∧
          (adds = true → sourceAdded s u .brakeLink) ∧ (adds = false → u.shaper = s.shaper ∧ u.sound = s.sound) ∧
          { u with now := s.now, tlink := s.tlink, shaper := s.shaper, sound := s.sound } = s ∧ syncTaken u t x c ∧
          Notified s t (withHeldKinds u t fun q => toldIf lost .stationChanged t.auth q |||
            if adds = true ∧ s.shaper.sources = 0 then only .emergencyChanged else 0)) ∧
    ∃ v t, exec .windowEnd { s with auth := .claiming x start none } = .next v ∧ exec .windowEnd s = .next t ∧
      syncTaken { v with auth := s.auth, ports := s.ports } t x c ∧ Notified s t (windowKinds s t)

/-- R39, R55, R104, R136, R137: DCL opening disarms zero-pass, tells DOOR_OPEN_MOVING in motion once per opening, and at rest ends
a section that runs; DCL closing makes the section RUNNING, clears the chime of a section that had ended, and arms the departure
bell of an opening at rest. -/
def Obligations.DoorLinesAct : Prop :=
  ∀ s : State, Running s →
    (∃ t, exec .dclOpen s = .next t ∧ t.lines = { s.lines with dcl := false } ∧ t.shaper.zeroPass = false ∧
      t.shaper.doorReported = (s.shaper.doorReported || !s.wheel.stationary) ∧ t.sound.departurePending = false ∧
      t.sound.openingAtRest = s.wheel.stationary ∧
      (let ends := s.wheel.stationary = true ∧ s.stop.sect = .running
       t.stop = (if ends then sectionEnded s s.now else s.stop) ∧
       Notified s t (fun p => toldIf (!s.wheel.stationary && !s.shaper.doorReported) .doorOpenMoving s.auth p |||
        toldIf (decide ends && s.stop.record.first.isSome) .stopChanged s.auth p)) ∧
      { t.sound with departurePending := s.sound.departurePending, openingAtRest := s.sound.openingAtRest } = s.sound ∧
      { t.shaper with zeroPass := s.shaper.zeroPass, doorReported := s.shaper.doorReported } = s.shaper ∧
      { t with ports := s.ports, lines := s.lines, shaper := s.shaper, sound := s.sound, stop := s.stop } = s) ∧
    exec .dclClose s = .next { s with
      lines := { s.lines with dcl := true }, shaper := { s.shaper with doorReported := false }
      sound := { s.sound with departurePending := s.sound.departurePending || s.sound.openingAtRest }
      stop := { s.stop with
        sect := .running
        record := { s.stop.record with chime := if s.stop.sect = .atStop then false else s.stop.record.chime } } }

/-! ### Traction link (05) -/

/-- The poll that the closing of a station's poll opens at a time, from the hand-over and the cycle count (R71 to R73). -/
def pollAfter (t : TlinkRec) (now : Nat) : Station → Option PollRec
  | .tu1 => some
    { frame := .tu2 { demand := t.handOver.o, direction := t.handOver.direction, brake := t.handOver.brake
                      emergency := t.handOver.emergency, count := t.cycle }
      began := now }
  | .tu2 => some
    { frame := .brk { demand := (max 0 (-t.handOver.o)).toNat, brake := t.handOver.brake, emergency := t.handOver.emergency }
      began := now }
  | .brk => none

/-- A station is polled and its reply window is open (R74): the poll began at most 2 ms ago. -/
def polled (s : State) (st : Station) : Prop := ∃ p, s.tlink.poll = some p ∧ p.frame.station = st ∧ s.now ≤ p.began + 2

/-- A station's poll of this cycle was closed by its reply and the window of that poll still runs (R74). -/
def stillReplied (s : State) (st : Station) : Prop := ∃ p ∈ s.tlink.answered, p.frame.station = st ∧ s.now ≤ p.began + 2

/-- R27, R72 to R75, R77, R78: a traction unit's good reply in its window: its record, the next poll, STATION_CHANGED by what
changed, and its slip flag, which makes the adhesion state SLIP at once. R64, R75, R77, R80: BRK's good reply in its window: its
record, STATION_CHANGED, and BRAKE_LINK removed at standstill when BRK was LOST. 13.2: the bytes of a good reply, whatever
characters follow them in the window, close the poll with that reply. The window in which a reply is taken is the model's (log
35), as is what a row of a station is judged against (log 17). That the poll a reply closes is kept as answered until the next
cycle is the model's (log 53). -/
def Obligations.StationRepliesTaken : Prop :=
   (∀ (s : State) (r : TuReply) (second : Bool), Running s → r.effort.toNat ≤ 1000 → polled s (if second then .tu2 else .tu1) →
      let old := if second then s.tlink.tu2 else s.tlink.tu1
      let new : TuRec := { answering := true, missRun := 0, last := some r }
      let changed := !old.answering || (old.last.map fun q => (q.unit, q.lineVoltage)) != some (r.unit, r.lineVoltage)
      ∃ t, exec (.stationReplyGood (if second then .tu2 r else .tu1 r)) s = .next t ∧
        t.tlink =
          (if second then { s.tlink with
            tu2 := new, poll := pollAfter s.tlink s.now .tu2, answered := s.tlink.poll.toList ++ s.tlink.answered }
          else { s.tlink with
            tu1 := new, poll := pollAfter s.tlink s.now .tu1, answered := s.tlink.poll.toList ++ s.tlink.answered }) ∧
        t.wheel = (if r.slip then
            { s.wheel with
              adhesion := .slip, agree := 0, runOn := none, disagree := if s.wheel.adhesion = .slip then s.wheel.disagree else 0 }
          else s.wheel) ∧
        Notified s t (fun p => toldIf changed .stationChanged s.auth p |||
          toldIf (r.slip && decide (s.wheel.adhesion ≠ .slip)) .adhesion s.auth p) ∧
        { t with ports := s.ports, tlink := s.tlink, wheel := s.wheel } = s) ∧
   (∀ (s : State) (r : BrkReply), Running s → s.auth.claimant = none → polled s .brk →
      let old := s.tlink.brk
      let changed := !old.answering || (old.last.map fun q => (q.unit, q.brakeAvailable)) != some (r.unit, r.brakeAvailable)
      let removes := old.answering = false ∧ s.wheel.stationary = true ∧ s.shaper.has .brakeLink = true
      ∃ t, exec (.stationReplyGood (.brk r)) s = .next t ∧
        t.tlink = { s.tlink with
          brk := { answering := true, missRun := 0, last := some r }, poll := none
          answered := s.tlink.poll.toList ++ s.tlink.answered } ∧
        (removes → sourceRemoved s t .brakeLink) ∧ (¬removes → t.shaper = s.shaper ∧ t.sound = s.sound) ∧
        Notified s t (fun p => toldIf changed .stationChanged s.auth p |||
          if removes ∧ t.shaper.sources = 0 then only .emergencyChanged else 0) ∧
        { t with ports := s.ports, tlink := s.tlink, shaper := s.shaper, sound := s.sound } = s) ∧
   (∀ (c : TuCommand) (x : Byte) (effort : BitVec 16) (rest : List Byte) (second : Bool), effort.toNat ≤ 1000 →
      (x.extractLsb' 0 4).toNat = c.count →
      let r : TuReply :=
        { unit := ([UnitState.ready, .starting, .limited, .fault] : List UnitState).getD (x.toNat / 64) .fault, effort := effort
          slip := x.getLsbD 5, lineVoltage := x.getLsbD 4 }
      let body : List Byte := [if second then 0x52 else 0x51, x, effort.extractLsb' 8 8, effort.extractLsb' 0 8]
      (if second then Poll.tu2 c else .tu1 c).closing (body ++ [crc8 body] ++ rest) =
        .stationReplyGood (if second then .tu2 r else .tu1 r)) ∧
   (∀ (c : BrkCommand) (x : Byte) (rest : List Byte), x.extractLsb' 0 4 = 0#4 →
      (Poll.brk c).closing ([0x53, x, crc8 [0x53, x]] ++ rest) = .stationReplyGood (.brk
        { unit := ([UnitState.ready, .starting, .limited, .fault] : List UnitState).getD (x.toNat / 64) .fault
          brakeApplied := x.getLsbD 5, brakeAvailable := x.getLsbD 4 }))

/-- What the first complete frame in a poll's window must be to be good (R74, 13.2): the polled station's address, the check over
its other bytes, for a traction unit the cycle echo and an effort of at most 1000, for BRK four zero bits. -/
def frameGood (poll : Poll) (frame : List Byte) : Prop :=
  match poll, frame with
  | .tu1 c, [a, x, e1, e0, k] =>
    a = 0x51 ∧ k = crc8 [a, x, e1, e0] ∧ (x.extractLsb' 0 4).toNat = c.count ∧ (e1 ++ e0).toNat ≤ 1000
  | .tu2 c, [a, x, e1, e0, k] =>
    a = 0x52 ∧ k = crc8 [a, x, e1, e0] ∧ (x.extractLsb' 0 4).toNat = c.count ∧ (e1 ++ e0).toNat ≤ 1000
  | .brk _, [a, x, k] => a = 0x53 ∧ k = crc8 [a, x] ∧ x.extractLsb' 0 4 = 0#4
  | _, _ => False

/-- R64, R74, R76, R77, R80: a miss of the polled station: the run, LOST at the fifth, the last reply kept, the next poll, and
BRAKE_LINK added when BRK is lost in motion (R58 for a first source). A bad reply closes the poll in its window, a missing one at
the window's close, 2 ms after the poll began (log 35). R70, R74: a reply outside every window is discarded, as is one of a
station whose reply has been taken while its window runs on; another one of a station not polled, or outside its values, is a miss
for the polled station and credited to none; a miss of a station that is not polled is none (log 17). That a reply is read against
its sender's window is the model's reading (log 53). R74, 13.2: which characters in a window make a bad reply, and which a missing
one. That a reply frame is told by the length of the station whose address it bears, or by the polled station's where the address
is no station's, is the model's choice (log 47). -/
def Obligations.MissCounted : Prop :=
  (∀ (s : State) (p : PollRec) (cause : MissCause), Running s → s.auth.claimant = none → s.tlink.poll = some p →
    (cause = .bad → s.now ≤ p.began + 2) →
    let at_ := if cause = .bad then s.now else max s.now (p.began + 2)
    let answered := if cause = .bad then p :: s.tlink.answered else s.tlink.answered
    (∀ second : Bool, p.frame.station = (if second then .tu2 else .tu1) →
      let old := if second then s.tlink.tu2 else s.tlink.tu1
      let lost := old.answering && decide (4 ≤ old.missRun)
      let new : TuRec := { answering := old.answering && !lost, missRun := min 5 (old.missRun + 1), last := old.last }
      ∃ t, exec (.stationMiss ⟨if second then .tu2 else .tu1, cause⟩) s = .next t ∧ t.now = at_ ∧
        t.tlink =
          (if second then { s.tlink with tu2 := new, poll := pollAfter s.tlink at_ .tu2, answered := answered }
          else { s.tlink with tu1 := new, poll := pollAfter s.tlink at_ .tu1, answered := answered }) ∧
        Notified s t (fun p => toldIf lost .stationChanged s.auth p) ∧
        { t with now := s.now, ports := s.ports, tlink := s.tlink } = s) ∧
    (p.frame.station = .brk →
     let old := s.tlink.brk
     let lost := old.answering && decide (4 ≤ old.missRun)
     let adds := lost && !s.wheel.stationary
     ∃ t, exec (.stationMiss ⟨.brk, cause⟩) s = .next t ∧ t.now = at_ ∧
      t.tlink = { s.tlink with
        brk := { answering := old.answering && !lost, missRun := min 5 (old.missRun + 1), last := old.last }, poll := none
        answered := answered } ∧
      (adds = true → sourceAdded s t .brakeLink) ∧ (adds = false → t.shaper = s.shaper ∧ t.sound = s.sound) ∧
      Notified s t (fun p => toldIf lost .stationChanged s.auth p |||
        if adds = true ∧ s.shaper.sources = 0 then only .emergencyChanged else 0) ∧
      { t with now := s.now, ports := s.ports, tlink := s.tlink, shaper := s.shaper, sound := s.sound } = s)) ∧
  (∀ s : State, Running s →
    ((∀ p, s.tlink.poll = some p → p.began + 2 < s.now) →
      ∀ r st, exec (.stationReplyGood r) s = .next s ∧ exec (.stationMiss ⟨st, .bad⟩) s = .next s) ∧
    (∀ st, (∀ p, s.tlink.poll = some p → p.frame.station ≠ st) → ∀ cause, exec (.stationMiss ⟨st, cause⟩) s = .next s)) ∧
  (∀ (s : State) (st : Station) (r : StationReply), Running s → polled s st →
    (replyStation r = st → replyOk r = false → exec (.stationReplyGood r) s = exec (.stationMiss ⟨st, .bad⟩) s) ∧
    (replyStation r ≠ st → stillReplied s (replyStation r) → exec (.stationReplyGood r) s = .next s) ∧
    (replyStation r ≠ st → ¬stillReplied s (replyStation r) →
      exec (.stationReplyGood r) s = exec (.stationMiss ⟨st, .bad⟩) s)) ∧
  ∀ (poll : Poll) (chars : List Byte),
    let n := if chars.head? = some 0x53 then 3 else if chars.head? = some 0x51 ∨ chars.head? = some 0x52 then 5
      else if poll.station = .brk then 3 else 5
    (chars.length < n → poll.closing chars = .stationMiss ⟨poll.station, .missing⟩) ∧
    (n ≤ chars.length → ¬frameGood poll (chars.take n) → poll.closing chars = .stationMiss ⟨poll.station, .bad⟩) ∧
    (n ≤ chars.length → frameGood poll (chars.take n) →
      ∃ r, poll.closing chars = .stationReplyGood r ∧ replyStation r = poll.station ∧ replyOk r = true)

/-! ### Vigilance (06) -/

/-- What the entry to PENALTY leaves (R93): every time absent, the buzzer request withdrawn, PENALTY in the set with what follows
from it; of SOUND only the buzzers and the hazard lamps may change. -/
def penalised (s t : State) : Prop :=
  t.vigil = { s.vigil with
    state := .penalty, lastActivity := none, warnStart := none, releaseTime := none, buzzer := false } ∧
    sourceAdded s t .penalty [.buzzA, .buzzB] ∧
    (∀ c ∈ [Sounder.buzzA, .buzzB], channelAsked s.sound t.sound t.now c false) ∧
    Notified s t (fun _ => only .vigilPenalty ||| if s.shaper.sources = 0 then only .emergencyChanged else 0) ∧
    { t with now := s.now, ports := s.ports, vigil := s.vigil, shaper := s.shaper, sound := s.sound } = s

/-- R87, R88: the activity timer's expiry takes WATCH to WARN with the buzzer request, telling VIGIL_WARN when it was not placed.
R89, R91, R93: the warn timer's expiry in WARN, and the grace timer's in WATCH or WARN, enter PENALTY. That an expiry carries the
clock to its due time is the model's choice (log 2). -/
def Obligations.VigilanceTimersExpire : Prop :=
   (∀ (s : State) (at_ : Nat), Running s →
      (s.vigil.state = .watch → s.vigil.lastActivity = some at_ →
        ∃ t, exec .vigilActivityTimerExpiry s = .next t ∧ t.now = max s.now (at_ + s.settings.vigilInterval * 1000) ∧
          t.vigil = { s.vigil with state := .warn, warnStart := some t.now, buzzer := true } ∧
          (∀ x, channelAsked s.sound t.sound t.now (buzzOf x) (decide (s.auth.cab = some x))) ∧
          soundKept s.sound t.sound [.buzzA, .buzzB] ∧
          Notified s t (fun p => toldIf (!s.vigil.buzzer) .vigilWarn s.auth p) ∧
          { t with now := s.now, ports := s.ports, vigil := s.vigil, sound := s.sound } = s) ∧
      (s.vigil.state ≠ .watch → exec .vigilActivityTimerExpiry s = .next s)) ∧
   (∀ (s : State) (at_ : Nat), Running s →
      (s.vigil.state = .warn → s.vigil.warnStart = some at_ →
        ∃ t, exec .warnTimerExpiry s = .next t ∧ t.now = max s.now (at_ + 5000) ∧ penalised s t) ∧
      (s.vigil.state ≠ .warn → exec .warnTimerExpiry s = .next s) ∧
      (s.vigil.state = .watch ∨ s.vigil.state = .warn → s.vigil.releaseTime = some at_ →
        ∃ t, exec .graceTimerExpiry s = .next t ∧ t.now = max s.now (at_ + s.settings.handleGrace * 100) ∧ penalised s t) ∧
      (s.vigil.releaseTime = none → exec .graceTimerExpiry s = .next s))

/-- R94: VIGIL RESET's table; taken, it makes the state IDLE, sets the reference to the record's lever and removes PENALTY. -/
def Obligations.VigilResetAnswered : Prop :=
  (∀ (s : State) (p : Port), Taking p s → s.auth.standing p ≠ .driving →
    exec (.vigilReset p) s = .next (s.refuse p 0x13 .notPermitted)) ∧
  ∀ (s : State) (x : Cab) (d : Direction) (b : DemandBody), Taking (portOf x) s → s.auth = .held x d → s.shaper.demand = some b →
    s.shaper.has .penalty = decide (s.vigil.state = .penalty) →
    if s.vigil.state ≠ .penalty then exec (.vigilReset (portOf x)) s = .next (s.refuse (portOf x) 0x13 .already)
    else if s.wheel.stationary = false then exec (.vigilReset (portOf x)) s = .next (s.refuse (portOf x) 0x13 .moving)
    else if b.lever ≠ -100 ∧ b.lever ≠ -128 then exec (.vigilReset (portOf x)) s = .next (s.refuse (portOf x) 0x13 .notReady)
    else
      ∃ t, exec (.vigilReset (portOf x)) s = .next t ∧ t.replyOf (portOf x) = doneReply 0x13 0 ∧
        t.vigil = { s.vigil with state := .idle, leverRef := b.lever } ∧ sourceRemoved s t .penalty ∧
        Notified (s.reply (portOf x) (doneReply 0x13 0)) t
          (fun _ => if t.shaper.sources = 0 then only .emergencyChanged else 0) ∧
        { t with ports := s.ports, vigil := s.vigil, shaper := s.shaper, sound := s.sound } = s

/-! ### Horn, bell and sounders (07) -/

/-- Another channel's slot and level request stay. -/
def othersKept (a b : SoundRec) (c : Sounder) : Prop := ∀ e, e ≠ c → b.slot e = a.slot e ∧ b.req e = a.req e

/-- An instance of the channel's own level requester, as it starts (R99, section 7.1). -/
def levelStarts (r : SoundRec) (now : Nat) (c : Sounder) (i : Instance) : Prop :=
  (∃ who p, levelRequester c = some (who, p) ∧ i.requester = who ∧ i.pattern = p) ∧ i.kind = .level true ∧ i.step = 0 ∧
    i.started = now ∧ i.stepEnd = now + ((cell r.patterns i.pattern).stepAt 0).duration * 10 ∧
    i.repeatsLeft = (cell r.patterns i.pattern).rep

/-- What becomes of an instance whose step runs out (R99): its next step, its next round, or its end. -/
def stepsOn (r : SoundRec) (now : Nat) (i : Instance) : Option Instance :=
  let p := cell r.patterns i.pattern
  if i.step + 1 < p.count then
    some { i with step := i.step + 1, stepEnd := now + (p.stepAt (i.step + 1)).duration * 10 }
  else
    match i.repeatsLeft with
    | none => some { i with step := 0, stepEnd := now + (p.stepAt 0).duration * 10 }
    | some n =>
      if 2 ≤ n then some { i with step := 0, stepEnd := now + (p.stepAt 0).duration * 10, repeatsLeft := some (n - 1) }
      else none

/-- TONE has a wave: CHIME's step is on with a tone (R106). -/
def waves (r : SoundRec) : Prop :=
  ∃ i ∈ r.slot .chime, ((cell r.patterns i.pattern).stepAt i.step).on = true ∧
    ((cell r.patterns i.pattern).stepAt i.step).tone ≠ 0

/-- The half-period of a tone of f Hz in microseconds, round(500,000 / f), halves upward (R106, 4.2). -/
def toneHalf (f : Nat) : Nat := 500000 / f + if f ≤ 2 * (500000 % f) then 1 else 0

/-- TONE as a change of CHIME's slot at a time leaves it (R106): with a tone it is high and its first change of level is due a
half-period later, in microseconds; without one it is low and no change is due. -/
def waveStarts (r : SoundRec) (now : Nat) : Prop :=
  (r.toneHigh = true ↔ waves r) ∧ (¬waves r → r.toneDue = none) ∧
    (waves r → ∀ i, r.slot .chime = some i →
      r.toneDue = some (now * 1000 + toneHalf ((cell r.patterns i.pattern).stepAt i.step).tone))

/-- TONE goes on as it was: its level and the time of its next change. -/
def toneKept (a b : SoundRec) : Prop := b.toneHigh = a.toneHigh ∧ b.toneDue = a.toneDue

/-- R99, R102: a step runs out in a sounder's slot: the instance goes on or ends; an ended level instance marks its request spent;
a slot left empty with a request placed and not spent starts the level instance. In the test slot the same, without requests.
R100, R106: the minimum run ends a level instance that is no longer held; at the end of a step of CHIME, TONE is high exactly if a
step with a tone begins, and low otherwise; it is low once the minimum run ends CHIME's instance; a wave first changes level a
half-period of round(500,000 / f) microseconds after it starts and then at each half-period, and without one TONE stays. That a
change is due at a time in microseconds, of which the clock shows the whole milliseconds, is the model's (log 35). Of SOUND
nothing else changes, the departure flags among it. That a step's end, a minimum run's end and a half-period carry the clock to
their due times is the model's choice (log 2); the minimum run is read from the pattern table when it is asked for (log 43). -/
def Obligations.PatternsRun : Prop :=
   ((∀ (s : State) (c : Sounder) (i : Instance), Running s → s.sound.slot c = some i →
      ∃ t, exec (.patternStepExpiry (.sounder c)) s = .next t ∧ t.now = max s.now i.stepEnd ∧
        (∀ j, stepsOn s.sound t.now i = some j → t.sound.slot c = some j ∧ t.sound.req c = s.sound.req c) ∧
        (stepsOn s.sound t.now i = none →
          (i.isLevel = true → s.sound.req c ≠ .notPlaced → t.sound.req c = .placed true ∧ t.sound.slot c = none) ∧
          (i.isLevel = false ∨ s.sound.req c = .notPlaced → t.sound.req c = s.sound.req c ∧
            (s.sound.req c ≠ .placed false → t.sound.slot c = none) ∧
            (s.sound.req c = .placed false → c ≠ .chime → ∃ j, t.sound.slot c = some j ∧ levelStarts s.sound t.now c j))) ∧
        othersKept s.sound t.sound c ∧ (c = .chime → waveStarts t.sound t.now) ∧
        (c ≠ .chime → toneKept s.sound t.sound) ∧
        { t.sound with
          slots := s.sound.slots, level := s.sound.level, toneHigh := s.sound.toneHigh, toneDue := s.sound.toneDue } = s.sound ∧
        { t with now := s.now, sound := s.sound } = s) ∧
    (∀ (s : State) (ch : SetChannel) (i : Instance), Running s → s.sound.testSlot = some (ch, i) →
      ∃ t, exec (.patternStepExpiry .test) s = .next t ∧ t.now = max s.now i.stepEnd ∧
        t.sound = { s.sound with testSlot := (stepsOn s.sound t.now i).map fun j => (ch, j) } ∧
        { t with now := s.now, sound := s.sound } = s) ∧
    ∀ (s : State) (k : SlotId), Running s → s.sound.dueOf k = none → exec (.patternStepExpiry k) s = .next s) ∧
   ((∀ (s : State) (c : Sounder) (i : Instance), Running s → s.sound.slot c = some i → s.sound.req c = .notPlaced →
      ∃ t, exec (.minimumRunReached c) s = .next t ∧
        t.now = max s.now (i.started + (cell s.sound.patterns i.pattern).minRun * 10) ∧
        t.sound.slot c = (if i.kind = .level false then none else some i) ∧ othersKept s.sound t.sound c ∧
        (t.sound.toneHigh, t.sound.toneDue) =
          (if c = .chime ∧ i.kind = .level false then (false, none) else (s.sound.toneHigh, s.sound.toneDue)) ∧
        { t.sound with slots := s.sound.slots, toneHigh := s.sound.toneHigh, toneDue := s.sound.toneDue } = s.sound ∧
        { t with now := s.now, sound := s.sound } = s) ∧
    ∀ s : State, Running s →
      (∀ (i : Instance) (due : Nat), waves s.sound → s.sound.slot .chime = some i → s.sound.toneDue = some due →
        exec .toneHalfPeriod s = .next { s with
          now := max s.now (due / 1000)
          sound := { s.sound with
            toneHigh := !s.sound.toneHigh
            toneDue := some (due + toneHalf ((cell s.sound.patterns i.pattern).stepAt i.step).tone) } }) ∧
      (¬waves s.sound ∨ s.sound.toneDue = none → exec .toneHalfPeriod s = .next s))

/-- R101: a one-shot request by what it finds in the slot. R100, R102: a level request placed and withdrawn, by what the slot
holds. R106: a one-shot that starts on CHIME starts TONE's wave if its first step has a tone; no other channel's request touches
TONE. That the first change of level is kept as a time in microseconds is the model's (log 35). -/
def Obligations.SoundRequestsDecided : Prop :=
   (∀ (r : SoundRec) (now : Nat) (c : Sounder) (p : Fin 8) (who : Requester),
      let t := r.oneShot now c p who
      let starts := (∃ i, t.slot c = some i ∧ i.pattern = p ∧ i.requester = who ∧ i.kind = .oneShot ∧ i.step = 0 ∧ i.started = now ∧
          i.stepEnd = now + ((cell r.patterns p).stepAt 0).duration * 10 ∧ i.repeatsLeft = some ((cell r.patterns p).rep.getD 1)) ∧
        if c = .chime then waveStarts t now else toneKept r t
      (r.slot c = none → starts) ∧
      (∀ i, r.slot c = some i →
        (i.pattern = p ∧ i.requester = who → t = r) ∧
        (¬(i.pattern = p ∧ i.requester = who) →
          ((cell r.patterns i.pattern).priority < (cell r.patterns p).priority → starts) ∧
          ((cell r.patterns p).priority ≤ (cell r.patterns i.pattern).priority → t = r))) ∧
      othersKept r t c ∧ t.level = r.level ∧ t.testSlot = r.testSlot ∧ t.patterns = r.patterns) ∧
   (∀ (r : SoundRec) (now : Nat) (c : Sounder) (who : Requester) (p : Fin 8), levelRequester c = some (who, p) →
      (r.req c = .notPlaced →
        let t := r.place now c
        t.req c = .placed false ∧ othersKept r t c ∧ { t with slots := r.slots, level := r.level } = r ∧
          (r.slot c = none → ∃ j, t.slot c = some j ∧ levelStarts r now c j) ∧
          ∀ i, r.slot c = some i →
            if i.isLevel = true ∧ i.requester = who then t.slot c = some { i with kind := .level true }
            else if (cell r.patterns i.pattern).priority < (cell r.patterns p).priority then
              ∃ j, t.slot c = some j ∧ levelStarts r now c j
            else t.slot c = some i) ∧
      (∀ b, r.req c = .placed b →
        let t := r.withdraw now c
        t.req c = .notPlaced ∧ othersKept r t c ∧ { t with slots := r.slots, level := r.level } = r ∧ (r.slot c = none → t.slot c = none) ∧
          ∀ i, r.slot c = some i →
            if i.isLevel = true ∧ i.requester = who then
              t.slot c = (if i.started + (cell r.patterns i.pattern).minRun * 10 ≤ now then none else some { i with kind := .level false })
            else t.slot c = some i))

/-- R103: after a holder's frame the horn and bell requests stand at the leading end alone, each exactly while its button is
pressed; a request placed on an empty slot has started its pattern. A taken change of direction first ends every running instance
of P0, P1 and P2 at either end, without the minimum run (R17). Of SOUND's other channels the buzzer follows VIGIL (R88) and the
hazard lamps the emergency set (R58, R59); nothing else changes. That a taken turn places the requests again only from the frame's
own buttons, at stage 5, is the model's reading (log 13); that a frame in WARN which is activity and also releases the handle
keeps the buzzer's request and slot, with no new start, is the model's choice (log 51). -/
def Obligations.HornAndBellFollowButtons : Prop :=
  ∀ (s : State) (x : Cab) (d0 d : Direction) (f : DemandFrame), Taking (portOf x) s → s.auth = .held x d0 →
    directionOf f.direction = some d →
      ∃ t, exec (.demand (portOf x) f) s = .next t ∧
        (∀ e, (t.sound.req (hornOf e) ≠ .notPlaced ↔ f.horn = true ∧ t.auth.leading = some e) ∧
          (t.sound.req (bellOf e) ≠ .notPlaced ↔ f.bell = true ∧ t.auth.leading = some e) ∧
          (s.sound.slot (hornOf e) = none → s.sound.req (hornOf e) = .notPlaced → f.horn = true → t.auth.leading = some e →
            ∃ j, t.sound.slot (hornOf e) = some j ∧ levelStarts s.sound s.now (hornOf e) j)) ∧
        (let turns := d ≠ d0 ∧ s.wheel.stationary = true ∧ s.shaper.o ≤ 0 ∧ s.vigil.state ≠ .penalty
         let before := if turns then s.sound.silenceHornBell s.now else s.sound
         (turns → ∀ c ∈ hornBellChannels,
            before.req c = .notPlaced ∧ before.slot c = (s.sound.slot c).filter fun i => decide (3 ≤ i.pattern.val)) ∧
         ∀ e, channelAsked before t.sound s.now (hornOf e) (f.horn && decide (t.auth.leading = some e)) ∧
          channelAsked before t.sound s.now (bellOf e) (f.bell && decide (t.auth.leading = some e)) ∧
          channelAsked s.sound t.sound s.now (buzzOf e) (t.vigil.buzzer && decide (e = x))) ∧
        (if s.shaper.sources = 0 ↔ t.shaper.sources = 0 then channelKept s.sound t.sound .hazard
         else channelAsked s.sound t.sound s.now .hazard (decide (t.shaper.sources ≠ 0))) ∧
        soundKept s.sound t.sound [.hornA, .hornB, .bellA, .bellB, .buzzA, .buzzB, .hazard]

/-- R108: OUTPUT TEST in the order of its tests; on a sounder's channel it takes the slot, on channels 6, 8 and 9 the test slot,
and either way only SOUND and the reply change. A test of CHIME starts TONE's wave if its step has a tone (R106); the time of its
first change of level is kept in microseconds (the model's, log 35). -/
def Obligations.OutputTestAnswered : Prop :=
  ∀ (s : State) (n : BitVec 8), Taking .V s →
    (s.auth ≠ .vacant → exec (.outputTest .V n) s = .next (s.refuse .V 0x42 .notVacant)) ∧
    (s.auth = .vacant → s.wheel.stationary = false → exec (.outputTest .V n) s = .next (s.refuse .V 0x42 .moving)) ∧
    (s.auth = .vacant → s.wheel.stationary = true →
      (11 ≤ n.toNat → exec (.outputTest .V n) s = .next (s.refuse .V 0x42 .outOfRange)) ∧
      (∀ c : Sounder, n.toNat = (channelOf c).val →
        if (s.sound.slot c).any fun i => decide ((cell s.sound.patterns 7).priority ≤ (cell s.sound.patterns i.pattern).priority) then
          exec (.outputTest .V n) s = .next (s.refuse .V 0x42 .inUse)
        else
          ∃ t, exec (.outputTest .V n) s = .next t ∧ t.replyOf .V = doneReply 0x42 0 ∧
            (∃ i, t.sound.slot c = some i ∧ i.pattern = 7 ∧ i.requester = .outputTest ∧ i.kind = .oneShot ∧ i.step = 0) ∧
            othersKept s.sound t.sound c ∧ (if c = .chime then waveStarts t.sound s.now else toneKept s.sound t.sound) ∧
            { t.sound with slots := s.sound.slots, toneHigh := s.sound.toneHigh, toneDue := s.sound.toneDue } = s.sound ∧
            { t with sound := s.sound } = s.reply .V (doneReply 0x42 0)) ∧
      (∀ ch : SetChannel, n.toNat = ch.number →
        if s.sound.testSlot.isSome then exec (.outputTest .V n) s = .next (s.refuse .V 0x42 .inUse)
        else
          ∃ t, exec (.outputTest .V n) s = .next t ∧ t.replyOf .V = doneReply 0x42 0 ∧
            (∃ i, t.sound.testSlot = some (ch, i) ∧ i.pattern = 7 ∧ i.requester = .outputTest ∧ i.step = 0) ∧
            { t.sound with testSlot := s.sound.testSlot } = s.sound ∧
            (((cell s.sound.patterns 7).stepAt 0).on = true → t.requested ch = true) ∧
            { t with sound := s.sound } = s.reply .V (doneReply 0x42 0)))

/-- R98: a pattern write's effect on the table and the slots: the entry replaced, its instances ended wherever they ran. -/
def patternWritten (s t : State) (n : Fin 8) (new : Pattern) : Prop :=
  (∀ k : Fin 8, cell t.sound.patterns k = if k = n then new else cell s.sound.patterns k) ∧
    (∀ c, (∀ i ∈ s.sound.slot c, i.pattern ≠ n) → t.sound.slot c = s.sound.slot c) ∧
    (∀ c, (∃ i ∈ s.sound.slot c, i.pattern = n) →
      if s.sound.req c = .placed false ∧ c ≠ .chime then ∃ j, t.sound.slot c = some j ∧ levelStarts t.sound t.now c j
      else t.sound.slot c = none) ∧
    t.sound.testSlot = (s.sound.testSlot.filter fun q => decide (q.2.pattern ≠ n)) ∧
    (t.sound.toneHigh, t.sound.toneDue) =
      (if (s.sound.slot .chime).any fun i => decide (i.pattern = n) then (false, none) else (s.sound.toneHigh, s.sound.toneDue)) ∧
    { t.sound with
      slots := s.sound.slots, patterns := s.sound.patterns, testSlot := s.sound.testSlot, toneHigh := s.sound.toneHigh
      toneDue := s.sound.toneDue } = s.sound ∧
    { t with sound := s.sound } = s.reply .V (t.replyOf .V)

/-- The header of a pattern entry in a reply (R98, R185): step count, repeat (0 for HOLD), priority, minimum run (log 44). -/
def headerBits (p : Pattern) : BitVec 18 :=
  BitVec.ofNat 4 p.count ++ BitVec.ofNat 4 (p.rep.getD 0) ++ BitVec.ofNat 2 p.priority ++ BitVec.ofNat 8 p.minRun

/-- R98: PATTERN HEADER and PATTERN STEP: the tests in order, the clamps, the class kept, the running instances ended with TONE
low where CHIME's ends (R106), and the replies' data: the entry's header (log 44) and, for PATTERN STEP, the written step. -/
def Obligations.PatternWrites : Prop :=
  ∀ (s : State) (n a b q m : BitVec 8) (on : Bool) (tone : BitVec 16), Taking .V s →
    let refusal? := fun (index : Nat) =>
      if s.auth ≠ .vacant then some Reason.notVacant
      else if s.wheel.stationary = false then some .moving
      else if 7 < n.toNat ∨ 7 < index then some .outOfRange
      else none
    (∀ r, refusal? 0 = some r → exec (.patternHeader .V n a b q m) s = .next (s.refuse .V 0x54 r)) ∧
    (∀ r, refusal? a.toNat = some r → exec (.patternStep .V n a on b tone) s = .next (s.refuse .V 0x55 r)) ∧
    (∀ k : Fin 8, refusal? 0 = none → n.toNat = k.val →
      let old := cell s.sound.patterns k
      let new := { old with
        count := max 1 (min 8 a.toNat), rep := if b = 0 then none else some (min 15 b.toNat), priority := min 3 q.toNat
        minRun := m.toNat }
      ∃ t, exec (.patternHeader .V n a b q m) s = .next t ∧ patternWritten s t k new ∧
        t.replyOf .V =
          { status := if a = 0 ∨ 8 < a.toNat ∨ 15 < b.toNat ∨ 3 < q.toNat then .doneClamped else .done, code := 0x54
            data := headerBits new ++ 0#22 }) ∧
    (∀ k j : Fin 8, refusal? a.toNat = none → n.toNat = k.val → a.toNat = j.val →
      let old := cell s.sound.patterns k
      let f : Nat := if tone = 0 then 0 else max 200 (min 2000 tone.toNat)
      ∃ t, exec (.patternStep .V n a on b tone) s = .next t ∧
        patternWritten s t k { old with steps := putCell old.steps j { on := on, duration := max 1 b.toNat, tone := f } } ∧
        t.replyOf .V =
          { status := if b = 0 ∨ f ≠ tone.toNat then .doneClamped else .done, code := 0x55
            data := headerBits old ++ BitVec.ofBool on ++ BitVec.ofNat 8 (max 1 b.toNat) ++ BitVec.ofNat 11 f ++ 0#2 })

/-! ### Output switches and diagnostics (08) -/

/-- R118, R119, R124: the drive bit of each channel, and FAULT by Port V's sticky set. -/
def Obligations.DriveBitsFollowRequests : Prop :=
  ∀ s : State,
    (∀ c : Sounder, s.driveBit (channelOf c) = true ↔
      ∃ i ∈ s.sound.slot c, ((cell s.sound.patterns i.pattern).stepAt i.step).on = true) ∧
    (∀ ch : SetChannel, ∀ n : Fin 12, n.val = ch.number → (s.driveBit n = true ↔
      (match ch with
        | .stopsign => s.stop.record.first.isSome = true
        | .sand => s.shaper.sandReq = true
        | .trackbrake => s.shaper.trackReq = true) ∨
      ∃ i, s.sound.testSlot = some (ch, i) ∧ ((cell s.sound.patterns i.pattern).stepAt i.step).on = true)) ∧
    (s.driveBit 11 = true ↔ s.shaper.sources = 0) ∧
    (∀ n : Fin 12, hasFlag s.driveBits n.val = s.driveBit n) ∧
    (s.faultLow = true ↔ s.outbank.sticky.v.uv = true ∨ s.outbank.sticky.v.te = true ∨ s.outbank.sticky.v.linkLost = true ∨
      ∃ n : Fin 12, cell s.outbank.sticky.v.chans n ≠ 0)

/-- A channel under a drive bit that the switch die takes (R111). -/
def chanDriven (c : SwitchChan) (bit : Bool) : SwitchChan :=
  match c.sw, bit with
  | .off, true => { c with sw := .on }
  | .on, false => { c with sw := .off }
  | .latchedOff, false => { c with sw := .off, history := [] }
  | _, _ => c

/-- A channel's output is physically on (R111). -/
def outputOn (d : DieRec) (n : Fin 12) : Prop :=
  (cell d.chans n).sw = .on ∧ (cell d.chans n).hot = false ∧ d.uv = false ∧ d.following = true

/-- The status frame a die answers (R110 to R113), with the channels whose current is below the open-load level. -/
def statusTells (d : DieRec) (openLoad : BitVec 12) (f : StatusFrame) : Prop :=
  f.following = d.following ∧ f.uv = d.uv ∧ f.zeros = 0 ∧ f.echo = d.echo ∧
    ∀ n : Fin 12, ((cell f.chans n).on = true ↔ outputOn d n) ∧
      ((cell f.chans n).openLoad = true ↔ outputOn d n ∧ hasFlag openLoad n.val = true) ∧
      ((cell f.chans n).overload = true ↔ ∃ e, (cell d.chans n).sw = .retryWait e) ∧
      ((cell f.chans n).overtemp = (cell d.chans n).hot) ∧ ((cell f.chans n).latched = true ↔ (cell d.chans n).sw = .latchedOff)

/-- R110, R114: a drive frame is sent with the bits as they stand and the count, which goes on; arriving good it is taken while
FOLLOWING and counted in SAFE, the eighth taken; arriving bad it is ignored or ends the recovery run; lost it draws no status. A
frame is due 1 ms after the one before (log 2, 16). 13.4: the frame's bytes, and that the switch die reads them back when and only
when there are three and the check is right. -/
def Obligations.DriveFrameSent : Prop :=
 (∀ (s : State) (a : DriveArrival) (openLoad : BitVec 12), Running s →
    let f : DriveFrame := { bits := s.driveBits, count := s.outbank.driveCount }
    let d := s.die
    let takes := a = .good ∧ (d.following = true ∨ 7 ≤ d.recovery)
    ∃ t, exec (.driveFrame a openLoad) s = .next t ∧
      t.now = (match s.outbank.driveAt with | some x => max s.now (x + 1) | none => s.now) ∧
      t.outbank = { s.outbank with driveCount := s.outbank.driveCount + 1, driveAt := some t.now, sent := some f } ∧
      t.die.following = (d.following || decide takes) ∧
      (d.following = false → t.die.recovery =
        (match a with | .good => min 8 (d.recovery + 1) | .bad => 0 | .lost => d.recovery)) ∧
      (d.following = true → t.die.recovery = d.recovery) ∧
      (if takes then t.die.taken = f.bits ∧ ∀ n : Fin 12, cell t.die.chans n = chanDriven (cell d.chans n) (hasFlag f.bits n.val)
       else t.die.taken = d.taken ∧ t.die.chans = d.chans) ∧
      (if a = .good then t.die.echo = f.count ∧ t.die.lastGood = t.now else t.die.echo = d.echo ∧ t.die.lastGood = d.lastGood) ∧
      (a = .lost → t.die.status = none) ∧ (a ≠ .lost → ∃ g, t.die.status = some g ∧ statusTells t.die openLoad g) ∧
      t.die.uv = d.uv ∧ { t with now := s.now, outbank := s.outbank, die := s.die } = s) ∧
 (∀ f : DriveFrame,
    let w := BitVec.ofNat 16 (f.bits.toNat * 16 + f.count.toNat)
    f.bytes = [w.extractLsb' 8 8, w.extractLsb' 0 8, crc8 [w.extractLsb' 8 8, w.extractLsb' 0 8]] ∧ readDrive f.bytes = some f) ∧
 ∀ (bytes : List Byte) (f : DriveFrame), readDrive bytes = some f → bytes = f.bytes

/-- R110: 16 ms without a good drive frame take a FOLLOWING die to SAFE: ON becomes OFF, retries and latches stay, the recovery
run is 0. The die powers up in SAFE with every channel OFF, no history and no retry, and a count echo of 0; the undervoltage and
the heat that it senses from outside stay as they are (log 29). R111: a trip of an output that is on is recorded; the third
overload within 60 s latches, else a retry of 1000 ms; the retry follows the latest taken bit, and in SAFE switches nothing on
(log 18). An output that is off does not trip. The 60 s count their last millisecond (log 19). R112, R113: heat holds an output
off and lets it return without a frame; undervoltage holds every output off, and its end puts every channel OFF with no retry, no
latch and no history, the follow state kept. That the fall to SAFE and the end of a retry carry the clock to their due times is
the model's choice (log 2). That a power-up loses the status frame of a slot still open is the model's choice (log 52). -/
def Obligations.SwitchDieFaults : Prop :=
   (∀ s : State,
      (s.die.following = true → ∃ t, exec .switchDieSafe s = .next t ∧ t.now = max s.now (s.die.lastGood + 16) ∧
        t.die.following = false ∧ t.die.recovery = 0 ∧
        (∀ n : Fin 12, cell t.die.chans n =
          { cell s.die.chans n with sw := if (cell s.die.chans n).sw = .on then .off else (cell s.die.chans n).sw }) ∧
        (∀ n : Fin 12, ¬outputOn t.die n) ∧
        { t.die with following := true, recovery := s.die.recovery, chans := s.die.chans } = s.die ∧
        { t with now := s.now, die := s.die } = s) ∧
      (s.die.following = false → exec .switchDieSafe s = .next s) ∧
      ∃ t, exec .switchDiePowerUp s = .next t ∧ t.die.following = false ∧ t.die.recovery = 0 ∧ t.die.echo = 0 ∧ t.die.status = none ∧
        (∀ n : Fin 12, cell t.die.chans n = { sw := .off, history := [], hot := (cell s.die.chans n).hot }) ∧ t.die.uv = s.die.uv ∧
        { t with die := s.die } = s) ∧
   (∀ (s : State) (n : Fin 12),
      let c := cell s.die.chans n
      (outputOn s.die n →
        let h := s.now :: c.history.filter fun e => decide (s.now - e ≤ 60000)
        exec (.currentLimitTrip n) s = .next { s with die := { s.die with
          chans := putCell s.die.chans n
            { c with history := h, sw := if 3 ≤ h.length then .latchedOff else .retryWait (s.now + 1000) } } }) ∧
      (¬outputOn s.die n → exec (.currentLimitTrip n) s = .next s) ∧
      (∀ e, c.sw = .retryWait e → exec (.retryExpiry n) s = .next { s with
        now := max s.now e
        die := { s.die with
          chans := putCell s.die.chans n
            { c with sw := if hasFlag s.die.taken n.val = true ∧ s.die.following = true then .on else .off } } }) ∧
      ((∀ e, c.sw ≠ .retryWait e) → exec (.retryExpiry n) s = .next s)) ∧
   (∀ s : State,
      (∀ (n : Fin 12) (hot : Bool),
        exec (.overtempChange n hot) s =
            .next { s with die := { s.die with chans := putCell s.die.chans n { cell s.die.chans n with hot := hot } } } ∧
          ¬outputOn { s.die with chans := putCell s.die.chans n { cell s.die.chans n with hot := true } } n ∧
          (s.die.following = true → s.die.uv = false → (cell s.die.chans n).sw = .on →
            outputOn { s.die with chans := putCell s.die.chans n { cell s.die.chans n with hot := false } } n)) ∧
      (exec .uvOnset s = .next { s with die := { s.die with uv := true } } ∧ ∀ n, ¬outputOn { s.die with uv := true } n) ∧
      ∃ t, exec .uvRecovery s = .next t ∧ t.die.uv = false ∧
        (∀ n : Fin 12, cell t.die.chans n = { sw := .off, history := [], hot := (cell s.die.chans n).hot }) ∧
        { t.die with uv := s.die.uv, chans := s.die.chans } = s.die ∧ { t with die := s.die } = s)

/-- A status frame makes its slot good (R115). -/
def slotGood (s : State) (f : StatusFrame) : Prop :=
  (s.outbank.sent.map DriveFrame.count) = some f.echo ∧ f.following = true ∧ f.zeros = 0

/-- The status frame that arrives complete and with a right check, if any (R115). -/
def arrives (s : State) : StatusArrival → Option StatusFrame
  | .asSent => s.die.status
  | .other f => some f
  | _ => none

/-- R115 to R117, R120, R121: a good slot: the runs and the link state, the channel records and the live UV flag from the frame,
the frame's faults in every port's sticky set, and OUTPUT_FAULT to each port whose set was empty. R58, R59, R66, R67: the EBLOOP
mismatch run at a good slot, LOOP_DROPPED added when it reaches 3, and its removal tested at standstill when the link comes UP,
with O, zero-pass, the hazard request, EBLOOP's drive bit and EMERGENCY_CHANGED as the set fills or empties. R66, R115, R116,
R121: a bad slot: TE in every set, the runs, and at the sixteenth while UP the link LOST with LINK_LOST in every set and
LOOP_DROPPED added. The channel records keep their contents (R117). 13.4, R115: a status frame's bytes: their number, the first
byte, the five bits of each channel in its place, and that a frame is read back exactly when its length and check are right. When
a slot closes is the model's choice (log 45). The status frame the slot was given is used up, and of OUTBANK and the switch die
nothing else changes. -/
def Obligations.StatusSlotJudged : Prop :=
   (∀ (s : State) (a : StatusArrival) (f : StatusFrame), Running s → arrives s a = some f → slotGood s f →
      let flags (n : Fin 12) : BitVec 4 := BitVec.ofBool (cell f.chans n).latched ++ BitVec.ofBool (cell f.chans n).overtemp ++
        BitVec.ofBool (cell f.chans n).overload ++ BitVec.ofBool (cell f.chans n).openLoad
      ∃ t, exec (.statusSlotClose a) s = .next t ∧ t.outbank.badRun = 0 ∧ t.outbank.goodRun = min 8 (s.outbank.goodRun + 1) ∧
        t.outbank.linkUp = (s.outbank.linkUp || decide (7 ≤ s.outbank.goodRun)) ∧ t.outbank.liveUv = f.uv ∧
        (∀ n : Fin 12, cell t.outbank.reported n = some (cell f.chans n).on ∧ cell t.outbank.live n = flags n) ∧
        (∀ p : Port, let k := s.outbank.sticky.get p
          let k' := t.outbank.sticky.get p
          (∀ n : Fin 12, cell k'.chans n = cell k.chans n ||| flags n) ∧ k'.uv = (k.uv || f.uv) ∧ k'.te = k.te ∧
            k'.linkLost = k.linkLost ∧ (k.nonEmpty = false → k'.nonEmpty = true → Told t p .outputFault) ∧
            (k.nonEmpty = true ∨ k'.nonEmpty = false → Told t p .outputFault → Told s p .outputFault)) ∧
        { t.outbank with
          badRun := s.outbank.badRun, goodRun := s.outbank.goodRun, linkUp := s.outbank.linkUp, reported := s.outbank.reported
          live := s.outbank.live, liveUv := s.outbank.liveUv, sticky := s.outbank.sticky } = s.outbank ∧
        t.die = { s.die with status := none } ∧
        { t with ports := s.ports, shaper := s.shaper, sound := s.sound, outbank := s.outbank, die := s.die } = s) ∧
   (∀ (s : State) (a : StatusArrival) (f : StatusFrame), Running s → arrives s a = some f → slotGood s f →
      let commanded := (s.outbank.sent.map fun q => hasFlag q.bits 11) = some true
      let run := if commanded ∧ (cell f.chans 11).on = false then s.shaper.mismatch + 1 else 0
      let comesUp := s.outbank.linkUp = false ∧ 7 ≤ s.outbank.goodRun
      let added := if run = 3 then addFlag s.shaper.sources EmSource.loopDropped.idx else s.shaper.sources
      let left := if comesUp ∧ s.wheel.stationary = true then dropFlag added EmSource.loopDropped.idx else added
      let first := run = 3 ∧ s.shaper.sources = 0
      let empties := added ≠ 0 ∧ left = 0
      let placed := if first then s.sound.place s.now .hazard else s.sound
      ∃ t, exec (.statusSlotClose a) s = .next t ∧
        t.shaper = { s.shaper with
          mismatch := if run = 3 then 0 else run
          sources := left
          o := if first then -1000 else s.shaper.o
          oPrev := if first ∨ empties then -1000 else s.shaper.oPrev
          zeroPass := if empties then false else s.shaper.zeroPass } ∧
        (if empties then channelAsked placed t.sound s.now .hazard false else channelKept placed t.sound .hazard) ∧
        soundKept s.sound t.sound [.hazard] ∧ t.driveBit 11 = decide (left = 0) ∧
        Notified s t (fun p =>
          (if (s.outbank.sticky.get p).nonEmpty = false ∧ (t.outbank.sticky.get p).nonEmpty = true then only .outputFault else 0) |||
            if first ∨ empties then only .emergencyChanged else 0)) ∧
   (∀ (s : State) (a : StatusArrival), Running s → (∀ f, arrives s a = some f → ¬slotGood s f) →
      let falls := s.outbank.linkUp = true ∧ 15 ≤ s.outbank.badRun
      ∃ t, exec (.statusSlotClose a) s = .next t ∧ t.outbank.goodRun = 0 ∧ t.outbank.badRun = min 16 (s.outbank.badRun + 1) ∧
        t.outbank.linkUp = (s.outbank.linkUp && !decide falls) ∧
        (∀ p : Port, let k := s.outbank.sticky.get p
          let k' := t.outbank.sticky.get p
          k'.chans = k.chans ∧ k'.uv = k.uv ∧ k'.te = true ∧ k'.linkLost = (k.linkLost || decide falls) ∧
            (k.nonEmpty = false → Told t p .outputFault) ∧ (k.nonEmpty = true → Told t p .outputFault → Told s p .outputFault)) ∧
        (falls → sourceAdded s t .loopDropped) ∧ (¬falls → t.shaper = s.shaper ∧ t.sound = s.sound) ∧
        Notified s t (fun p => (if (s.outbank.sticky.get p).nonEmpty = false then only .outputFault else 0) |||
          if falls ∧ s.shaper.sources = 0 then only .emergencyChanged else 0) ∧
        { t.outbank with
          badRun := s.outbank.badRun, goodRun := s.outbank.goodRun, linkUp := s.outbank.linkUp, sticky := s.outbank.sticky } =
          s.outbank ∧
        t.die = { s.die with status := none } ∧
        { t with ports := s.ports, shaper := s.shaper, sound := s.sound, outbank := s.outbank, die := s.die } = s) ∧
   (∀ f : StatusFrame, (statusBytes f).length = 10 ∧ readStatus (statusBytes f) = some f ∧
      (statusBytes f).head? = some
        (BitVec.ofNat 8 (128 * f.following.toNat + 64 * f.uv.toNat + f.zeros.toNat / 16 * 16 + f.echo.toNat)) ∧
      ∀ n : Fin 12, (((statusBytes f).flatMap bitsOfByte).drop (8 + 5 * n.val)).take 5 =
        [(cell f.chans n).on, (cell f.chans n).openLoad, (cell f.chans n).overload, (cell f.chans n).overtemp,
          (cell f.chans n).latched]) ∧
   ∀ (body : List Byte) (k : Byte),
      ((readStatus (body ++ [k])).isSome = true ↔ body.length = 9 ∧ k = crc8 body) ∧ readStatus [] = none

/-- R120, R122: DIAG SUMMARY reports, copies the sticky entries into the port's detail view, and removes what is no longer live;
the other ports' sets and views stay. The reply's bits after the live UV flag are 0 (13.1, R185). R123: DIAG CHANNEL answers the
detail entry, the drive bit, the reported output with its presence, the live faults, whether the sticky entry is non-empty, and
the link state (0 for UP); it changes nothing. A channel of 12 or above is OUT_OF_RANGE. The order of the fault kinds and the
coding of the fields are the model's reading (log 25). -/
def Obligations.FaultReadsAnswered : Prop :=
   (∀ (s : State) (p : Port), Taking p s →
      let k := s.outbank.sticky.get p
      ∃ t, exec (.diagSummary p) s = .next t ∧ (t.replyOf p).status = .done ∧ (t.replyOf p).code = 0x40 ∧
        (∀ n : Fin 12, (t.replyOf p).data.getMsbD n.val = decide (cell k.chans n ≠ 0)) ∧
        (∀ j : Fin 5, (t.replyOf p).data.getMsbD (12 + j.val) =
          ([k.uv, k.te, k.linkLost, !s.outbank.linkUp, s.outbank.liveUv] : List Bool).getD j.val false) ∧
        (t.replyOf p).data.extractLsb' 0 23 = 0 ∧
        t.outbank.detail.get p = k.chans ∧
        (let k' := t.outbank.sticky.get p
         (∀ n : Fin 12, cell k'.chans n =
            if s.outbank.linkUp then cell k.chans n &&& cell s.outbank.live n else cell k.chans n) ∧
          k'.uv = (k.uv && (!s.outbank.linkUp || s.outbank.liveUv)) ∧ k'.te = (k.te && decide (0 < s.outbank.badRun)) ∧
          k'.linkLost = (k.linkLost && !s.outbank.linkUp)) ∧
        (∀ r, r ≠ p → t.outbank.sticky.get r = s.outbank.sticky.get r ∧ t.outbank.detail.get r = s.outbank.detail.get r ∧
          t.ports.get r = s.ports.get r) ∧
        { t.outbank with sticky := s.outbank.sticky, detail := s.outbank.detail } = s.outbank ∧
        { t with outbank := s.outbank } = s.reply p (t.replyOf p)) ∧
   (∀ (s : State) (p : Port) (n : BitVec 8), Taking p s →
      (12 ≤ n.toNat → exec (.diagChannel p n) s = .next (s.refuse p 0x41 .outOfRange)) ∧
      ∀ k : Fin 12, n.toNat = k.val →
        exec (.diagChannel p n) s = .next (s.reply p (doneReply 0x41
          ((cell (s.outbank.detail.get p) k).reverse ++ BitVec.ofBool (s.driveBit k) ++
            BitVec.ofBool (cell s.outbank.reported k).isSome ++ BitVec.ofBool ((cell s.outbank.reported k).getD false) ++
            (cell s.outbank.live k).reverse ++ BitVec.ofBool (decide (cell (s.outbank.sticky.get p).chans k ≠ 0)) ++
            BitVec.ofBool (!s.outbank.linkUp) ++ 0#27 : BitVec 40))))

/-! ### Stop requests (09) -/

/-- The depth of a count under a baseline (R128). -/
def depthOf (baseline n : Nat) : Int := (baseline / 16 : Nat) - (n : Int)

/-- A void measurement (R133): what it leaves of a channel that is not DISABLED, and whether TOUCH_FAULT is raised. -/
def voidLeaves (c : TouchRec) (n : Nat) : TouchRec × Bool :=
  let c1 := { c with count := some n, voidRun := min 3 (c.voidRun + 1) }
  if c.state = .faulted then ({ c1 with rangeRun := some 0 }, false)
  else if c.state = .pressing then ({ c1 with state := .idle, saved := none, confirm := 0 }, false)
  else if 2 ≤ c.voidRun then
    ({ c1 with state := .faulted, saved := none, pressedAt := none, confirm := 0, rangeRun := some 0 }, true)
  else (c1, false)

/-- An in-range measurement of a channel that is neither DISABLED nor FAULTED, its baseline b present (R129 to R132). -/
def rangeLeaves (c : TouchRec) (b n th time : Nat) : TouchRec × Bool :=
  let c1 := { c with count := some n, voidRun := 0 }
  let d := depthOf b n
  let stays (c : TouchRec) : TouchRec × Bool :=
    match c.pressedAt with
    | some p => if p + 20000 ≤ time then ({ c with state := .stuck, baseline := some (n * 16), confirm := 0 }, true) else (c, false)
    | none => (c, false)
  match c.state with
  | .idle =>
    if (th : Int) ≤ d then ({ c1 with state := .pressing, saved := some b, confirm := 1 }, false)
    else ({ c1 with baseline := some ((b : Int) + Int.tdiv (16 * n - b) 64).toNat, confirm := 0 }, false)
  | .pressing =>
    if d < th then ({ c1 with state := .idle, saved := none, confirm := 0 }, false)
    else if c.confirm ≤ 1 then ({ c1 with confirm := c.confirm + 1 }, false)
    else ({ c1 with state := .pressed, pressedAt := some time, confirm := 0 }, false)
  | .pressed => if 2 * d < th then ({ c1 with state := .releasing, confirm := 1 }, false) else stays { c1 with confirm := 0 }
  | .releasing =>
    if 2 * d < th then
      if c.confirm ≤ 1 then ({ c1 with confirm := c.confirm + 1 }, false)
      else ({ c1 with state := .idle, saved := none, pressedAt := none, confirm := 0 }, false)
    else stays { c1 with state := .pressed, confirm := 0 }
  | .stuck =>
    match c.saved with
    | some sv =>
      if 2 * depthOf sv n < th then
        if c.confirm ≤ 1 then ({ c1 with confirm := c.confirm + 1 }, false)
        else ({ c1 with state := .idle, baseline := some sv, saved := none, pressedAt := none, confirm := 0 }, true)
      else ({ c1 with confirm := 0 }, false)
    | none => (c1, false)
  | _ => (c1, false)

/-- R128, R129, R133: every channel's gate stores its count; a DISABLED channel does no more; a void measurement goes to the fault
test; an in-range one seeds an absent baseline; in FAULTED the fiftieth in a row ends it. A gate ends k + 1 ms into its scan. R129
to R132, R134, R138: an in-range measurement against a present baseline: pressing, the confirmed press, releasing, the stuck test
and its end. Only a press confirmed while the section is RUNNING with DCL high reaches the stop record. That the clock is then at
the gate's end, and stays where no scan has begun, is the model's (log 2, 16); that an absent baseline is seeded in FAULTED too is
its reading (log 20). -/
def Obligations.TouchMeasurementsJudged : Prop :=
   (∀ (s : State) (k : Fin 16) (n : BitVec 12), Running s →
      let c := cell s.stop.chans k
      let void := n.toNat < 64 ∨ n.toNat = 4095
      c.state = .disabled ∨ void ∨ c.baseline = none ∨ c.state = .faulted →
      ∃ t, exec (.touchMeasurement k n) s = .next t ∧
        t.now = (match s.stop.scanAt with | some a => max s.now (a + k.val + 1) | none => s.now) ∧
        (let out : TouchRec × Bool :=
          if c.state = .disabled then ({ c with count := some n.toNat }, false)
          else if void then voidLeaves c n.toNat
          else if c.state = .faulted then
            (let c1 := { c with count := some n.toNat, voidRun := 0 }
             if 49 ≤ c.rangeRun.getD 0 then ({ c1 with state := .idle, baseline := some (n.toNat * 16), rangeRun := none }, true)
             else ({ c1 with rangeRun := some (c.rangeRun.getD 0 + 1), baseline := some (c.baseline.getD (n.toNat * 16)) }, false))
          else ({ c with count := some n.toNat, voidRun := 0, baseline := some (n.toNat * 16) }, false)
         cell t.stop.chans k = out.1 ∧ Notified s t (fun p => toldIf out.2 .touchFault s.auth p)) ∧
        (∀ j, j ≠ k → cell t.stop.chans j = cell s.stop.chans j) ∧ { t.stop with chans := s.stop.chans } = s.stop ∧
        { t with now := s.now, ports := s.ports, stop := s.stop } = s) ∧
   (∀ (s : State) (k : Fin 16) (n : BitVec 12) (b : Nat), Running s →
      let c := cell s.stop.chans k
      64 ≤ n.toNat → n.toNat ≠ 4095 → c.baseline = some b → c.state ≠ .disabled → c.state ≠ .faulted →
      ∃ t, exec (.touchMeasurement k n) s = .next t ∧
        cell t.stop.chans k = (rangeLeaves c b n.toNat s.settings.threshold (t.now - s.epoch)).1 ∧
        t.now = (match s.stop.scanAt with | some a => max s.now (a + k.val + 1) | none => s.now) ∧
        (∀ j, j ≠ k → cell t.stop.chans j = cell s.stop.chans j) ∧
        { t.stop with chans := s.stop.chans, record := s.stop.record } = s.stop ∧
        { t with now := s.now, ports := s.ports, sound := s.sound, stop := s.stop } = s ∧
        (let confirmed := c.state = .pressing ∧ 2 ≤ c.confirm ∧ (s.settings.threshold : Int) ≤ depthOf b n.toNat
         ¬(confirmed ∧ s.stop.sect = .running ∧ s.lines.dcl = true) →
          t.stop.record = s.stop.record ∧ t.sound = s.sound ∧
            Notified s t (fun p => toldIf
              (rangeLeaves c b n.toNat s.settings.threshold (t.now - s.epoch)).2 .touchFault s.auth p)))

/-- R134, R135, R138: a press confirmed while the section is RUNNING and DCL high adds its door, its wheelchair mark and its
count; the first request of a section sets source TOUCH, mark and time and sends P5 STOP_CHIME once; STOP_CHANGED by what is new.
The clock of the gate's end is the model's (log 2, 16). -/
def Obligations.ConfirmedPressRecorded : Prop :=
  ∀ (s : State) (k : Fin 16) (n : BitVec 12) (b d : Nat) (wheelchair : Bool), Running s →
    let c := cell s.stop.chans k
    let r := s.stop.record
    64 ≤ n.toNat → n.toNat ≠ 4095 → c.baseline = some b → c.state = .pressing → 2 ≤ c.confirm →
    (s.settings.threshold : Int) ≤ depthOf b n.toNat → s.stop.sect = .running → s.lines.dcl = true → 1 ≤ d → d ≤ 6 →
    cell s.settings.touch k = (if wheelchair then .wheelchair d else .door d) →
    ∃ t, exec (.touchMeasurement k n) s = .next t ∧
      t.stop.record =
        { first := some (r.first.getD { source := .touch, mark := s.wheel.odometer, time := t.now - s.epoch })
          doors := addFlag r.doors (d - 1), wheelchair := r.wheelchair || wheelchair, presses := min 255 (r.presses + 1)
          chime := r.chime || r.first.isNone } ∧
      t.sound = (if r.first = none ∧ r.chime = false then s.sound.oneShot t.now .chime 5 .stopreq else s.sound) ∧
      t.driveBit 6 = true ∧ t.now = (match s.stop.scanAt with | some a => max s.now (a + k.val + 1) | none => s.now) ∧
      cell t.stop.chans k =
        { c with state := .pressed, count := some n.toNat, voidRun := 0, confirm := 0, pressedAt := some (t.now - s.epoch) } ∧
      (∀ j, j ≠ k → cell t.stop.chans j = cell s.stop.chans j) ∧
      { t.stop with chans := s.stop.chans, record := s.stop.record } = s.stop ∧
      { t with now := s.now, ports := s.ports, sound := s.sound, stop := s.stop } = s ∧
      Notified s t (fun p => toldIf
        (r.first.isNone || !hasFlag r.doors (d - 1) || (wheelchair && !r.wheelchair)) .stopChanged s.auth p)

/-- R71, R72: a cycle begins: the count goes on, 0 in the first after a reset, and TU1 is sent the hand-over with it; of the polls
answered in the cycle before nothing is kept (log 53). A cycle is due 20 ms after the one before (log 2, 16). R72, R73, 13.2: the
bytes of the three command frames. R128: a scan begins, 20 ms after the one before; nothing else changes (log 2, 16). -/
def Obligations.CyclesAndScansBegin : Prop :=
   (∀ s : State, Running s →
      let n := if s.tlink.cycleAt.isSome then (s.tlink.cycle + 1) % 16 else s.tlink.cycle
      let h := s.tlink.handOver
      ∃ t, exec .tlinkCycleStart s = .next t ∧ t.now = (match s.tlink.cycleAt with | some a => max s.now (a + 20) | none => s.now) ∧
        t.tlink = { s.tlink with
          cycle := n, cycleAt := some t.now
          poll := some
            { frame := .tu1 { demand := h.o, direction := h.direction, brake := h.brake, emergency := h.emergency, count := n }
              began := t.now }
          answered := [] } ∧
        { t with now := s.now, tlink := s.tlink } = s) ∧
   (∀ s : State, Running s →
      let at_ := match s.stop.scanAt with | some a => max s.now (a + 20) | none => s.now
      exec .touchScanStart s = .next { s with now := at_, stop := { s.stop with scanAt := some at_ } }) ∧
   (∀ (c : TuCommand) (second : Bool), -1000 ≤ c.demand → c.demand ≤ 1000 → c.count ≤ 15 →
      let d := BitVec.ofInt 16 c.demand
      let x := BitVec.ofNat 8 (64 * c.direction.code + 32 * c.brake.toNat + 16 * c.emergency.toNat + c.count)
      let body : List Byte := [if second then 0x52 else 0x51, d.extractLsb' 8 8, d.extractLsb' 0 8, x]
      (if second then Poll.tu2 c else .tu1 c).bytes = body ++ [crc8 body]) ∧
   ∀ c : BrkCommand, c.demand ≤ 1000 →
      let body : List Byte := [0x53, BitVec.ofNat 8 (c.demand / 256), BitVec.ofNat 8 c.demand,
        BitVec.ofNat 8 (128 * c.brake.toNat + 64 * c.emergency.toNat)]
      (Poll.brk c).bytes = body ++ [crc8 body]

/-- R139, R140: STOP SET by DCL and requested, with its source, mark and time; STOP CANCEL clears all but chime sounded; both tell
STOP_CHANGED only when requested changes. -/
def Obligations.StopSetAndCancel : Prop :=
  ∀ (s : State) (p : Port), Taking p s → s.auth.standing p = .driving ∨ p = .V →
    let r := s.stop.record
    (s.lines.dcl = false → exec (.stopSet p) s = .next (s.refuse p 0x30 .notReady)) ∧
    (s.lines.dcl = true → r.first.isSome = true → exec (.stopSet p) s = .next (s.reply p (doneReply 0x30 0))) ∧
    (s.lines.dcl = true → r.first = none →
      ∃ t, exec (.stopSet p) s = .next t ∧ t.replyOf p = doneReply 0x30 0 ∧
        t.stop = { s.stop with record := { r with
          first := some { source := if p = .V then .vehicle else .driver, mark := s.wheel.odometer, time := s.now - s.epoch } } } ∧
        t.driveBit 6 = true ∧ Notified (s.reply p (doneReply 0x30 0)) t (fun q => toldIf true .stopChanged s.auth q) ∧
        { t with ports := s.ports, stop := s.stop } = s) ∧
    (r.first = none → exec (.stopCancel p) s = .next (s.reply p (doneReply 0x31 0))) ∧
    (r.first.isSome = true →
      ∃ t, exec (.stopCancel p) s = .next t ∧ t.replyOf p = doneReply 0x31 0 ∧
        t.stop = { s.stop with record := { first := none, doors := 0, wheelchair := false, presses := 0, chime := r.chime } } ∧
        Notified (s.reply p (doneReply 0x31 0)) t (fun q => toldIf true .stopChanged s.auth q) ∧
        { t with ports := s.ports, stop := s.stop } = s)

/-- An end or cab that may be absent, in a reply: its presence bit, then 0 for A and 1 for B. -/
def cabBits : Option Cab → BitVec 2
  | none => 0
  | some .A => 2
  | some .B => 3

/-- A number of w bits that may be absent, in a reply: its presence bit, then its value, 0 when absent (R185). -/
def optBits (w : Nat) (x : Option Nat) : BitVec (1 + w) := BitVec.ofBool x.isSome ++ BitVec.ofNat w (x.getD 0)

/-- The group of a traction unit: link state (1 for LOST), miss run, and its last reply with its presence. -/
def tuBits (t : TuRec) : BitVec 40 :=
  BitVec.ofBool (!t.answering) ++ BitVec.ofNat 3 t.missRun ++ BitVec.ofBool t.last.isSome ++
    BitVec.ofNat 2 ((t.last.map fun r => unitCode r.unit).getD 0) ++ BitVec.ofNat 10 ((t.last.map fun r => r.effort.toNat).getD 0) ++
    BitVec.ofBool ((t.last.map TuReply.slip).getD false) ++ BitVec.ofBool ((t.last.map TuReply.lineVoltage).getD false) ++ 0#21

/-- The group of BRK, with the cycle count. -/
def brkBits (t : TlinkRec) : BitVec 40 :=
  BitVec.ofBool (!t.brk.answering) ++ BitVec.ofNat 3 t.brk.missRun ++ BitVec.ofBool t.brk.last.isSome ++
    BitVec.ofNat 2 ((t.brk.last.map fun r => unitCode r.unit).getD 0) ++
    BitVec.ofBool ((t.brk.last.map BrkReply.brakeApplied).getD false) ++
    BitVec.ofBool ((t.brk.last.map BrkReply.brakeAvailable).getD false) ++ BitVec.ofNat 4 t.cycle ++ 0#27

/-- A slot: the pattern with its presence, the requester, the step index, step on, held; all 0 for an empty slot. -/
def slotBits (r : SoundRec) (c : Sounder) : BitVec 12 :=
  match r.slot c with
  | none => 0
  | some i =>
    1#1 ++ BitVec.ofNat 3 i.pattern.val ++ BitVec.ofNat 3 i.requester.code ++ BitVec.ofNat 3 i.step ++
      BitVec.ofBool ((cell r.patterns i.pattern).stepAt i.step).on ++ BitVec.ofBool (decide (i.kind = .level true))

/-- A level request record: placed, spent. -/
def levelBits (r : SoundRec) (c : Sounder) : BitVec 2 :=
  match r.req c with
  | .notPlaced => 0
  | .placed spent => 1#1 ++ BitVec.ofBool spent

/-- R177: GET STATUS answers DONE with the group's fields, every group's bits spelled out, and changes nothing; a group above 13
is OUT_OF_RANGE. How the fields are coded is partly the model's choice (log 21, 25, 26). -/
def statusAnswered : Prop :=
  ∀ (p : Port) (g : BitVec 8) (s : State), Taking p s →
    (13 < g.toNat → exec (.getStatus p g) s = .next (s.refuse p 0x02 .outOfRange)) ∧
    (g.toNat ≤ 13 → ∃ d, exec (.getStatus p g) s = .next (s.reply p (doneReply 0x02 d)) ∧
      (g = 0 → d = (BitVec.ofNat 2 s.auth.code ++ cabBits s.auth.cab ++ BitVec.ofNat 2 (directionCode s.auth.direction) ++
        BitVec.ofNat 2 s.auth.vdir.code ++ cabBits s.auth.leading ++ BitVec.ofNat 2 (s.auth.standing .A).code ++
        BitVec.ofNat 2 (s.auth.standing .B).code ++ BitVec.ofNat 2 (s.auth.standing .V).code ++ 0#24 : BitVec 40)) ∧
      (g = 1 → d = (BitVec.ofNat 11 s.wheel.v ++ BitVec.ofBool s.wheel.stationary ++ BitVec.ofBool s.wheel.s1.failed ++
        BitVec.ofBool s.wheel.s2.failed ++ BitVec.ofNat 2 s.wheel.adhesion.code ++ BitVec.ofBool s.wheel.runOn.isSome ++
        BitVec.ofBool s.wheel.rollback ++ 0#22 : BitVec 40)) ∧
      (g = 2 → d = (BitVec.ofNat 32 s.wheel.odometer ++ 0#8 : BitVec 40)) ∧
      (g = 3 → d = (BitVec.ofInt 11 s.shaper.o ++ BitVec.ofInt 11 s.shaper.t ++ BitVec.ofNat 10 s.shaper.vLim ++ 0#8 : BitVec 40)) ∧
      (g = 4 → d = (BitVec.ofNat 10 s.shaper.c ++ s.shaper.stage.code ++ BitVec.ofBool s.shaper.zeroPass ++
        BitVec.ofBool s.shaper.overspeed ++ BitVec.ofBool s.shaper.holdingBrake ++ BitVec.ofBool s.shaper.sandReq ++
        BitVec.ofBool s.shaper.trackReq ++ 0#23 : BitVec 40)) ∧
      (g = 5 → d = (s.shaper.sources.reverse ++ BitVec.ofBool s.supply.batteryLow ++ 0#31 : BitVec 40)) ∧
      (g = 6 → d = tuBits s.tlink.tu1) ∧ (g = 7 → d = tuBits s.tlink.tu2) ∧ (g = 8 → d = brkBits s.tlink) ∧
      (g = 9 → d = (s.vigil.state.code ++ BitVec.ofBool s.vigil.buzzer ++ BitVec.ofBool s.vigil.releaseTime.isSome ++
        BitVec.ofNat 10 s.vigilLeft ++ 0#26 : BitVec 40)) ∧
      (g = 10 → d = (slotBits s.sound .hornA ++ slotBits s.sound .hornB ++ slotBits s.sound .bellA ++ 0#4 : BitVec 40)) ∧
      (g = 11 → d = (slotBits s.sound .bellB ++ slotBits s.sound .buzzA ++ slotBits s.sound .buzzB ++ 0#4 : BitVec 40)) ∧
      (g = 12 → d = (slotBits s.sound .chime ++ slotBits s.sound .hazard ++
        optBits 4 (s.sound.testSlot.map fun x => x.1.number) ++ BitVec.ofBool s.sound.departurePending ++
        BitVec.ofBool s.sound.waving ++ 0#9 : BitVec 40)) ∧
      (g = 13 → d = (levelBits s.sound .hornA ++ levelBits s.sound .hornB ++ levelBits s.sound .bellA ++ levelBits s.sound .bellB ++
        levelBits s.sound .buzzA ++ levelBits s.sound .buzzB ++ levelBits s.sound .chime ++ levelBits s.sound .hazard ++
        0#24 : BitVec 40)))

/-- The data of part q of index 0 (R142): the current stop record, then the section state (1 for AT_STOP) and the DCL level (1 for
high, log 25); none beyond part 3. -/
def recordPart (s : State) : Nat → Option (BitVec 40)
  | 0 => some (BitVec.ofBool s.stop.record.first.isSome ++ s.stop.record.doors.reverse ++ BitVec.ofBool s.stop.record.wheelchair ++
      optBits 2 (s.stop.record.first.map fun f => f.source.code) ++ 0#29)
  | 1 => some (optBits 32 (s.stop.record.first.map FirstRequest.mark) ++ 0#7)
  | 2 => some (optBits 32 (s.stop.record.first.map FirstRequest.time) ++ 0#7)
  | 3 => some (BitVec.ofNat 8 s.stop.record.presses ++ BitVec.ofBool s.stop.record.chime ++
      BitVec.ofBool (decide (s.stop.sect = .atStop)) ++ BitVec.ofBool s.lines.dcl ++ 0#29)
  | _ => none

/-- The data of part q of a history entry (R141, R142, R185): each part begins with the low 8 bits of the end mark, and part 0
then shows the presence bit; none beyond part 5. -/
def historyPart (h : HistoryEntry) : Nat → Option (BitVec 40)
  | 0 => some (BitVec.ofNat 8 h.endMark ++ 1#1 ++ h.doors.reverse ++ BitVec.ofBool h.wheelchair ++ BitVec.ofNat 2 h.first.source.code ++
      0#22)
  | 1 => some (BitVec.ofNat 8 h.endMark ++ BitVec.ofNat 32 h.first.mark)
  | 2 => some (BitVec.ofNat 8 h.endMark ++ BitVec.ofNat 32 h.first.time)
  | 3 => some (BitVec.ofNat 8 h.endMark ++ BitVec.ofNat 8 h.presses ++ BitVec.ofBool h.chime ++ 0#23)
  | 4 => some (BitVec.ofNat 8 h.endMark ++ BitVec.ofNat 32 h.endMark)
  | 5 => some (BitVec.ofNat 8 h.endMark ++ BitVec.ofNat 32 h.endTime)
  | _ => none

/-- The answer to a read: DONE with its data, or OUT_OF_RANGE where there is none. -/
def partReply (s : State) (p : Port) (code : Byte) : Option (BitVec 40) → State
  | some d => s.reply p (doneReply code d)
  | none => s.refuse p code .outOfRange

/-- A touch assignment in 5 bits (R185). -/
def assignmentBits : Assignment → BitVec 5
  | .disabled => 0
  | .door d => 1#2 ++ BitVec.ofNat 3 d
  | .wheelchair d => 2#2 ++ BitVec.ofNat 3 d

/-- The data of the first or the later part of a channel's TOUCH READ (R143, R185; the parts are log 23, the rounding of the time
log 40). -/
def touchPart (s : State) (k : Fin 16) : Bool → BitVec 40
  | false =>
    let c := cell s.stop.chans k
    (assignmentBits (cell s.settings.touch k) ++ BitVec.ofNat 3 c.state.code ++ optBits 12 c.count ++
      optBits 12 (c.baseline.map fun b => b / 16) ++ 0#6)
  | true =>
    let c := cell s.stop.chans k
    let d : BitVec 14 := match c.baseline, c.count with
      | some b, some n => 1#1 ++ BitVec.ofInt 13 ((b / 16 : Nat) - (n : Int))
      | _, _ => 0
    (d ++ BitVec.ofNat 2 c.confirm ++ BitVec.ofNat 2 c.voidRun ++ optBits 6 c.rangeRun ++
      optBits 8 (c.pressedAt.map fun t => min 255 ((s.now - s.epoch - t) / 100)) ++ 0#6)

/-- R177: GET STATUS, in every group. R180: RESET CAUSE answers DONE with the three kinds and the latest, and changes nothing.
R135, R141, R142: GET STOP RECORD changes only the port's reply and answers every part of the record and of a history entry; an
absent entry is all zero, whatever the part (log 22), an index above 8 or a part beyond the last OUT_OF_RANGE. R143: TOUCH READ
answers a channel 0 to 15 and changes nothing else; its data exceed a reply, and bit 0 of byte 2 asks for the first or the later
of two parts (log 23). The coding of the fields is the model's (logs 21, 25, 26), as is the rounding down of the time since the
press (log 40). -/
def Obligations.StatusReadsAnswered : Prop :=
   statusAnswered ∧
   (∀ s : State, Taking .V s →
      exec (.resetCause .V) s =
        .next (s.reply .V (doneReply 0x70 (BitVec.ofBool (hasFlag s.supply.causes 0) ++ BitVec.ofBool (hasFlag s.supply.causes 1) ++
          BitVec.ofBool (hasFlag s.supply.causes 2) ++ BitVec.ofNat 2 s.supply.latest.idx ++ 0#35 : BitVec 40)))) ∧
   ((∀ (s : State) (p : Port) (x q : BitVec 8), Taking p s →
      (8 < x.toNat → exec (.getStopRecord p x q) s = .next (s.refuse p 0x32 .outOfRange)) ∧
      (1 ≤ x.toNat → x.toNat ≤ 8 → s.stop.history.length < x.toNat →
        exec (.getStopRecord p x q) s = .next (s.reply p (doneReply 0x32 0))) ∧
      (x = 0 → exec (.getStopRecord p x q) s = .next (partReply s p 0x32 (recordPart s q.toNat))) ∧
      (∀ h, s.stop.history[x.toNat - 1]? = some h → 1 ≤ x.toNat → x.toNat ≤ 8 →
        exec (.getStopRecord p x q) s = .next (partReply s p 0x32 (historyPart h q.toNat)))) ∧
    ∀ (s : State) (x : BitVec 8) (later : Bool), Taking .V s →
      (15 < x.toNat → exec (.touchRead .V ⟨x, later⟩) s = .next (s.refuse .V 0x33 .outOfRange)) ∧
      (∀ k : Fin 16, x.toNat = k.val →
        exec (.touchRead .V ⟨x, later⟩) s = .next (s.reply .V (doneReply 0x33 (touchPart s k later)))))

/-! ### Junction requests (10) -/

/-- The mark d metres after a request mark, within the odometer's range (R152). -/
def markAfter (request d : Nat) : Nat := min (request + d * 1000) 4294967295

/-- JUNCT after a beacon that passed its check: loop presence set, the lapse timer 200 ms from now (R150). -/
def heard (s : State) : JunctRec := { s.junct with presence := true, lapseAt := some (s.now + 200) }

/-- R150, R153, R164: a REQUEST beacon sets loop presence; outside HELD with a direction, and for a junction with a live
transaction, it does nothing more; an unknown junction tells JUNCTION_UNKNOWN; a full list tells JUNCTION_OVERFLOW and sets the
overflow caution. R151, R152, R154, R155: a transaction is created: its route from the pending override, the plan's head or the
default; a new sequence, REQUESTING, 400 ms, the marks, a request telegram; the notices of its choice. R151, 13.3: the bytes of a
request and of a cancel telegram. -/
def Obligations.BeaconsCreateTransactions : Prop :=
   (∀ (s : State) (id : BitVec 16), Running s → 1 ≤ id.toNat → id.toNat ≤ 4095 →
      let j := id.toNat
      let idle := s.auth.isHeld = false ∨ s.auth.direction = .neutral
      (idle ∨ (s.junct.live j).isSome = true → exec (.requestBeacon id) s = .next { s with junct := heard s }) ∧
      (¬idle → s.junct.live j = none → s.junct.entry j = none →
        ∃ t, exec (.requestBeacon id) s = .next t ∧ t.junct = heard s ∧
          Notified s t (fun p => toldIf true .junctionUnknown s.auth p) ∧ { t with ports := s.ports, junct := s.junct } = s) ∧
      (∀ e, ¬idle → s.junct.live j = none → s.junct.entry j = some e → 4 ≤ s.junct.list.length →
        ∃ t, exec (.requestBeacon id) s = .next t ∧ t.junct = { heard s with overflow := true } ∧
          t.caution = true ∧ Notified s t (fun p => toldIf true .junctionOverflow s.auth p) ∧
          { t with ports := s.ports, junct := s.junct } = s)) ∧
   (∀ (s : State) (id : BitVec 16) (e : Entry), Running s → 1 ≤ id.toNat → id.toNat ≤ 4095 → s.auth.isHeld = true →
      s.auth.direction ≠ .neutral → s.junct.live id.toNat = none → s.junct.entry id.toNat = some e → s.junct.list.length < 4 →
      let j := s.junct
      let head := j.plan.head?.any fun q => decide (q.id = e.id)
      let uses := j.pendingOverride.any fun r => e.override && decide (r ≤ e.routes)
      let route := if uses then j.pendingOverride.getD 0 else if head then (j.plan.head?.map PlanEntry.route).getD 0 else e.defaultRoute
      let source := if uses then RouteSource.override else if head then .plan else .default
      let x : Transaction :=
        { id := e.id, route := route, source := source, seq := j.seq + 1, state := .requesting, tries := 1
          timer := some (s.now + 400), requestMark := s.wheel.odometer
          cautionMark := markAfter s.wheel.odometer (e.points - s.settings.cautionLead)
          clearMark := markAfter s.wheel.odometer (e.points + e.clear), last := none }
      ∃ t, exec (.requestBeacon id) s = .next t ∧
        t.junct = { heard s with
          list := j.list ++ [x], plan := if head then j.plan.tail else j.plan, pendingOverride := none, seq := j.seq + 1
          outbox := j.outbox ++ [.request e.id route s.settings.tram s.settings.run s.auth.vdir (j.seq + 1)] } ∧
        Notified s t (fun p => toldIf true .junctionChanged s.auth p |||
          toldIf (j.pendingOverride.isSome && !uses) .overrideIgnored s.auth p |||
          toldIf (!uses && !head && !j.plan.isEmpty) .planMismatch s.auth p) ∧
        { t with ports := s.ports, junct := s.junct } = s) ∧
   ∀ (id route tram run : Nat) (dir : VDir) (seq : BitVec 3), id ≤ 4095 → route ≤ 4 → tram ≤ 9999 → run ≤ 999 →
      let two (x : Nat) : List Byte := [BitVec.ofNat 8 (x / 256), BitVec.ofNat 8 x]
      let request : List Byte := [0x10] ++ two id ++ [BitVec.ofNat 8 route] ++ two tram ++ two run ++
        [BitVec.ofNat 8 (64 * dir.code + seq.toNat)]
      let cancel : List Byte := [0x11] ++ two id ++ two tram ++ two run ++ [BitVec.ofNat 8 seq.toNat]
      (Telegram.request id route tram run dir seq).bytes = request ++ two (crc16 request).toNat ∧
        (Telegram.cancel id tram run seq).bytes = cancel ++ two (crc16 cancel).toNat

/-- The state of a transaction after a report (R156). -/
def stateAfter (x : Transaction) (r : ReportResult) (routeSet : Nat) : TransState :=
  match r with
  | .setLocked => if routeSet = x.route then .set else .wrongRoute
  | .moving => .requesting
  | _ => .refused

/-- The alert and the notice of a transaction's change of state (R160): JUNCTION_CHANGED, and P4 on the holder's buzzer at a
change into REFUSED, WRONG_ROUTE or UNCONFIRMED. -/
def changeTold (s t : State) (was becomes : TransState) : Prop :=
  t.sound =
      (match s.auth with
        | .held x _ =>
          if was ≠ becomes ∧ becomes ∈ [TransState.refused, .wrongRoute, .unconfirmed] then
            s.sound.oneShot t.now (buzzOf x) 4 .junct
          else s.sound
        | _ => s.sound) ∧
    Notified s t (fun p => toldIf (decide (was ≠ becomes)) .junctionChanged s.auth p)

/-- R156, R160: a report is discarded without loop presence, for another tram, for no live transaction of its id and sequence, and
for one that is SET; otherwise it becomes the last result and gives the state and the timer. R150, R159, R160: a CONFIRM beacon
sets loop presence, and makes SET a live transaction that is not SET when it reports locked, not occupied, and the transaction's
route; otherwise no transaction changes. A telegram that fails its check changes nothing (R150). R187, 13.3: which bytes are read
as each of the three telegrams, and that whatever else arrives is dropped: another type or length, a wrong check, an id, a result
or a route set out of its range. That a telegram of type 0x10 or 0x11, the tram's own kinds, is dropped is the model's choice (log
54). -/
def Obligations.ReportsAndConfirmsTaken : Prop :=
   (∀ (s : State) (id tram : BitVec 16) (seq : BitVec 3) (r : ReportResult) (route : BitVec 8), Running s → 1 ≤ id.toNat →
      id.toNat ≤ 4095 → route.toNat ≤ 4 →
      (s.junct.presence = false ∨ tram.toNat ≠ s.settings.tram ∨ s.junct.live id.toNat = none →
        exec (.report id tram seq r route) s = .next s) ∧
      ∀ x, s.junct.live id.toNat = some x →
        (x.seq ≠ seq ∨ x.state = .set → exec (.report id tram seq r route) s = .next s) ∧
        (s.junct.presence = true → tram.toNat = s.settings.tram → x.seq = seq → x.state ≠ .set →
          let y : Transaction :=
            { x with
              last := some r, state := stateAfter x r route.toNat
              timer := if r = .moving then some (s.now + 1500) else none }
          ∃ t, exec (.report id tram seq r route) s = .next t ∧
            t.junct = { s.junct with list := s.junct.list.map fun z => if z.id = x.id then y else z } ∧
            changeTold s t x.state y.state ∧ { t with ports := s.ports, junct := s.junct, sound := s.sound } = s)) ∧
   ((∀ (s : State) (id : BitVec 16) (route : BitVec 3) (locked occupied : Bool), Running s → 1 ≤ id.toNat → id.toNat ≤ 4095 →
      route.toNat ≤ 4 →
      let confirms (x : Transaction) : Prop := x.state ≠ .set ∧ locked = true ∧ occupied = false ∧ route.toNat = x.route
      ((∀ x, s.junct.live id.toNat = some x → ¬confirms x) →
        exec (.confirmBeacon id route locked occupied) s = .next { s with junct := heard s }) ∧
      ∀ x, s.junct.live id.toNat = some x → confirms x →
        ∃ t, exec (.confirmBeacon id route locked occupied) s = .next t ∧
          t.junct = { heard s with
            list := s.junct.list.map fun z => if z.id = x.id then { x with state := .set, timer := none } else z } ∧
          changeTold s t x.state .set ∧ { t with ports := s.ports, junct := s.junct } = s) ∧
    ∀ s : State, exec .telegramDropped s = .next s) ∧
   (∀ (id : BitVec 16) (x : Byte), 1 ≤ id.toNat → id.toNat ≤ 4095 →
      let beacon : List Byte := [0x01] ++ bytesOf16 id
      let confirm : List Byte := [0x02] ++ bytesOf16 id ++ [x]
      readTelegram (beacon ++ bytesOf16 (crc16 beacon)) = .requestBeacon id ∧
      (x.toNat / 32 ≤ 4 → readTelegram (confirm ++ bytesOf16 (crc16 confirm)) =
        .confirmBeacon id (x.extractLsb' 5 3) (x.getLsbD 4) (x.getLsbD 3)) ∧
      ∀ (tram : BitVec 16) (route : Byte) (res : ReportResult),
        let report : List Byte := [0x03] ++ bytesOf16 id ++ bytesOf16 tram ++ [x, route]
        x.toNat / 4 % 8 = resultCode res + 1 → route.toNat ≤ 4 →
          readTelegram (report ++ bytesOf16 (crc16 report)) = .report id tram (x.extractLsb' 5 3) res route) ∧
   ∀ bytes : List Byte, readTelegram bytes ≠ .telegramDropped →
      let body := bytes.take (bytes.length - 2)
      bytes.drop (bytes.length - 2) = bytesOf16 (crc16 body) ∧ wellFormed (readTelegram bytes) = true ∧
        (body.head?, body.length) ∈ ([(some 0x01, 3), (some 0x02, 4), (some 0x03, 7)] : List (Option Byte × Nat)) ∧
        (∀ id, readTelegram bytes = .requestBeacon id → body = [0x01] ++ bytesOf16 id) ∧
        (body.head? = some 0x03 → ∀ x ∈ body[5]?, 1 ≤ x.toNat / 4 % 8 ∧ x.toNat / 4 % 8 ≤ 5)

/-- R150, R157, R158, R160: a report timer's expiry resends with the same sequence while tries are below 3 on the loop, else
leaves UNCONFIRMED; the lapse of loop presence leaves every REQUESTING transaction UNCONFIRMED. That an expiry carries the clock
to its due time is the model's choice (log 2). -/
def Obligations.JunctionTimersExpire : Prop :=
  (∀ (s : State) (id : BitVec 16) (x : Transaction) (due : Nat), Running s → s.junct.live id.toNat = some x → x.timer = some due →
    let at_ := max s.now due
    let resends := x.tries < 3 ∧ s.junct.presence = true
    let y : Transaction := if resends then { x with tries := x.tries + 1, timer := some (at_ + 400) }
      else { x with state := .unconfirmed, timer := none }
    ∃ t, exec (.reportTimerExpiry id) s = .next t ∧ t.now = at_ ∧
      t.junct = { s.junct with
        list := s.junct.list.map fun z => if z.id = x.id then y else z
        outbox := if resends then
            s.junct.outbox ++ [.request x.id x.route s.settings.tram s.settings.run s.auth.vdir x.seq]
          else s.junct.outbox } ∧
      changeTold s t x.state y.state ∧ { t with now := s.now, ports := s.ports, junct := s.junct, sound := s.sound } = s) ∧
  (∀ (s : State) (due : Nat), Running s → s.junct.presence = true → s.junct.lapseAt = some due →
    let hit := s.junct.list.any fun x => decide (x.state = .requesting)
    ∃ t, exec .loopPresenceLapse s = .next t ∧ t.now = max s.now due ∧
      t.junct = { s.junct with
        presence := false, lapseAt := none
        list := s.junct.list.map fun x =>
          if x.state = .requesting then { x with state := .unconfirmed, timer := none } else x } ∧
      changeTold s t (if hit then .requesting else .unconfirmed) .unconfirmed ∧
      { t with now := s.now, ports := s.ports, junct := s.junct, sound := s.sound } = s) ∧
  ∀ s : State, Running s → s.junct.presence = false → exec .loopPresenceLapse s = .next s

/-- JUNCT and the notices after a re-request of a transaction (R161, R162). -/
def reRequested (s t : State) (x : Transaction) (route : Nat) (source : RouteSource) : Prop :=
  let y : Transaction :=
    { x with
      route := route, source := source, seq := s.junct.seq + 1, tries := 1, state := .requesting, timer := some (s.now + 400) }
  t.junct = { s.junct with
      list := s.junct.list.map (fun z => if z.id = x.id then y else z), seq := s.junct.seq + 1
      outbox := s.junct.outbox ++ [.request x.id route s.settings.tram s.settings.run s.auth.vdir (s.junct.seq + 1)] } ∧
    Notified s t (fun p => toldIf (decide (x.state ≠ .requesting)) .junctionChanged s.auth p) ∧
    { t with ports := s.ports, junct := s.junct } = s

/-- R161: ROUTE OVERRIDE by its route, loop presence, the newest transaction and its entry. R162: JUNCTION REPEAT in the order of
its tests; taken, the newest transaction is re-requested with its route and source. -/
def Obligations.JunctionReRequests : Prop :=
   (∀ (s : State) (x : Cab) (d : Direction) (r : BitVec 8), Taking (portOf x) s → s.auth = .held x d →
      (r = 0 ∨ 4 < r.toNat → exec (.routeOverride (portOf x) r) s = .next (s.refuse (portOf x) 0x20 .outOfRange)) ∧
      (1 ≤ r.toNat → r.toNat ≤ 4 →
        (s.junct.presence = false ∨ s.junct.list = [] ∨ (s.junct.list.getLast?.map Transaction.state) = some .set →
          exec (.routeOverride (portOf x) r) s =
            .next ({ s with junct := { s.junct with pendingOverride := some r.toNat } }.reply (portOf x) (doneReply 0x20 0))) ∧
        ∀ y e, s.junct.presence = true → s.junct.list.getLast? = some y → y.state ≠ .set → s.junct.entry y.id = some e →
          if e.override = false then exec (.routeOverride (portOf x) r) s = .next (s.refuse (portOf x) 0x20 .conflict)
          else if e.routes < r.toNat then exec (.routeOverride (portOf x) r) s = .next (s.refuse (portOf x) 0x20 .badRoute)
          else ∃ t, exec (.routeOverride (portOf x) r) s = .next t ∧
            t.replyOf (portOf x) = { status := .accepted, code := 0x20, data := 0 } ∧
            reRequested (s.reply (portOf x) { status := .accepted, code := 0x20, data := 0 }) t y r.toNat .override)) ∧
   (∀ (s : State) (x : Cab) (d : Direction), Taking (portOf x) s → s.auth = .held x d →
      if s.junct.presence = false then exec (.junctionRepeat (portOf x)) s = .next (s.refuse (portOf x) 0x21 .notOnLoop)
      else
        match s.junct.list.getLast? with
        | none => exec (.junctionRepeat (portOf x)) s = .next (s.refuse (portOf x) 0x21 .notReady)
        | some y =>
          if y.state = .set then exec (.junctionRepeat (portOf x)) s = .next (s.refuse (portOf x) 0x21 .already)
          else ∃ t, exec (.junctionRepeat (portOf x)) s = .next t ∧
            t.replyOf (portOf x) = { status := .accepted, code := 0x21, data := 0 } ∧
            reRequested (s.reply (portOf x) { status := .accepted, code := 0x21, data := 0 }) t y y.route y.source)

/-- R144, R145: TABLE WRITE in the order of its tests; taken, the entry is stored clamped, replaces any of its id, and keeps the
table's order. The reply carries the entry as stored and the number of entries the table now holds; that routes and default route
stand in it less one, in two bits each, is the model's choice (log 23). -/
def Obligations.TableWriteTaken : Prop :=
  ∀ (s : State) (f : EntryFrame), Taking .V s → JunctInv s →
    let id := f.id.toNat
    let routes := f.routes.toNat
    let e : Entry := { id := id, routes := routes, defaultRoute := f.defaultRoute.toNat, override := f.override
                       points := max 10 (min 400 f.points.toNat), clear := max 5 (min 60 f.clear.toNat) }
    if id = 0 ∨ routes = 0 ∨ 4 < routes ∨ f.defaultRoute = 0 ∨ routes < f.defaultRoute.toNat then
      exec (.tableWrite .V f) s = .next (s.refuse .V 0x60 .outOfRange)
    else if (s.junct.live id).isSome then exec (.tableWrite .V f) s = .next (s.refuse .V 0x60 .inUse)
    else if ∃ q ∈ s.junct.plan, q.id = id ∧ routes < q.route then exec (.tableWrite .V f) s = .next (s.refuse .V 0x60 .conflict)
    else if (∀ x ∈ s.junct.table, x.id ≠ id) ∧ s.junct.table.length = 96 then
      exec (.tableWrite .V f) s = .next (s.refuse .V 0x60 .full)
    else
      ∃ t, exec (.tableWrite .V f) s = .next t ∧
        (t.replyOf .V).status = (if e.points = f.points.toNat ∧ e.clear = f.clear.toNat then .done else .doneClamped) ∧
        (t.replyOf .V).data =
          (BitVec.ofNat 12 e.id ++ BitVec.ofNat 2 (e.routes - 1) ++ BitVec.ofNat 2 (e.defaultRoute - 1) ++ BitVec.ofBool e.override ++
            BitVec.ofNat 9 e.points ++ BitVec.ofNat 6 e.clear ++ BitVec.ofNat 7 t.junct.table.length ++ 0#1 : BitVec 40) ∧
        (∀ x, x ∈ t.junct.table ↔ x = e ∨ (x ∈ s.junct.table ∧ x.id ≠ id)) ∧
        t.junct.table.Pairwise (fun a b => a.id < b.id) ∧ t.junct.entry id = some e ∧
        { t with junct := { t.junct with table := s.junct.table } } = s.reply .V (t.replyOf .V) ∧ (t.replyOf .V).code = 0x60

/-- R146, R147: TABLE DELETE in the order of its tests; TABLE READ by position and part, an absent entry all zero in either part
(log 22), part 1 of a present entry refused, as it holds no field (R185; log 24); TABLE SIGNATURE's count and CRC. The reads
change only the reply. R148, R149: PLAN APPEND in the order of its tests, answered with the new length; PLAN CLEAR; PLAN READ with
presence, id, route and length. R152, R163, R167, R185: GET JUNCTION: JUNCT's own fields at index 0 whatever the part (log 42),
part 1 of a transaction with the whole metres to its marks; an absent transaction is all zero (log 22); it changes only the reply.
The caution ceiling stands for a transaction not SET whose caution mark the odometer has reached, or for the overflow caution. The
8 bits of part 0's time left, 0 when no timer runs, are the model's (log 49), as is the presence bit of the last result (log 21).
-/
def Obligations.JunctionRecordsAnswered : Prop :=
   (∀ s : State, Taking .V s → JunctInv s →
      (∀ id : BitVec 16,
        if ∀ e ∈ s.junct.table, e.id ≠ id.toNat then exec (.tableDelete .V id) s = .next (s.refuse .V 0x61 .unknownJunction)
        else if (s.junct.live id.toNat).isSome then exec (.tableDelete .V id) s = .next (s.refuse .V 0x61 .inUse)
        else if ∃ q ∈ s.junct.plan, q.id = id.toNat then exec (.tableDelete .V id) s = .next (s.refuse .V 0x61 .conflict)
        else exec (.tableDelete .V id) s =
          .next ({ s with junct := { s.junct with table := s.junct.table.filter fun e => decide (e.id ≠ id.toNat) } }.reply .V
            (doneReply 0x61 0))) ∧
      (∀ x q : BitVec 8,
        (95 < x.toNat ∨ 1 < q.toNat → exec (.tableRead .V x q) s = .next (s.refuse .V 0x62 .outOfRange)) ∧
        (x.toNat ≤ 95 → q = 0 → exec (.tableRead .V x q) s = .next (s.reply .V (doneReply 0x62
          (match s.junct.table[x.toNat]? with
            | none => 0
            | some e => (BitVec.ofNat 12 e.id ++ BitVec.ofNat 3 e.routes ++ BitVec.ofNat 3 e.defaultRoute ++ BitVec.ofBool e.override ++
              BitVec.ofNat 9 e.points ++ BitVec.ofNat 6 e.clear ++ 0#6 : BitVec 40))))) ∧
        (x.toNat ≤ 95 → q = 1 → exec (.tableRead .V x q) s = .next (
          if x.toNat < s.junct.table.length then s.refuse .V 0x62 .outOfRange else s.reply .V (doneReply 0x62 0)))) ∧
      exec (.tableSignature .V) s = .next (s.reply .V (doneReply 0x63
        (BitVec.ofNat 7 s.junct.table.length ++ crc16 (s.junct.table.flatMap Entry.bytes) ++ 0#17 : BitVec 40)))) ∧
   (∀ s : State, Taking .V s → JunctInv s →
      (∀ (id : BitVec 16) (r : BitVec 8),
        if s.junct.plan.length = 32 then exec (.planAppend .V id r) s = .next (s.refuse .V 0x64 .full)
        else
          match s.junct.entry id.toNat with
          | none => exec (.planAppend .V id r) s = .next (s.refuse .V 0x64 .unknownJunction)
          | some e =>
            if r = 0 ∨ e.routes < r.toNat then exec (.planAppend .V id r) s = .next (s.refuse .V 0x64 .badRoute)
            else exec (.planAppend .V id r) s =
              .next (State.reply .V (doneReply 0x64 (BitVec.ofNat 6 (s.junct.plan.length + 1) ++ 0#34 : BitVec 40))
                { s with junct := { s.junct with plan := s.junct.plan ++ [{ id := id.toNat, route := r.toNat }] } })) ∧
      exec (.planClear .V) s = .next ({ s with junct := { s.junct with plan := [] } }.reply .V (doneReply 0x65 0)) ∧
      ∀ x : BitVec 8,
        (31 < x.toNat → exec (.planRead .V x) s = .next (s.refuse .V 0x66 .outOfRange)) ∧
        (x.toNat ≤ 31 → exec (.planRead .V x) s = .next (s.reply .V (doneReply 0x66
          (BitVec.ofBool (s.junct.plan[x.toNat]?).isSome ++ BitVec.ofNat 12 ((s.junct.plan[x.toNat]?.map PlanEntry.id).getD 0) ++
            BitVec.ofNat 3 ((s.junct.plan[x.toNat]?.map PlanEntry.route).getD 0) ++ BitVec.ofNat 6 s.junct.plan.length ++
            0#18 : BitVec 40))))) ∧
   ((∀ (s : State) (p : Port) (x q : BitVec 8), Taking p s →
      (4 < x.toNat ∨ (x ≠ 0 ∧ 1 < q.toNat) → exec (.getJunction p x q) s = .next (s.refuse p 0x23 .outOfRange)) ∧
      (x = 0 → exec (.getJunction p x q) s = .next (s.reply p (doneReply 0x23
        (BitVec.ofBool s.junct.presence ++ BitVec.ofBool s.caution ++ BitVec.ofBool s.junct.overflow ++
          BitVec.ofBool s.junct.pendingOverride.isSome ++ BitVec.ofNat 3 (s.junct.pendingOverride.getD 0) ++
          BitVec.ofNat 3 s.junct.list.length ++ BitVec.ofNat 6 s.junct.plan.length ++ s.junct.seq ++
          BitVec.ofNat 7 s.junct.table.length ++ 0#14 : BitVec 40)))) ∧
      (1 ≤ x.toNat → x.toNat ≤ 4 → q.toNat ≤ 1 → s.junct.list.length < x.toNat →
        exec (.getJunction p x q) s = .next (s.reply p (doneReply 0x23 0))) ∧
      ∀ y, 1 ≤ x.toNat → x.toNat ≤ 4 → s.junct.list[x.toNat - 1]? = some y →
        (q = 1 → exec (.getJunction p x q) s = .next (s.reply p (doneReply 0x23
          (BitVec.ofNat 12 y.id ++ BitVec.ofNat 9 ((y.cautionMark - s.wheel.odometer) / 1000) ++
            BitVec.ofNat 9 ((y.clearMark - s.wheel.odometer) / 1000) ++ 0#10 : BitVec 40)))) ∧
        (q = 0 → exec (.getJunction p x q) s = .next (s.reply p (doneReply 0x23
          (BitVec.ofNat 12 y.id ++ BitVec.ofNat 3 y.route ++ BitVec.ofNat 2 y.source.code ++ y.seq ++ BitVec.ofNat 3 y.state.code ++
            BitVec.ofNat 2 y.tries ++ optBits 3 (y.last.map resultCode) ++
            BitVec.ofNat 8 ((y.timer.map fun due => (due - s.now + 9) / 10).getD 0) ++ 0#3 : BitVec 40))))) ∧
    ∀ s : State, s.caution = true ↔
      s.junct.overflow = true ∨ ∃ y ∈ s.junct.list, y.state ≠ .set ∧ y.cautionMark ≤ s.wheel.odometer)

/-! ### What every step keeps -/

/-- Everything that always holds, holds at reset. -/
def Obligations.ResetMeetsInvariant : Prop := Inv State.reset

/-- R1, R35, R57, R58, R62, R63, R65, R66, R107: from every state that meets the invariant a step keeps its emergency and
authority parts. -/
def Obligations.StepKeepsEmergencyAndAuthority : Prop :=
  ∀ s t : State, Inv s → step s = .next t → EmergencyInv t ∧ AuthInv t

/-- R19, R23, R24, R26, R28, R29, R31, R33, R35, R43, R46, R47, R49, R50: the ranges of WHEEL's and SHAPER's fields are kept. -/
def Obligations.StepKeepsWheelAndOutput : Prop :=
  ∀ s t : State, Inv s → step s = .next t → OutputInv t ∧ WheelInv t

/-- R110, R111, R116, R120, R121: the switch die, the link's runs and every port's sticky set keep their forms. -/
def Obligations.StepKeepsSwitchesAndFaults : Prop :=
  ∀ s t : State, Inv s → step s = .next t → DieInv t ∧ LinkInv t

/-- R126, R135 to R137, R141: the touch records, the stop record and the history keep their forms. -/
def Obligations.StepKeepsStopRequests : Prop :=
  ∀ s t : State, Inv s → step s = .next t → StopInv t

/-- R144, R145, R148, R150, R152, R161, R164: table, plan and transactions agree and keep their bounds. -/
def Obligations.StepKeepsJunctions : Prop :=
  ∀ s t : State, Inv s → step s = .next t → JunctInv t

/-- R70, R76, R82, R83, R88: the station records and the vigilance record keep their forms. R178, R180 to R183: the settings, the
supply record and the notices keep their forms. -/
def Obligations.StepKeepsLinkVigilanceSettings : Prop :=
   (∀ s t : State, Inv s → step s = .next t → TlinkInv t ∧ VigilInv t) ∧
   (∀ s t : State, Inv s → step s = .next t → SettingsInv t ∧ SupplyInv t)
end

