-- ==== Sys2Proof/Laws/State.lean ====
section
/-! SUPPORT. What each named update leaves as it was: one lemma for each field, true by definition. -/

namespace Sys2Proof.Machine

/-! ### `State.reach` -/

@[simp] theorem State.reach_pending (s : State) (t : Nat) : (s.reach t).pending = s.pending := rfl
@[simp] theorem State.reach_epoch (s : State) (t : Nat) : (s.reach t).epoch = s.epoch := rfl
@[simp] theorem State.reach_raised (s : State) (t : Nat) : (s.reach t).raised = s.raised := rfl
@[simp] theorem State.reach_held (s : State) (t : Nat) : (s.reach t).held = s.held := rfl
@[simp] theorem State.reach_lines (s : State) (t : Nat) : (s.reach t).lines = s.lines := rfl
@[simp] theorem State.reach_ports (s : State) (t : Nat) : (s.reach t).ports = s.ports := rfl
@[simp] theorem State.reach_auth (s : State) (t : Nat) : (s.reach t).auth = s.auth := rfl
@[simp] theorem State.reach_wheel (s : State) (t : Nat) : (s.reach t).wheel = s.wheel := rfl
@[simp] theorem State.reach_shaper (s : State) (t : Nat) : (s.reach t).shaper = s.shaper := rfl
@[simp] theorem State.reach_tlink (s : State) (t : Nat) : (s.reach t).tlink = s.tlink := rfl
@[simp] theorem State.reach_vigil (s : State) (t : Nat) : (s.reach t).vigil = s.vigil := rfl
@[simp] theorem State.reach_sound (s : State) (t : Nat) : (s.reach t).sound = s.sound := rfl
@[simp] theorem State.reach_outbank (s : State) (t : Nat) : (s.reach t).outbank = s.outbank := rfl
@[simp] theorem State.reach_die (s : State) (t : Nat) : (s.reach t).die = s.die := rfl
@[simp] theorem State.reach_stop (s : State) (t : Nat) : (s.reach t).stop = s.stop := rfl
@[simp] theorem State.reach_junct (s : State) (t : Nat) : (s.reach t).junct = s.junct := rfl
@[simp] theorem State.reach_supply (s : State) (t : Nat) : (s.reach t).supply = s.supply := rfl
@[simp] theorem State.reach_settings (s : State) (t : Nat) : (s.reach t).settings = s.settings := rfl

/-! ### `State.raise` -/

@[simp] theorem State.raise_pending (s : State) (k : Notice) : (s.raise k).pending = s.pending := rfl
@[simp] theorem State.raise_now (s : State) (k : Notice) : (s.raise k).now = s.now := rfl
@[simp] theorem State.raise_epoch (s : State) (k : Notice) : (s.raise k).epoch = s.epoch := rfl
@[simp] theorem State.raise_held (s : State) (k : Notice) : (s.raise k).held = s.held := rfl
@[simp] theorem State.raise_lines (s : State) (k : Notice) : (s.raise k).lines = s.lines := rfl
@[simp] theorem State.raise_ports (s : State) (k : Notice) : (s.raise k).ports = s.ports := rfl
@[simp] theorem State.raise_auth (s : State) (k : Notice) : (s.raise k).auth = s.auth := rfl
@[simp] theorem State.raise_wheel (s : State) (k : Notice) : (s.raise k).wheel = s.wheel := rfl
@[simp] theorem State.raise_shaper (s : State) (k : Notice) : (s.raise k).shaper = s.shaper := rfl
@[simp] theorem State.raise_tlink (s : State) (k : Notice) : (s.raise k).tlink = s.tlink := rfl
@[simp] theorem State.raise_vigil (s : State) (k : Notice) : (s.raise k).vigil = s.vigil := rfl
@[simp] theorem State.raise_sound (s : State) (k : Notice) : (s.raise k).sound = s.sound := rfl
@[simp] theorem State.raise_outbank (s : State) (k : Notice) : (s.raise k).outbank = s.outbank := rfl
@[simp] theorem State.raise_die (s : State) (k : Notice) : (s.raise k).die = s.die := rfl
@[simp] theorem State.raise_stop (s : State) (k : Notice) : (s.raise k).stop = s.stop := rfl
@[simp] theorem State.raise_junct (s : State) (k : Notice) : (s.raise k).junct = s.junct := rfl
@[simp] theorem State.raise_supply (s : State) (k : Notice) : (s.raise k).supply = s.supply := rfl
@[simp] theorem State.raise_settings (s : State) (k : Notice) : (s.raise k).settings = s.settings := rfl

/-! ### `State.raiseIf` -/

@[simp] theorem State.raiseIf_pending (s : State) (b : Bool) (k : Notice) : (s.raiseIf b k).pending = s.pending := rfl
@[simp] theorem State.raiseIf_now (s : State) (b : Bool) (k : Notice) : (s.raiseIf b k).now = s.now := rfl
@[simp] theorem State.raiseIf_epoch (s : State) (b : Bool) (k : Notice) : (s.raiseIf b k).epoch = s.epoch := rfl
@[simp] theorem State.raiseIf_held (s : State) (b : Bool) (k : Notice) : (s.raiseIf b k).held = s.held := rfl
@[simp] theorem State.raiseIf_lines (s : State) (b : Bool) (k : Notice) : (s.raiseIf b k).lines = s.lines := rfl
@[simp] theorem State.raiseIf_ports (s : State) (b : Bool) (k : Notice) : (s.raiseIf b k).ports = s.ports := rfl
@[simp] theorem State.raiseIf_auth (s : State) (b : Bool) (k : Notice) : (s.raiseIf b k).auth = s.auth := rfl
@[simp] theorem State.raiseIf_wheel (s : State) (b : Bool) (k : Notice) : (s.raiseIf b k).wheel = s.wheel := rfl
@[simp] theorem State.raiseIf_shaper (s : State) (b : Bool) (k : Notice) : (s.raiseIf b k).shaper = s.shaper := rfl
@[simp] theorem State.raiseIf_tlink (s : State) (b : Bool) (k : Notice) : (s.raiseIf b k).tlink = s.tlink := rfl
@[simp] theorem State.raiseIf_vigil (s : State) (b : Bool) (k : Notice) : (s.raiseIf b k).vigil = s.vigil := rfl
@[simp] theorem State.raiseIf_sound (s : State) (b : Bool) (k : Notice) : (s.raiseIf b k).sound = s.sound := rfl
@[simp] theorem State.raiseIf_outbank (s : State) (b : Bool) (k : Notice) : (s.raiseIf b k).outbank = s.outbank := rfl
@[simp] theorem State.raiseIf_die (s : State) (b : Bool) (k : Notice) : (s.raiseIf b k).die = s.die := rfl
@[simp] theorem State.raiseIf_stop (s : State) (b : Bool) (k : Notice) : (s.raiseIf b k).stop = s.stop := rfl
@[simp] theorem State.raiseIf_junct (s : State) (b : Bool) (k : Notice) : (s.raiseIf b k).junct = s.junct := rfl
@[simp] theorem State.raiseIf_supply (s : State) (b : Bool) (k : Notice) : (s.raiseIf b k).supply = s.supply := rfl
@[simp] theorem State.raiseIf_settings (s : State) (b : Bool) (k : Notice) : (s.raiseIf b k).settings = s.settings := rfl

/-! ### `State.deliver` -/

@[simp] theorem State.deliver_pending (s : State) : (s.deliver).pending = s.pending := rfl
@[simp] theorem State.deliver_now (s : State) : (s.deliver).now = s.now := rfl
@[simp] theorem State.deliver_epoch (s : State) : (s.deliver).epoch = s.epoch := rfl
@[simp] theorem State.deliver_held (s : State) : (s.deliver).held = s.held := rfl
@[simp] theorem State.deliver_lines (s : State) : (s.deliver).lines = s.lines := rfl
@[simp] theorem State.deliver_auth (s : State) : (s.deliver).auth = s.auth := rfl
@[simp] theorem State.deliver_wheel (s : State) : (s.deliver).wheel = s.wheel := rfl
@[simp] theorem State.deliver_shaper (s : State) : (s.deliver).shaper = s.shaper := rfl
@[simp] theorem State.deliver_tlink (s : State) : (s.deliver).tlink = s.tlink := rfl
@[simp] theorem State.deliver_vigil (s : State) : (s.deliver).vigil = s.vigil := rfl
@[simp] theorem State.deliver_sound (s : State) : (s.deliver).sound = s.sound := rfl
@[simp] theorem State.deliver_outbank (s : State) : (s.deliver).outbank = s.outbank := rfl
@[simp] theorem State.deliver_die (s : State) : (s.deliver).die = s.die := rfl
@[simp] theorem State.deliver_stop (s : State) : (s.deliver).stop = s.stop := rfl
@[simp] theorem State.deliver_junct (s : State) : (s.deliver).junct = s.junct := rfl
@[simp] theorem State.deliver_supply (s : State) : (s.deliver).supply = s.supply := rfl
@[simp] theorem State.deliver_settings (s : State) : (s.deliver).settings = s.settings := rfl

/-! ### `State.reply` -/

@[simp] theorem State.reply_pending (s : State) (p : Port) (r : Reply) : (s.reply p r).pending = s.pending := rfl
@[simp] theorem State.reply_now (s : State) (p : Port) (r : Reply) : (s.reply p r).now = s.now := rfl
@[simp] theorem State.reply_epoch (s : State) (p : Port) (r : Reply) : (s.reply p r).epoch = s.epoch := rfl
@[simp] theorem State.reply_raised (s : State) (p : Port) (r : Reply) : (s.reply p r).raised = s.raised := rfl
@[simp] theorem State.reply_held (s : State) (p : Port) (r : Reply) : (s.reply p r).held = s.held := rfl
@[simp] theorem State.reply_lines (s : State) (p : Port) (r : Reply) : (s.reply p r).lines = s.lines := rfl
@[simp] theorem State.reply_auth (s : State) (p : Port) (r : Reply) : (s.reply p r).auth = s.auth := rfl
@[simp] theorem State.reply_wheel (s : State) (p : Port) (r : Reply) : (s.reply p r).wheel = s.wheel := rfl
@[simp] theorem State.reply_shaper (s : State) (p : Port) (r : Reply) : (s.reply p r).shaper = s.shaper := rfl
@[simp] theorem State.reply_tlink (s : State) (p : Port) (r : Reply) : (s.reply p r).tlink = s.tlink := rfl
@[simp] theorem State.reply_vigil (s : State) (p : Port) (r : Reply) : (s.reply p r).vigil = s.vigil := rfl
@[simp] theorem State.reply_sound (s : State) (p : Port) (r : Reply) : (s.reply p r).sound = s.sound := rfl
@[simp] theorem State.reply_outbank (s : State) (p : Port) (r : Reply) : (s.reply p r).outbank = s.outbank := rfl
@[simp] theorem State.reply_die (s : State) (p : Port) (r : Reply) : (s.reply p r).die = s.die := rfl
@[simp] theorem State.reply_stop (s : State) (p : Port) (r : Reply) : (s.reply p r).stop = s.stop := rfl
@[simp] theorem State.reply_junct (s : State) (p : Port) (r : Reply) : (s.reply p r).junct = s.junct := rfl
@[simp] theorem State.reply_supply (s : State) (p : Port) (r : Reply) : (s.reply p r).supply = s.supply := rfl
@[simp] theorem State.reply_settings (s : State) (p : Port) (r : Reply) : (s.reply p r).settings = s.settings := rfl

/-! ### `State.release` -/

@[simp] theorem State.release_pending (s : State) (p : Port) : (s.release p).pending = s.pending := rfl
@[simp] theorem State.release_now (s : State) (p : Port) : (s.release p).now = s.now := rfl
@[simp] theorem State.release_epoch (s : State) (p : Port) : (s.release p).epoch = s.epoch := rfl
@[simp] theorem State.release_raised (s : State) (p : Port) : (s.release p).raised = s.raised := rfl
@[simp] theorem State.release_held (s : State) (p : Port) : (s.release p).held = s.held := rfl
@[simp] theorem State.release_lines (s : State) (p : Port) : (s.release p).lines = s.lines := rfl
@[simp] theorem State.release_auth (s : State) (p : Port) : (s.release p).auth = s.auth := rfl
@[simp] theorem State.release_wheel (s : State) (p : Port) : (s.release p).wheel = s.wheel := rfl
@[simp] theorem State.release_shaper (s : State) (p : Port) : (s.release p).shaper = s.shaper := rfl
@[simp] theorem State.release_tlink (s : State) (p : Port) : (s.release p).tlink = s.tlink := rfl
@[simp] theorem State.release_vigil (s : State) (p : Port) : (s.release p).vigil = s.vigil := rfl
@[simp] theorem State.release_sound (s : State) (p : Port) : (s.release p).sound = s.sound := rfl
@[simp] theorem State.release_outbank (s : State) (p : Port) : (s.release p).outbank = s.outbank := rfl
@[simp] theorem State.release_die (s : State) (p : Port) : (s.release p).die = s.die := rfl
@[simp] theorem State.release_stop (s : State) (p : Port) : (s.release p).stop = s.stop := rfl
@[simp] theorem State.release_junct (s : State) (p : Port) : (s.release p).junct = s.junct := rfl
@[simp] theorem State.release_supply (s : State) (p : Port) : (s.release p).supply = s.supply := rfl
@[simp] theorem State.release_settings (s : State) (p : Port) : (s.release p).settings = s.settings := rfl

/-! ### `State.fetchNotices` -/

@[simp] theorem State.fetchNotices_pending (s : State) (p : Port) : (s.fetchNotices p).pending = s.pending := rfl
@[simp] theorem State.fetchNotices_now (s : State) (p : Port) : (s.fetchNotices p).now = s.now := rfl
@[simp] theorem State.fetchNotices_epoch (s : State) (p : Port) : (s.fetchNotices p).epoch = s.epoch := rfl
@[simp] theorem State.fetchNotices_raised (s : State) (p : Port) : (s.fetchNotices p).raised = s.raised := rfl
@[simp] theorem State.fetchNotices_held (s : State) (p : Port) : (s.fetchNotices p).held = s.held := rfl
@[simp] theorem State.fetchNotices_lines (s : State) (p : Port) : (s.fetchNotices p).lines = s.lines := rfl
@[simp] theorem State.fetchNotices_auth (s : State) (p : Port) : (s.fetchNotices p).auth = s.auth := rfl
@[simp] theorem State.fetchNotices_wheel (s : State) (p : Port) : (s.fetchNotices p).wheel = s.wheel := rfl
@[simp] theorem State.fetchNotices_shaper (s : State) (p : Port) : (s.fetchNotices p).shaper = s.shaper := rfl
@[simp] theorem State.fetchNotices_tlink (s : State) (p : Port) : (s.fetchNotices p).tlink = s.tlink := rfl
@[simp] theorem State.fetchNotices_vigil (s : State) (p : Port) : (s.fetchNotices p).vigil = s.vigil := rfl
@[simp] theorem State.fetchNotices_sound (s : State) (p : Port) : (s.fetchNotices p).sound = s.sound := rfl
@[simp] theorem State.fetchNotices_outbank (s : State) (p : Port) : (s.fetchNotices p).outbank = s.outbank := rfl
@[simp] theorem State.fetchNotices_die (s : State) (p : Port) : (s.fetchNotices p).die = s.die := rfl
@[simp] theorem State.fetchNotices_stop (s : State) (p : Port) : (s.fetchNotices p).stop = s.stop := rfl
@[simp] theorem State.fetchNotices_junct (s : State) (p : Port) : (s.fetchNotices p).junct = s.junct := rfl
@[simp] theorem State.fetchNotices_supply (s : State) (p : Port) : (s.fetchNotices p).supply = s.supply := rfl
@[simp] theorem State.fetchNotices_settings (s : State) (p : Port) : (s.fetchNotices p).settings = s.settings := rfl

/-! ### `State.addSource` -/

@[simp] theorem State.addSource_pending (s : State) (k : EmSource) : (s.addSource k).pending = s.pending := rfl
@[simp] theorem State.addSource_now (s : State) (k : EmSource) : (s.addSource k).now = s.now := rfl
@[simp] theorem State.addSource_epoch (s : State) (k : EmSource) : (s.addSource k).epoch = s.epoch := rfl
@[simp] theorem State.addSource_held (s : State) (k : EmSource) : (s.addSource k).held = s.held := rfl
@[simp] theorem State.addSource_lines (s : State) (k : EmSource) : (s.addSource k).lines = s.lines := rfl
@[simp] theorem State.addSource_ports (s : State) (k : EmSource) : (s.addSource k).ports = s.ports := rfl
@[simp] theorem State.addSource_auth (s : State) (k : EmSource) : (s.addSource k).auth = s.auth := rfl
@[simp] theorem State.addSource_wheel (s : State) (k : EmSource) : (s.addSource k).wheel = s.wheel := rfl
@[simp] theorem State.addSource_tlink (s : State) (k : EmSource) : (s.addSource k).tlink = s.tlink := rfl
@[simp] theorem State.addSource_vigil (s : State) (k : EmSource) : (s.addSource k).vigil = s.vigil := rfl
@[simp] theorem State.addSource_outbank (s : State) (k : EmSource) : (s.addSource k).outbank = s.outbank := rfl
@[simp] theorem State.addSource_die (s : State) (k : EmSource) : (s.addSource k).die = s.die := rfl
@[simp] theorem State.addSource_stop (s : State) (k : EmSource) : (s.addSource k).stop = s.stop := rfl
@[simp] theorem State.addSource_junct (s : State) (k : EmSource) : (s.addSource k).junct = s.junct := rfl
@[simp] theorem State.addSource_supply (s : State) (k : EmSource) : (s.addSource k).supply = s.supply := rfl
@[simp] theorem State.addSource_settings (s : State) (k : EmSource) : (s.addSource k).settings = s.settings := rfl

/-! ### `State.removeSource` -/

@[simp] theorem State.removeSource_pending (s : State) (k : EmSource) : (s.removeSource k).pending = s.pending := rfl
@[simp] theorem State.removeSource_now (s : State) (k : EmSource) : (s.removeSource k).now = s.now := rfl
@[simp] theorem State.removeSource_epoch (s : State) (k : EmSource) : (s.removeSource k).epoch = s.epoch := rfl
@[simp] theorem State.removeSource_held (s : State) (k : EmSource) : (s.removeSource k).held = s.held := rfl
@[simp] theorem State.removeSource_lines (s : State) (k : EmSource) : (s.removeSource k).lines = s.lines := rfl
@[simp] theorem State.removeSource_ports (s : State) (k : EmSource) : (s.removeSource k).ports = s.ports := rfl
@[simp] theorem State.removeSource_auth (s : State) (k : EmSource) : (s.removeSource k).auth = s.auth := rfl
@[simp] theorem State.removeSource_wheel (s : State) (k : EmSource) : (s.removeSource k).wheel = s.wheel := rfl
@[simp] theorem State.removeSource_tlink (s : State) (k : EmSource) : (s.removeSource k).tlink = s.tlink := rfl
@[simp] theorem State.removeSource_vigil (s : State) (k : EmSource) : (s.removeSource k).vigil = s.vigil := rfl
@[simp] theorem State.removeSource_outbank (s : State) (k : EmSource) : (s.removeSource k).outbank = s.outbank := rfl
@[simp] theorem State.removeSource_die (s : State) (k : EmSource) : (s.removeSource k).die = s.die := rfl
@[simp] theorem State.removeSource_stop (s : State) (k : EmSource) : (s.removeSource k).stop = s.stop := rfl
@[simp] theorem State.removeSource_junct (s : State) (k : EmSource) : (s.removeSource k).junct = s.junct := rfl
@[simp] theorem State.removeSource_supply (s : State) (k : EmSource) : (s.removeSource k).supply = s.supply := rfl
@[simp] theorem State.removeSource_settings (s : State) (k : EmSource) : (s.removeSource k).settings = s.settings := rfl

/-! ### `State.cancelAll` -/

@[simp] theorem State.cancelAll_pending (s : State) : (s.cancelAll).pending = s.pending := rfl
@[simp] theorem State.cancelAll_now (s : State) : (s.cancelAll).now = s.now := rfl
@[simp] theorem State.cancelAll_epoch (s : State) : (s.cancelAll).epoch = s.epoch := rfl
@[simp] theorem State.cancelAll_held (s : State) : (s.cancelAll).held = s.held := rfl
@[simp] theorem State.cancelAll_lines (s : State) : (s.cancelAll).lines = s.lines := rfl
@[simp] theorem State.cancelAll_ports (s : State) : (s.cancelAll).ports = s.ports := rfl
@[simp] theorem State.cancelAll_auth (s : State) : (s.cancelAll).auth = s.auth := rfl
@[simp] theorem State.cancelAll_wheel (s : State) : (s.cancelAll).wheel = s.wheel := rfl
@[simp] theorem State.cancelAll_shaper (s : State) : (s.cancelAll).shaper = s.shaper := rfl
@[simp] theorem State.cancelAll_tlink (s : State) : (s.cancelAll).tlink = s.tlink := rfl
@[simp] theorem State.cancelAll_vigil (s : State) : (s.cancelAll).vigil = s.vigil := rfl
@[simp] theorem State.cancelAll_sound (s : State) : (s.cancelAll).sound = s.sound := rfl
@[simp] theorem State.cancelAll_outbank (s : State) : (s.cancelAll).outbank = s.outbank := rfl
@[simp] theorem State.cancelAll_die (s : State) : (s.cancelAll).die = s.die := rfl
@[simp] theorem State.cancelAll_stop (s : State) : (s.cancelAll).stop = s.stop := rfl
@[simp] theorem State.cancelAll_supply (s : State) : (s.cancelAll).supply = s.supply := rfl
@[simp] theorem State.cancelAll_settings (s : State) : (s.cancelAll).settings = s.settings := rfl

/-! ### `State.cancelStop` -/

@[simp] theorem State.cancelStop_pending (s : State) : (s.cancelStop).pending = s.pending := rfl
@[simp] theorem State.cancelStop_now (s : State) : (s.cancelStop).now = s.now := rfl
@[simp] theorem State.cancelStop_epoch (s : State) : (s.cancelStop).epoch = s.epoch := rfl
@[simp] theorem State.cancelStop_held (s : State) : (s.cancelStop).held = s.held := rfl
@[simp] theorem State.cancelStop_lines (s : State) : (s.cancelStop).lines = s.lines := rfl
@[simp] theorem State.cancelStop_ports (s : State) : (s.cancelStop).ports = s.ports := rfl
@[simp] theorem State.cancelStop_auth (s : State) : (s.cancelStop).auth = s.auth := rfl
@[simp] theorem State.cancelStop_wheel (s : State) : (s.cancelStop).wheel = s.wheel := rfl
@[simp] theorem State.cancelStop_shaper (s : State) : (s.cancelStop).shaper = s.shaper := rfl
@[simp] theorem State.cancelStop_tlink (s : State) : (s.cancelStop).tlink = s.tlink := rfl
@[simp] theorem State.cancelStop_vigil (s : State) : (s.cancelStop).vigil = s.vigil := rfl
@[simp] theorem State.cancelStop_sound (s : State) : (s.cancelStop).sound = s.sound := rfl
@[simp] theorem State.cancelStop_outbank (s : State) : (s.cancelStop).outbank = s.outbank := rfl
@[simp] theorem State.cancelStop_die (s : State) : (s.cancelStop).die = s.die := rfl
@[simp] theorem State.cancelStop_junct (s : State) : (s.cancelStop).junct = s.junct := rfl
@[simp] theorem State.cancelStop_supply (s : State) : (s.cancelStop).supply = s.supply := rfl
@[simp] theorem State.cancelStop_settings (s : State) : (s.cancelStop).settings = s.settings := rfl

/-! ### `State.refreshBuzzer` -/

@[simp] theorem State.refreshBuzzer_pending (s : State) : (s.refreshBuzzer).pending = s.pending := rfl
@[simp] theorem State.refreshBuzzer_now (s : State) : (s.refreshBuzzer).now = s.now := rfl
@[simp] theorem State.refreshBuzzer_epoch (s : State) : (s.refreshBuzzer).epoch = s.epoch := rfl
@[simp] theorem State.refreshBuzzer_held (s : State) : (s.refreshBuzzer).held = s.held := rfl
@[simp] theorem State.refreshBuzzer_lines (s : State) : (s.refreshBuzzer).lines = s.lines := rfl
@[simp] theorem State.refreshBuzzer_ports (s : State) : (s.refreshBuzzer).ports = s.ports := rfl
@[simp] theorem State.refreshBuzzer_auth (s : State) : (s.refreshBuzzer).auth = s.auth := rfl
@[simp] theorem State.refreshBuzzer_wheel (s : State) : (s.refreshBuzzer).wheel = s.wheel := rfl
@[simp] theorem State.refreshBuzzer_shaper (s : State) : (s.refreshBuzzer).shaper = s.shaper := rfl
@[simp] theorem State.refreshBuzzer_tlink (s : State) : (s.refreshBuzzer).tlink = s.tlink := rfl
@[simp] theorem State.refreshBuzzer_outbank (s : State) : (s.refreshBuzzer).outbank = s.outbank := rfl
@[simp] theorem State.refreshBuzzer_die (s : State) : (s.refreshBuzzer).die = s.die := rfl
@[simp] theorem State.refreshBuzzer_stop (s : State) : (s.refreshBuzzer).stop = s.stop := rfl
@[simp] theorem State.refreshBuzzer_junct (s : State) : (s.refreshBuzzer).junct = s.junct := rfl
@[simp] theorem State.refreshBuzzer_supply (s : State) : (s.refreshBuzzer).supply = s.supply := rfl
@[simp] theorem State.refreshBuzzer_settings (s : State) : (s.refreshBuzzer).settings = s.settings := rfl

/-! ### `State.refreshHornBell` -/

@[simp] theorem State.refreshHornBell_pending (s : State) : (s.refreshHornBell).pending = s.pending := rfl
@[simp] theorem State.refreshHornBell_now (s : State) : (s.refreshHornBell).now = s.now := rfl
@[simp] theorem State.refreshHornBell_epoch (s : State) : (s.refreshHornBell).epoch = s.epoch := rfl
@[simp] theorem State.refreshHornBell_raised (s : State) : (s.refreshHornBell).raised = s.raised := rfl
@[simp] theorem State.refreshHornBell_held (s : State) : (s.refreshHornBell).held = s.held := rfl
@[simp] theorem State.refreshHornBell_lines (s : State) : (s.refreshHornBell).lines = s.lines := rfl
@[simp] theorem State.refreshHornBell_ports (s : State) : (s.refreshHornBell).ports = s.ports := rfl
@[simp] theorem State.refreshHornBell_auth (s : State) : (s.refreshHornBell).auth = s.auth := rfl
@[simp] theorem State.refreshHornBell_wheel (s : State) : (s.refreshHornBell).wheel = s.wheel := rfl
@[simp] theorem State.refreshHornBell_shaper (s : State) : (s.refreshHornBell).shaper = s.shaper := rfl
@[simp] theorem State.refreshHornBell_tlink (s : State) : (s.refreshHornBell).tlink = s.tlink := rfl
@[simp] theorem State.refreshHornBell_vigil (s : State) : (s.refreshHornBell).vigil = s.vigil := rfl
@[simp] theorem State.refreshHornBell_outbank (s : State) : (s.refreshHornBell).outbank = s.outbank := rfl
@[simp] theorem State.refreshHornBell_die (s : State) : (s.refreshHornBell).die = s.die := rfl
@[simp] theorem State.refreshHornBell_stop (s : State) : (s.refreshHornBell).stop = s.stop := rfl
@[simp] theorem State.refreshHornBell_junct (s : State) : (s.refreshHornBell).junct = s.junct := rfl
@[simp] theorem State.refreshHornBell_supply (s : State) : (s.refreshHornBell).supply = s.supply := rfl
@[simp] theorem State.refreshHornBell_settings (s : State) : (s.refreshHornBell).settings = s.settings := rfl

/-! ### `State.claimLapsed` -/

@[simp] theorem State.claimLapsed_pending (s : State) (c : Cab) : (s.claimLapsed c).pending = s.pending := rfl
@[simp] theorem State.claimLapsed_now (s : State) (c : Cab) : (s.claimLapsed c).now = s.now := rfl
@[simp] theorem State.claimLapsed_epoch (s : State) (c : Cab) : (s.claimLapsed c).epoch = s.epoch := rfl
@[simp] theorem State.claimLapsed_raised (s : State) (c : Cab) : (s.claimLapsed c).raised = s.raised := rfl
@[simp] theorem State.claimLapsed_held (s : State) (c : Cab) : (s.claimLapsed c).held = s.held := rfl
@[simp] theorem State.claimLapsed_lines (s : State) (c : Cab) : (s.claimLapsed c).lines = s.lines := rfl
@[simp] theorem State.claimLapsed_auth (s : State) (c : Cab) : (s.claimLapsed c).auth = s.auth := rfl
@[simp] theorem State.claimLapsed_wheel (s : State) (c : Cab) : (s.claimLapsed c).wheel = s.wheel := rfl
@[simp] theorem State.claimLapsed_shaper (s : State) (c : Cab) : (s.claimLapsed c).shaper = s.shaper := rfl
@[simp] theorem State.claimLapsed_tlink (s : State) (c : Cab) : (s.claimLapsed c).tlink = s.tlink := rfl
@[simp] theorem State.claimLapsed_vigil (s : State) (c : Cab) : (s.claimLapsed c).vigil = s.vigil := rfl
@[simp] theorem State.claimLapsed_sound (s : State) (c : Cab) : (s.claimLapsed c).sound = s.sound := rfl
@[simp] theorem State.claimLapsed_outbank (s : State) (c : Cab) : (s.claimLapsed c).outbank = s.outbank := rfl
@[simp] theorem State.claimLapsed_die (s : State) (c : Cab) : (s.claimLapsed c).die = s.die := rfl
@[simp] theorem State.claimLapsed_stop (s : State) (c : Cab) : (s.claimLapsed c).stop = s.stop := rfl
@[simp] theorem State.claimLapsed_junct (s : State) (c : Cab) : (s.claimLapsed c).junct = s.junct := rfl
@[simp] theorem State.claimLapsed_supply (s : State) (c : Cab) : (s.claimLapsed c).supply = s.supply := rfl
@[simp] theorem State.claimLapsed_settings (s : State) (c : Cab) : (s.claimLapsed c).settings = s.settings := rfl

/-! ### `State.changeTrans` -/

@[simp] theorem State.changeTrans_pending (s : State) (t u : Transaction) : (s.changeTrans t u).pending = s.pending := rfl
@[simp] theorem State.changeTrans_now (s : State) (t u : Transaction) : (s.changeTrans t u).now = s.now := rfl
@[simp] theorem State.changeTrans_epoch (s : State) (t u : Transaction) : (s.changeTrans t u).epoch = s.epoch := rfl
@[simp] theorem State.changeTrans_held (s : State) (t u : Transaction) : (s.changeTrans t u).held = s.held := rfl
@[simp] theorem State.changeTrans_lines (s : State) (t u : Transaction) : (s.changeTrans t u).lines = s.lines := rfl
@[simp] theorem State.changeTrans_ports (s : State) (t u : Transaction) : (s.changeTrans t u).ports = s.ports := rfl
@[simp] theorem State.changeTrans_auth (s : State) (t u : Transaction) : (s.changeTrans t u).auth = s.auth := rfl
@[simp] theorem State.changeTrans_wheel (s : State) (t u : Transaction) : (s.changeTrans t u).wheel = s.wheel := rfl
@[simp] theorem State.changeTrans_shaper (s : State) (t u : Transaction) : (s.changeTrans t u).shaper = s.shaper := rfl
@[simp] theorem State.changeTrans_tlink (s : State) (t u : Transaction) : (s.changeTrans t u).tlink = s.tlink := rfl
@[simp] theorem State.changeTrans_vigil (s : State) (t u : Transaction) : (s.changeTrans t u).vigil = s.vigil := rfl
@[simp] theorem State.changeTrans_outbank (s : State) (t u : Transaction) : (s.changeTrans t u).outbank = s.outbank := rfl
@[simp] theorem State.changeTrans_die (s : State) (t u : Transaction) : (s.changeTrans t u).die = s.die := rfl
@[simp] theorem State.changeTrans_stop (s : State) (t u : Transaction) : (s.changeTrans t u).stop = s.stop := rfl
@[simp] theorem State.changeTrans_supply (s : State) (t u : Transaction) : (s.changeTrans t u).supply = s.supply := rfl
@[simp] theorem State.changeTrans_settings (s : State) (t u : Transaction) : (s.changeTrans t u).settings = s.settings := rfl

/-! ### `State.retireCleared` -/

@[simp] theorem State.retireCleared_pending (s : State) : (s.retireCleared).pending = s.pending := rfl
@[simp] theorem State.retireCleared_now (s : State) : (s.retireCleared).now = s.now := rfl
@[simp] theorem State.retireCleared_epoch (s : State) : (s.retireCleared).epoch = s.epoch := rfl
@[simp] theorem State.retireCleared_held (s : State) : (s.retireCleared).held = s.held := rfl
@[simp] theorem State.retireCleared_lines (s : State) : (s.retireCleared).lines = s.lines := rfl
@[simp] theorem State.retireCleared_ports (s : State) : (s.retireCleared).ports = s.ports := rfl
@[simp] theorem State.retireCleared_auth (s : State) : (s.retireCleared).auth = s.auth := rfl
@[simp] theorem State.retireCleared_wheel (s : State) : (s.retireCleared).wheel = s.wheel := rfl
@[simp] theorem State.retireCleared_shaper (s : State) : (s.retireCleared).shaper = s.shaper := rfl
@[simp] theorem State.retireCleared_tlink (s : State) : (s.retireCleared).tlink = s.tlink := rfl
@[simp] theorem State.retireCleared_vigil (s : State) : (s.retireCleared).vigil = s.vigil := rfl
@[simp] theorem State.retireCleared_sound (s : State) : (s.retireCleared).sound = s.sound := rfl
@[simp] theorem State.retireCleared_outbank (s : State) : (s.retireCleared).outbank = s.outbank := rfl
@[simp] theorem State.retireCleared_die (s : State) : (s.retireCleared).die = s.die := rfl
@[simp] theorem State.retireCleared_stop (s : State) : (s.retireCleared).stop = s.stop := rfl
@[simp] theorem State.retireCleared_supply (s : State) : (s.retireCleared).supply = s.supply := rfl
@[simp] theorem State.retireCleared_settings (s : State) : (s.retireCleared).settings = s.settings := rfl

/-! ### `State.sectionEnd` -/

@[simp] theorem State.sectionEnd_pending (s : State) : (s.sectionEnd).pending = s.pending := rfl
@[simp] theorem State.sectionEnd_now (s : State) : (s.sectionEnd).now = s.now := rfl
@[simp] theorem State.sectionEnd_epoch (s : State) : (s.sectionEnd).epoch = s.epoch := rfl
@[simp] theorem State.sectionEnd_held (s : State) : (s.sectionEnd).held = s.held := rfl
@[simp] theorem State.sectionEnd_lines (s : State) : (s.sectionEnd).lines = s.lines := rfl
@[simp] theorem State.sectionEnd_ports (s : State) : (s.sectionEnd).ports = s.ports := rfl
@[simp] theorem State.sectionEnd_auth (s : State) : (s.sectionEnd).auth = s.auth := rfl
@[simp] theorem State.sectionEnd_wheel (s : State) : (s.sectionEnd).wheel = s.wheel := rfl
@[simp] theorem State.sectionEnd_shaper (s : State) : (s.sectionEnd).shaper = s.shaper := rfl
@[simp] theorem State.sectionEnd_tlink (s : State) : (s.sectionEnd).tlink = s.tlink := rfl
@[simp] theorem State.sectionEnd_vigil (s : State) : (s.sectionEnd).vigil = s.vigil := rfl
@[simp] theorem State.sectionEnd_sound (s : State) : (s.sectionEnd).sound = s.sound := rfl
@[simp] theorem State.sectionEnd_outbank (s : State) : (s.sectionEnd).outbank = s.outbank := rfl
@[simp] theorem State.sectionEnd_die (s : State) : (s.sectionEnd).die = s.die := rfl
@[simp] theorem State.sectionEnd_junct (s : State) : (s.sectionEnd).junct = s.junct := rfl
@[simp] theorem State.sectionEnd_supply (s : State) : (s.sectionEnd).supply = s.supply := rfl
@[simp] theorem State.sectionEnd_settings (s : State) : (s.sectionEnd).settings = s.settings := rfl

/-! ### `State.vigilFrame` -/

@[simp] theorem State.vigilFrame_pending (s : State) (f : Attention) : (s.vigilFrame f).pending = s.pending := rfl
@[simp] theorem State.vigilFrame_now (s : State) (f : Attention) : (s.vigilFrame f).now = s.now := rfl
@[simp] theorem State.vigilFrame_epoch (s : State) (f : Attention) : (s.vigilFrame f).epoch = s.epoch := rfl
@[simp] theorem State.vigilFrame_held (s : State) (f : Attention) : (s.vigilFrame f).held = s.held := rfl
@[simp] theorem State.vigilFrame_lines (s : State) (f : Attention) : (s.vigilFrame f).lines = s.lines := rfl
@[simp] theorem State.vigilFrame_ports (s : State) (f : Attention) : (s.vigilFrame f).ports = s.ports := rfl
@[simp] theorem State.vigilFrame_auth (s : State) (f : Attention) : (s.vigilFrame f).auth = s.auth := rfl
@[simp] theorem State.vigilFrame_wheel (s : State) (f : Attention) : (s.vigilFrame f).wheel = s.wheel := rfl
@[simp] theorem State.vigilFrame_shaper (s : State) (f : Attention) : (s.vigilFrame f).shaper = s.shaper := rfl
@[simp] theorem State.vigilFrame_tlink (s : State) (f : Attention) : (s.vigilFrame f).tlink = s.tlink := rfl
@[simp] theorem State.vigilFrame_outbank (s : State) (f : Attention) : (s.vigilFrame f).outbank = s.outbank := rfl
@[simp] theorem State.vigilFrame_die (s : State) (f : Attention) : (s.vigilFrame f).die = s.die := rfl
@[simp] theorem State.vigilFrame_stop (s : State) (f : Attention) : (s.vigilFrame f).stop = s.stop := rfl
@[simp] theorem State.vigilFrame_junct (s : State) (f : Attention) : (s.vigilFrame f).junct = s.junct := rfl
@[simp] theorem State.vigilFrame_supply (s : State) (f : Attention) : (s.vigilFrame f).supply = s.supply := rfl
@[simp] theorem State.vigilFrame_settings (s : State) (f : Attention) : (s.vigilFrame f).settings = s.settings := rfl

/-! ### `State.vigilVacant` -/

@[simp] theorem State.vigilVacant_pending (s : State) : (s.vigilVacant).pending = s.pending := rfl
@[simp] theorem State.vigilVacant_now (s : State) : (s.vigilVacant).now = s.now := rfl
@[simp] theorem State.vigilVacant_epoch (s : State) : (s.vigilVacant).epoch = s.epoch := rfl
@[simp] theorem State.vigilVacant_held (s : State) : (s.vigilVacant).held = s.held := rfl
@[simp] theorem State.vigilVacant_lines (s : State) : (s.vigilVacant).lines = s.lines := rfl
@[simp] theorem State.vigilVacant_ports (s : State) : (s.vigilVacant).ports = s.ports := rfl
@[simp] theorem State.vigilVacant_auth (s : State) : (s.vigilVacant).auth = s.auth := rfl
@[simp] theorem State.vigilVacant_wheel (s : State) : (s.vigilVacant).wheel = s.wheel := rfl
@[simp] theorem State.vigilVacant_shaper (s : State) : (s.vigilVacant).shaper = s.shaper := rfl
@[simp] theorem State.vigilVacant_tlink (s : State) : (s.vigilVacant).tlink = s.tlink := rfl
@[simp] theorem State.vigilVacant_outbank (s : State) : (s.vigilVacant).outbank = s.outbank := rfl
@[simp] theorem State.vigilVacant_die (s : State) : (s.vigilVacant).die = s.die := rfl
@[simp] theorem State.vigilVacant_stop (s : State) : (s.vigilVacant).stop = s.stop := rfl
@[simp] theorem State.vigilVacant_junct (s : State) : (s.vigilVacant).junct = s.junct := rfl
@[simp] theorem State.vigilVacant_supply (s : State) : (s.vigilVacant).supply = s.supply := rfl
@[simp] theorem State.vigilVacant_settings (s : State) : (s.vigilVacant).settings = s.settings := rfl

/-! ### `State.handleAtRest` -/

@[simp] theorem State.handleAtRest_pending (s : State) : (s.handleAtRest).pending = s.pending := rfl
@[simp] theorem State.handleAtRest_now (s : State) : (s.handleAtRest).now = s.now := rfl
@[simp] theorem State.handleAtRest_epoch (s : State) : (s.handleAtRest).epoch = s.epoch := rfl
@[simp] theorem State.handleAtRest_raised (s : State) : (s.handleAtRest).raised = s.raised := rfl
@[simp] theorem State.handleAtRest_held (s : State) : (s.handleAtRest).held = s.held := rfl
@[simp] theorem State.handleAtRest_lines (s : State) : (s.handleAtRest).lines = s.lines := rfl
@[simp] theorem State.handleAtRest_ports (s : State) : (s.handleAtRest).ports = s.ports := rfl
@[simp] theorem State.handleAtRest_auth (s : State) : (s.handleAtRest).auth = s.auth := rfl
@[simp] theorem State.handleAtRest_wheel (s : State) : (s.handleAtRest).wheel = s.wheel := rfl
@[simp] theorem State.handleAtRest_tlink (s : State) : (s.handleAtRest).tlink = s.tlink := rfl
@[simp] theorem State.handleAtRest_vigil (s : State) : (s.handleAtRest).vigil = s.vigil := rfl
@[simp] theorem State.handleAtRest_sound (s : State) : (s.handleAtRest).sound = s.sound := rfl
@[simp] theorem State.handleAtRest_outbank (s : State) : (s.handleAtRest).outbank = s.outbank := rfl
@[simp] theorem State.handleAtRest_die (s : State) : (s.handleAtRest).die = s.die := rfl
@[simp] theorem State.handleAtRest_stop (s : State) : (s.handleAtRest).stop = s.stop := rfl
@[simp] theorem State.handleAtRest_junct (s : State) : (s.handleAtRest).junct = s.junct := rfl
@[simp] theorem State.handleAtRest_supply (s : State) : (s.handleAtRest).supply = s.supply := rfl
@[simp] theorem State.handleAtRest_settings (s : State) : (s.handleAtRest).settings = s.settings := rfl

/-! ### `State.doorMoving` -/

@[simp] theorem State.doorMoving_pending (s : State) : (s.doorMoving).pending = s.pending := rfl
@[simp] theorem State.doorMoving_now (s : State) : (s.doorMoving).now = s.now := rfl
@[simp] theorem State.doorMoving_epoch (s : State) : (s.doorMoving).epoch = s.epoch := rfl
@[simp] theorem State.doorMoving_held (s : State) : (s.doorMoving).held = s.held := rfl
@[simp] theorem State.doorMoving_lines (s : State) : (s.doorMoving).lines = s.lines := rfl
@[simp] theorem State.doorMoving_ports (s : State) : (s.doorMoving).ports = s.ports := rfl
@[simp] theorem State.doorMoving_auth (s : State) : (s.doorMoving).auth = s.auth := rfl
@[simp] theorem State.doorMoving_wheel (s : State) : (s.doorMoving).wheel = s.wheel := rfl
@[simp] theorem State.doorMoving_tlink (s : State) : (s.doorMoving).tlink = s.tlink := rfl
@[simp] theorem State.doorMoving_vigil (s : State) : (s.doorMoving).vigil = s.vigil := rfl
@[simp] theorem State.doorMoving_sound (s : State) : (s.doorMoving).sound = s.sound := rfl
@[simp] theorem State.doorMoving_outbank (s : State) : (s.doorMoving).outbank = s.outbank := rfl
@[simp] theorem State.doorMoving_die (s : State) : (s.doorMoving).die = s.die := rfl
@[simp] theorem State.doorMoving_stop (s : State) : (s.doorMoving).stop = s.stop := rfl
@[simp] theorem State.doorMoving_junct (s : State) : (s.doorMoving).junct = s.junct := rfl
@[simp] theorem State.doorMoving_supply (s : State) : (s.doorMoving).supply = s.supply := rfl
@[simp] theorem State.doorMoving_settings (s : State) : (s.doorMoving).settings = s.settings := rfl

/-! ### `State.publishPeriod` -/

@[simp] theorem State.publishPeriod_pending (s : State) (p : Period) : (s.publishPeriod p).pending = s.pending := rfl
@[simp] theorem State.publishPeriod_now (s : State) (p : Period) : (s.publishPeriod p).now = s.now := rfl
@[simp] theorem State.publishPeriod_epoch (s : State) (p : Period) : (s.publishPeriod p).epoch = s.epoch := rfl
@[simp] theorem State.publishPeriod_raised (s : State) (p : Period) : (s.publishPeriod p).raised = s.raised := rfl
@[simp] theorem State.publishPeriod_held (s : State) (p : Period) : (s.publishPeriod p).held = s.held := rfl
@[simp] theorem State.publishPeriod_lines (s : State) (p : Period) : (s.publishPeriod p).lines = s.lines := rfl
@[simp] theorem State.publishPeriod_ports (s : State) (p : Period) : (s.publishPeriod p).ports = s.ports := rfl
@[simp] theorem State.publishPeriod_auth (s : State) (p : Period) : (s.publishPeriod p).auth = s.auth := rfl
@[simp] theorem State.publishPeriod_wheel (s : State) (p : Period) : (s.publishPeriod p).wheel = s.wheel := rfl
@[simp] theorem State.publishPeriod_vigil (s : State) (p : Period) : (s.publishPeriod p).vigil = s.vigil := rfl
@[simp] theorem State.publishPeriod_sound (s : State) (p : Period) : (s.publishPeriod p).sound = s.sound := rfl
@[simp] theorem State.publishPeriod_outbank (s : State) (p : Period) : (s.publishPeriod p).outbank = s.outbank := rfl
@[simp] theorem State.publishPeriod_die (s : State) (p : Period) : (s.publishPeriod p).die = s.die := rfl
@[simp] theorem State.publishPeriod_stop (s : State) (p : Period) : (s.publishPeriod p).stop = s.stop := rfl
@[simp] theorem State.publishPeriod_junct (s : State) (p : Period) : (s.publishPeriod p).junct = s.junct := rfl
@[simp] theorem State.publishPeriod_supply (s : State) (p : Period) : (s.publishPeriod p).supply = s.supply := rfl
@[simp] theorem State.publishPeriod_settings (s : State) (p : Period) : (s.publishPeriod p).settings = s.settings := rfl

/-! ### `State.departure` -/

@[simp] theorem State.departure_pending (s : State) : (s.departure).pending = s.pending := rfl
@[simp] theorem State.departure_now (s : State) : (s.departure).now = s.now := rfl
@[simp] theorem State.departure_epoch (s : State) : (s.departure).epoch = s.epoch := rfl
@[simp] theorem State.departure_raised (s : State) : (s.departure).raised = s.raised := rfl
@[simp] theorem State.departure_held (s : State) : (s.departure).held = s.held := rfl
@[simp] theorem State.departure_lines (s : State) : (s.departure).lines = s.lines := rfl
@[simp] theorem State.departure_ports (s : State) : (s.departure).ports = s.ports := rfl
@[simp] theorem State.departure_auth (s : State) : (s.departure).auth = s.auth := rfl
@[simp] theorem State.departure_wheel (s : State) : (s.departure).wheel = s.wheel := rfl
@[simp] theorem State.departure_shaper (s : State) : (s.departure).shaper = s.shaper := rfl
@[simp] theorem State.departure_tlink (s : State) : (s.departure).tlink = s.tlink := rfl
@[simp] theorem State.departure_vigil (s : State) : (s.departure).vigil = s.vigil := rfl
@[simp] theorem State.departure_outbank (s : State) : (s.departure).outbank = s.outbank := rfl
@[simp] theorem State.departure_die (s : State) : (s.departure).die = s.die := rfl
@[simp] theorem State.departure_stop (s : State) : (s.departure).stop = s.stop := rfl
@[simp] theorem State.departure_junct (s : State) : (s.departure).junct = s.junct := rfl
@[simp] theorem State.departure_supply (s : State) : (s.departure).supply = s.supply := rfl
@[simp] theorem State.departure_settings (s : State) : (s.departure).settings = s.settings := rfl

/-! ### `State.addSticky` -/

@[simp] theorem State.addSticky_pending (s : State) (x : Additions) : (s.addSticky x).pending = s.pending := rfl
@[simp] theorem State.addSticky_now (s : State) (x : Additions) : (s.addSticky x).now = s.now := rfl
@[simp] theorem State.addSticky_epoch (s : State) (x : Additions) : (s.addSticky x).epoch = s.epoch := rfl
@[simp] theorem State.addSticky_raised (s : State) (x : Additions) : (s.addSticky x).raised = s.raised := rfl
@[simp] theorem State.addSticky_held (s : State) (x : Additions) : (s.addSticky x).held = s.held := rfl
@[simp] theorem State.addSticky_lines (s : State) (x : Additions) : (s.addSticky x).lines = s.lines := rfl
@[simp] theorem State.addSticky_auth (s : State) (x : Additions) : (s.addSticky x).auth = s.auth := rfl
@[simp] theorem State.addSticky_wheel (s : State) (x : Additions) : (s.addSticky x).wheel = s.wheel := rfl
@[simp] theorem State.addSticky_shaper (s : State) (x : Additions) : (s.addSticky x).shaper = s.shaper := rfl
@[simp] theorem State.addSticky_tlink (s : State) (x : Additions) : (s.addSticky x).tlink = s.tlink := rfl
@[simp] theorem State.addSticky_vigil (s : State) (x : Additions) : (s.addSticky x).vigil = s.vigil := rfl
@[simp] theorem State.addSticky_sound (s : State) (x : Additions) : (s.addSticky x).sound = s.sound := rfl
@[simp] theorem State.addSticky_die (s : State) (x : Additions) : (s.addSticky x).die = s.die := rfl
@[simp] theorem State.addSticky_stop (s : State) (x : Additions) : (s.addSticky x).stop = s.stop := rfl
@[simp] theorem State.addSticky_junct (s : State) (x : Additions) : (s.addSticky x).junct = s.junct := rfl
@[simp] theorem State.addSticky_supply (s : State) (x : Additions) : (s.addSticky x).supply = s.supply := rfl
@[simp] theorem State.addSticky_settings (s : State) (x : Additions) : (s.addSticky x).settings = s.settings := rfl

/-! ### `State.frameHandle` -/

@[simp] theorem State.frameHandle_pending (s : State) (f : DemandFrame) : (s.frameHandle f).pending = s.pending := rfl
@[simp] theorem State.frameHandle_now (s : State) (f : DemandFrame) : (s.frameHandle f).now = s.now := rfl
@[simp] theorem State.frameHandle_epoch (s : State) (f : DemandFrame) : (s.frameHandle f).epoch = s.epoch := rfl
@[simp] theorem State.frameHandle_raised (s : State) (f : DemandFrame) : (s.frameHandle f).raised = s.raised := rfl
@[simp] theorem State.frameHandle_held (s : State) (f : DemandFrame) : (s.frameHandle f).held = s.held := rfl
@[simp] theorem State.frameHandle_lines (s : State) (f : DemandFrame) : (s.frameHandle f).lines = s.lines := rfl
@[simp] theorem State.frameHandle_ports (s : State) (f : DemandFrame) : (s.frameHandle f).ports = s.ports := rfl
@[simp] theorem State.frameHandle_auth (s : State) (f : DemandFrame) : (s.frameHandle f).auth = s.auth := rfl
@[simp] theorem State.frameHandle_wheel (s : State) (f : DemandFrame) : (s.frameHandle f).wheel = s.wheel := rfl
@[simp] theorem State.frameHandle_tlink (s : State) (f : DemandFrame) : (s.frameHandle f).tlink = s.tlink := rfl
@[simp] theorem State.frameHandle_vigil (s : State) (f : DemandFrame) : (s.frameHandle f).vigil = s.vigil := rfl
@[simp] theorem State.frameHandle_sound (s : State) (f : DemandFrame) : (s.frameHandle f).sound = s.sound := rfl
@[simp] theorem State.frameHandle_outbank (s : State) (f : DemandFrame) : (s.frameHandle f).outbank = s.outbank := rfl
@[simp] theorem State.frameHandle_die (s : State) (f : DemandFrame) : (s.frameHandle f).die = s.die := rfl
@[simp] theorem State.frameHandle_stop (s : State) (f : DemandFrame) : (s.frameHandle f).stop = s.stop := rfl
@[simp] theorem State.frameHandle_junct (s : State) (f : DemandFrame) : (s.frameHandle f).junct = s.junct := rfl
@[simp] theorem State.frameHandle_supply (s : State) (f : DemandFrame) : (s.frameHandle f).supply = s.supply := rfl
@[simp] theorem State.frameHandle_settings (s : State) (f : DemandFrame) : (s.frameHandle f).settings = s.settings := rfl

/-! ### `State.slipReported` -/

@[simp] theorem State.slipReported_pending (s : State) : (s.slipReported).pending = s.pending := rfl
@[simp] theorem State.slipReported_now (s : State) : (s.slipReported).now = s.now := rfl
@[simp] theorem State.slipReported_epoch (s : State) : (s.slipReported).epoch = s.epoch := rfl
@[simp] theorem State.slipReported_held (s : State) : (s.slipReported).held = s.held := rfl
@[simp] theorem State.slipReported_lines (s : State) : (s.slipReported).lines = s.lines := rfl
@[simp] theorem State.slipReported_ports (s : State) : (s.slipReported).ports = s.ports := rfl
@[simp] theorem State.slipReported_auth (s : State) : (s.slipReported).auth = s.auth := rfl
@[simp] theorem State.slipReported_shaper (s : State) : (s.slipReported).shaper = s.shaper := rfl
@[simp] theorem State.slipReported_tlink (s : State) : (s.slipReported).tlink = s.tlink := rfl
@[simp] theorem State.slipReported_vigil (s : State) : (s.slipReported).vigil = s.vigil := rfl
@[simp] theorem State.slipReported_sound (s : State) : (s.slipReported).sound = s.sound := rfl
@[simp] theorem State.slipReported_outbank (s : State) : (s.slipReported).outbank = s.outbank := rfl
@[simp] theorem State.slipReported_die (s : State) : (s.slipReported).die = s.die := rfl
@[simp] theorem State.slipReported_stop (s : State) : (s.slipReported).stop = s.stop := rfl
@[simp] theorem State.slipReported_junct (s : State) : (s.slipReported).junct = s.junct := rfl
@[simp] theorem State.slipReported_supply (s : State) : (s.slipReported).supply = s.supply := rfl
@[simp] theorem State.slipReported_settings (s : State) : (s.slipReported).settings = s.settings := rfl

/-! ### `State.keyTo` -/

@[simp] theorem State.keyTo_pending (s : State) (c : Cab) (on : Bool) : (s.keyTo c on).pending = s.pending := rfl
@[simp] theorem State.keyTo_now (s : State) (c : Cab) (on : Bool) : (s.keyTo c on).now = s.now := rfl
@[simp] theorem State.keyTo_epoch (s : State) (c : Cab) (on : Bool) : (s.keyTo c on).epoch = s.epoch := rfl
@[simp] theorem State.keyTo_raised (s : State) (c : Cab) (on : Bool) : (s.keyTo c on).raised = s.raised := rfl
@[simp] theorem State.keyTo_held (s : State) (c : Cab) (on : Bool) : (s.keyTo c on).held = s.held := rfl
@[simp] theorem State.keyTo_ports (s : State) (c : Cab) (on : Bool) : (s.keyTo c on).ports = s.ports := rfl
@[simp] theorem State.keyTo_auth (s : State) (c : Cab) (on : Bool) : (s.keyTo c on).auth = s.auth := rfl
@[simp] theorem State.keyTo_wheel (s : State) (c : Cab) (on : Bool) : (s.keyTo c on).wheel = s.wheel := rfl
@[simp] theorem State.keyTo_shaper (s : State) (c : Cab) (on : Bool) : (s.keyTo c on).shaper = s.shaper := rfl
@[simp] theorem State.keyTo_tlink (s : State) (c : Cab) (on : Bool) : (s.keyTo c on).tlink = s.tlink := rfl
@[simp] theorem State.keyTo_vigil (s : State) (c : Cab) (on : Bool) : (s.keyTo c on).vigil = s.vigil := rfl
@[simp] theorem State.keyTo_sound (s : State) (c : Cab) (on : Bool) : (s.keyTo c on).sound = s.sound := rfl
@[simp] theorem State.keyTo_outbank (s : State) (c : Cab) (on : Bool) : (s.keyTo c on).outbank = s.outbank := rfl
@[simp] theorem State.keyTo_die (s : State) (c : Cab) (on : Bool) : (s.keyTo c on).die = s.die := rfl
@[simp] theorem State.keyTo_stop (s : State) (c : Cab) (on : Bool) : (s.keyTo c on).stop = s.stop := rfl
@[simp] theorem State.keyTo_junct (s : State) (c : Cab) (on : Bool) : (s.keyTo c on).junct = s.junct := rfl
@[simp] theorem State.keyTo_supply (s : State) (c : Cab) (on : Bool) : (s.keyTo c on).supply = s.supply := rfl
@[simp] theorem State.keyTo_settings (s : State) (c : Cab) (on : Bool) : (s.keyTo c on).settings = s.settings := rfl

/-! ### `State.emstopTo` -/

@[simp] theorem State.emstopTo_pending (s : State) (c : Cab) (on : Bool) : (s.emstopTo c on).pending = s.pending := rfl
@[simp] theorem State.emstopTo_now (s : State) (c : Cab) (on : Bool) : (s.emstopTo c on).now = s.now := rfl
@[simp] theorem State.emstopTo_epoch (s : State) (c : Cab) (on : Bool) : (s.emstopTo c on).epoch = s.epoch := rfl
@[simp] theorem State.emstopTo_raised (s : State) (c : Cab) (on : Bool) : (s.emstopTo c on).raised = s.raised := rfl
@[simp] theorem State.emstopTo_held (s : State) (c : Cab) (on : Bool) : (s.emstopTo c on).held = s.held := rfl
@[simp] theorem State.emstopTo_ports (s : State) (c : Cab) (on : Bool) : (s.emstopTo c on).ports = s.ports := rfl
@[simp] theorem State.emstopTo_auth (s : State) (c : Cab) (on : Bool) : (s.emstopTo c on).auth = s.auth := rfl
@[simp] theorem State.emstopTo_wheel (s : State) (c : Cab) (on : Bool) : (s.emstopTo c on).wheel = s.wheel := rfl
@[simp] theorem State.emstopTo_shaper (s : State) (c : Cab) (on : Bool) : (s.emstopTo c on).shaper = s.shaper := rfl
@[simp] theorem State.emstopTo_tlink (s : State) (c : Cab) (on : Bool) : (s.emstopTo c on).tlink = s.tlink := rfl
@[simp] theorem State.emstopTo_vigil (s : State) (c : Cab) (on : Bool) : (s.emstopTo c on).vigil = s.vigil := rfl
@[simp] theorem State.emstopTo_sound (s : State) (c : Cab) (on : Bool) : (s.emstopTo c on).sound = s.sound := rfl
@[simp] theorem State.emstopTo_outbank (s : State) (c : Cab) (on : Bool) : (s.emstopTo c on).outbank = s.outbank := rfl
@[simp] theorem State.emstopTo_die (s : State) (c : Cab) (on : Bool) : (s.emstopTo c on).die = s.die := rfl
@[simp] theorem State.emstopTo_stop (s : State) (c : Cab) (on : Bool) : (s.emstopTo c on).stop = s.stop := rfl
@[simp] theorem State.emstopTo_junct (s : State) (c : Cab) (on : Bool) : (s.emstopTo c on).junct = s.junct := rfl
@[simp] theorem State.emstopTo_supply (s : State) (c : Cab) (on : Bool) : (s.emstopTo c on).supply = s.supply := rfl
@[simp] theorem State.emstopTo_settings (s : State) (c : Cab) (on : Bool) : (s.emstopTo c on).settings = s.settings := rfl

/-! ### `State.dclTo` -/

@[simp] theorem State.dclTo_pending (s : State) (b : Bool) : (s.dclTo b).pending = s.pending := rfl
@[simp] theorem State.dclTo_now (s : State) (b : Bool) : (s.dclTo b).now = s.now := rfl
@[simp] theorem State.dclTo_epoch (s : State) (b : Bool) : (s.dclTo b).epoch = s.epoch := rfl
@[simp] theorem State.dclTo_raised (s : State) (b : Bool) : (s.dclTo b).raised = s.raised := rfl
@[simp] theorem State.dclTo_held (s : State) (b : Bool) : (s.dclTo b).held = s.held := rfl
@[simp] theorem State.dclTo_ports (s : State) (b : Bool) : (s.dclTo b).ports = s.ports := rfl
@[simp] theorem State.dclTo_auth (s : State) (b : Bool) : (s.dclTo b).auth = s.auth := rfl
@[simp] theorem State.dclTo_wheel (s : State) (b : Bool) : (s.dclTo b).wheel = s.wheel := rfl
@[simp] theorem State.dclTo_shaper (s : State) (b : Bool) : (s.dclTo b).shaper = s.shaper := rfl
@[simp] theorem State.dclTo_tlink (s : State) (b : Bool) : (s.dclTo b).tlink = s.tlink := rfl
@[simp] theorem State.dclTo_vigil (s : State) (b : Bool) : (s.dclTo b).vigil = s.vigil := rfl
@[simp] theorem State.dclTo_sound (s : State) (b : Bool) : (s.dclTo b).sound = s.sound := rfl
@[simp] theorem State.dclTo_outbank (s : State) (b : Bool) : (s.dclTo b).outbank = s.outbank := rfl
@[simp] theorem State.dclTo_die (s : State) (b : Bool) : (s.dclTo b).die = s.die := rfl
@[simp] theorem State.dclTo_stop (s : State) (b : Bool) : (s.dclTo b).stop = s.stop := rfl
@[simp] theorem State.dclTo_junct (s : State) (b : Bool) : (s.dclTo b).junct = s.junct := rfl
@[simp] theorem State.dclTo_supply (s : State) (b : Bool) : (s.dclTo b).supply = s.supply := rfl
@[simp] theorem State.dclTo_settings (s : State) (b : Bool) : (s.dclTo b).settings = s.settings := rfl

/-! ### `State.idle` -/

@[simp] theorem State.idle_pending (s : State) : (s.idle).pending = s.pending := rfl
@[simp] theorem State.idle_epoch (s : State) : (s.idle).epoch = s.epoch := rfl
@[simp] theorem State.idle_raised (s : State) : (s.idle).raised = s.raised := rfl
@[simp] theorem State.idle_held (s : State) : (s.idle).held = s.held := rfl
@[simp] theorem State.idle_lines (s : State) : (s.idle).lines = s.lines := rfl
@[simp] theorem State.idle_ports (s : State) : (s.idle).ports = s.ports := rfl
@[simp] theorem State.idle_auth (s : State) : (s.idle).auth = s.auth := rfl
@[simp] theorem State.idle_wheel (s : State) : (s.idle).wheel = s.wheel := rfl
@[simp] theorem State.idle_shaper (s : State) : (s.idle).shaper = s.shaper := rfl
@[simp] theorem State.idle_tlink (s : State) : (s.idle).tlink = s.tlink := rfl
@[simp] theorem State.idle_vigil (s : State) : (s.idle).vigil = s.vigil := rfl
@[simp] theorem State.idle_sound (s : State) : (s.idle).sound = s.sound := rfl
@[simp] theorem State.idle_outbank (s : State) : (s.idle).outbank = s.outbank := rfl
@[simp] theorem State.idle_die (s : State) : (s.idle).die = s.die := rfl
@[simp] theorem State.idle_stop (s : State) : (s.idle).stop = s.stop := rfl
@[simp] theorem State.idle_junct (s : State) : (s.idle).junct = s.junct := rfl
@[simp] theorem State.idle_supply (s : State) : (s.idle).supply = s.supply := rfl
@[simp] theorem State.idle_settings (s : State) : (s.idle).settings = s.settings := rfl

/-! ### `State.answer` -/

@[simp] theorem State.answer_tlink (s : State) : (s.answer).tlink = s.tlink.answer := rfl
@[simp] theorem State.answer_pending (s : State) : (s.answer).pending = s.pending := rfl
@[simp] theorem State.answer_now (s : State) : (s.answer).now = s.now := rfl
@[simp] theorem State.answer_epoch (s : State) : (s.answer).epoch = s.epoch := rfl
@[simp] theorem State.answer_raised (s : State) : (s.answer).raised = s.raised := rfl
@[simp] theorem State.answer_held (s : State) : (s.answer).held = s.held := rfl
@[simp] theorem State.answer_lines (s : State) : (s.answer).lines = s.lines := rfl
@[simp] theorem State.answer_ports (s : State) : (s.answer).ports = s.ports := rfl
@[simp] theorem State.answer_auth (s : State) : (s.answer).auth = s.auth := rfl
@[simp] theorem State.answer_wheel (s : State) : (s.answer).wheel = s.wheel := rfl
@[simp] theorem State.answer_shaper (s : State) : (s.answer).shaper = s.shaper := rfl
@[simp] theorem State.answer_vigil (s : State) : (s.answer).vigil = s.vigil := rfl
@[simp] theorem State.answer_sound (s : State) : (s.answer).sound = s.sound := rfl
@[simp] theorem State.answer_outbank (s : State) : (s.answer).outbank = s.outbank := rfl
@[simp] theorem State.answer_die (s : State) : (s.answer).die = s.die := rfl
@[simp] theorem State.answer_stop (s : State) : (s.answer).stop = s.stop := rfl
@[simp] theorem State.answer_junct (s : State) : (s.answer).junct = s.junct := rfl
@[simp] theorem State.answer_supply (s : State) : (s.answer).supply = s.supply := rfl
@[simp] theorem State.answer_settings (s : State) : (s.answer).settings = s.settings := rfl

end Sys2Proof.Machine
end

