-- ==== Sys2Proof/Laws/Sets.lean ====
section
/-! SUPPORT. Rows of cells and sets of flags: what reading gives after a write. -/

namespace Sys2Proof.Machine

/-! ### Rows -/

@[simp] theorem cell_putCell_self {α : Type} {n : Nat} (v : Vector α n) (i : Fin n) (x : α) : cell (putCell v i x) i = x := by
  simp [cell, putCell]

theorem cell_putCell_other {α : Type} {n : Nat} (v : Vector α n) {i j : Fin n} (x : α) (h : j ≠ i) :
    cell (putCell v i x) j = cell v j := by
  have : (i : Nat) ≠ j := fun e => h (Fin.ext e.symm)
  simp [cell, putCell, this]

/-- A written cell holds the value, every other what it held. -/
theorem cell_putCell {α : Type} {n : Nat} (v : Vector α n) (i j : Fin n) (x : α) :
    cell (putCell v i x) j = if j = i then x else cell v j := by
  split
  · next h => rw [h, cell_putCell_self]
  · next h => exact cell_putCell_other v x h

@[simp] theorem cell_rowOf {α : Type} {n : Nat} (f : Fin n → α) (i : Fin n) : cell (rowOf f) i = f i := by
  simp [cell, rowOf]

/-! ### Flags -/

@[simp] theorem hasFlag_zero {n : Nat} (i : Nat) : hasFlag (0#n) i = false := by simp [hasFlag]

/-- An added kind is in the set, and no other kind comes or goes. -/
theorem hasFlag_addFlag {n : Nat} (x : BitVec n) {i : Nat} (h : i < n) (j : Nat) :
    hasFlag (addFlag x i) j = (hasFlag x j || decide (i = j)) := by
  unfold hasFlag addFlag
  rw [BitVec.getLsbD_or, BitVec.getLsbD_twoPow]
  simp [h]

/-- A dropped kind is not in the set, and no other kind comes or goes. -/
theorem hasFlag_dropFlag {n : Nat} (x : BitVec n) (i j : Nat) :
    hasFlag (dropFlag x i) j = (hasFlag x j && decide (i ≠ j)) := by
  unfold hasFlag dropFlag
  rw [BitVec.getLsbD_and, BitVec.getLsbD_not, BitVec.getLsbD_twoPow]
  by_cases h : j < n
  · by_cases e : i = j <;> simp [h, e]
  · simp [BitVec.getLsbD_of_ge x j (by omega)]

theorem addFlag_ne_zero {n : Nat} (x : BitVec n) {i : Nat} (h : i < n) : addFlag x i ≠ 0 := by
  intro e
  have := hasFlag_addFlag x h i
  rw [e] at this
  simp [hasFlag] at this

/-- Two kinds of one set have different places. -/
theorem EmSource.idx_inj {a b : EmSource} (h : a.idx = b.idx) : a = b := by
  cases a <;> cases b <;> first | rfl | (simp [EmSource.idx] at h)

theorem EmSource.idx_lt (k : EmSource) : k.idx < 8 := by cases k <;> decide

theorem Notice.idx_lt (k : Notice) : k.idx < 20 := by cases k <;> decide

end Sys2Proof.Machine
end

