-- ==== Sys2Proof/Laws/Emergency.lean ====
section
/-! SUPPORT. What adding and removing an emergency source can do (R57 to R59, R66). -/

namespace Sys2Proof.Machine

/-- After an addition the set holds the source and what it held. -/
theorem State.addSource_has (s : State) (k j : EmSource) :
    (s.addSource k).shaper.has j = (s.shaper.has j || decide (k = j)) := by
  have e : decide (k.idx = j.idx) = decide (k = j) := by
    by_cases h : k = j
    · simp [h]
    · have : k.idx ≠ j.idx := fun x => h (EmSource.idx_inj x)
      simp [h, this]
  rw [← e]
  exact hasFlag_addFlag s.shaper.sources k.idx_lt j.idx

/-- The set an addition leaves is never empty. -/
theorem State.addSource_sources_ne (s : State) (k : EmSource) : (s.addSource k).shaper.sources ≠ 0 :=
  addFlag_ne_zero _ k.idx_lt

/-- An addition changes SHAPER, SOUND and what waits to be routed alone. -/
theorem State.addSource_only (s : State) (k : EmSource) :
    { s.addSource k with shaper := s.shaper, sound := s.sound, raised := s.raised } = s := rfl

/-- An addition to a set that is not empty changes the set alone. -/
theorem State.addSource_active {s : State} (k : EmSource) (h : s.shaper.sources ≠ 0) :
    s.addSource k = { s with shaper := { s.shaper with sources := addFlag s.shaper.sources k.idx } } := by
  have : s.shaper.calm = false := by simpa [ShaperRec.calm] using h
  simp [State.addSource, ShaperRec.addSource, this]

/-- An addition to the empty set also puts O and O_prev at -1000, places the hazard request and raises EMERGENCY_CHANGED. -/
theorem State.addSource_calm {s : State} (k : EmSource) (h : s.shaper.sources = 0) :
    s.addSource k = { s with
      shaper := { s.shaper with sources := addFlag 0 k.idx, o := -1000, oPrev := -1000 }
      sound := s.sound.place s.now .hazard, raised := addFlag s.raised Notice.emergencyChanged.idx } := by
  have : s.shaper.calm = true := by simp [ShaperRec.calm, h]
  simp [State.addSource, ShaperRec.addSource, this, h]

/-- A removal changes SHAPER, SOUND and what waits to be routed alone. -/
theorem State.removeSource_only (s : State) (k : EmSource) :
    { s.removeSource k with shaper := s.shaper, sound := s.sound, raised := s.raised } = s := rfl

/-- A removal of a source that is not in the set changes nothing. -/
theorem State.removeSource_absent {s : State} {k : EmSource} (h : s.shaper.has k = false) : s.removeSource k = s := by
  have e : s.shaper.empties k = false := by simp [ShaperRec.empties, h]
  have d : dropFlag s.shaper.sources k.idx = s.shaper.sources := by
    apply BitVec.eq_of_getLsbD_eq
    intro i _
    have := hasFlag_dropFlag s.shaper.sources k.idx i
    unfold hasFlag at this
    rw [this]
    by_cases hi : k.idx = i
    · have hk : s.shaper.sources.getLsbD i = false := by rw [← hi]; exact h
      simp [hk]
    · simp [hi]
  simp [State.removeSource, State.calms, e, d]

/-- A removal that empties the set with the link UP disarms zero-pass, puts O_prev at -1000, withdraws the hazard request and
raises EMERGENCY_CHANGED. -/
theorem State.removeSource_calms {s : State} {k : EmSource} (h : s.calms k = true) :
    s.removeSource k = { s with
      shaper := { s.shaper with sources := 0, zeroPass := false, oPrev := -1000 }
      sound := s.sound.withdraw s.now .hazard, raised := addFlag s.raised Notice.emergencyChanged.idx } := by
  obtain ⟨he, hl⟩ : s.shaper.empties k = true ∧ s.outbank.linkUp = true := by simpa [State.calms] using h
  have hd : dropFlag s.shaper.sources k.idx = 0 := by
    have : s.shaper.has k = true ∧ dropFlag s.shaper.sources k.idx = 0 := by simpa [ShaperRec.empties] using he
    exact this.2
  simp [State.removeSource, h, he, hl, hd]

/-- A removal that does not empty the set for good changes the set alone. -/
theorem State.removeSource_keeps {s : State} {k : EmSource} (h : s.calms k = false) :
    s.removeSource k = { s with
      shaper := { s.shaper with
        sources := if s.shaper.empties k && !s.outbank.linkUp then addFlag 0 EmSource.loopDropped.idx
                   else dropFlag s.shaper.sources k.idx } } := by
  simp [State.removeSource, h]

/-- A conditional removal is the removal or nothing. -/
theorem State.removeSourceIf_eq (s : State) (b : Bool) (k : EmSource) :
    s.removeSourceIf b k = if b then s.removeSource k else s := rfl

end Sys2Proof.Machine
end

