-- ==== Sys2Proof/Laws/Junct.lean ====
section
/-! SUPPORT. What the operations on JUNCT's list of transactions can do. -/

namespace Sys2Proof.Machine

/-- The live transaction of an id is in the list and has that id (R152). -/
theorem JunctRec.live_some {j : JunctRec} {id : Nat} {t : Transaction} (h : j.live id = some t) : t ∈ j.list ∧ t.id = id :=
  ⟨List.mem_of_find?_eq_some h, by simpa using List.find?_some h⟩

/-- An entry found for an id is in the table and has that id (R144). -/
theorem JunctRec.entry_some {j : JunctRec} {id : Nat} {e : Entry} (h : j.entry id = some e) : e ∈ j.table ∧ e.id = id :=
  ⟨List.mem_of_find?_eq_some h, by simpa using List.find?_some h⟩

/-- No entry is found exactly when the table has none of the id. -/
theorem JunctRec.entry_none {j : JunctRec} {id : Nat} : j.entry id = none ↔ ∀ e ∈ j.table, e.id ≠ id := by
  simp [JunctRec.entry]

/-- Replacing a transaction keeps the ids of the list, in their order. -/
theorem JunctRec.putTrans_ids (j : JunctRec) (t : Transaction) : ((j.putTrans t).list.map fun u => u.id) = j.list.map fun u => u.id := by
  simp only [JunctRec.putTrans, List.map_map]
  apply List.map_congr_left
  intro u _
  simp only [Function.comp]
  split
  · next h => simpa using (by simpa using h : u.id = t.id).symm
  · rfl

/-- A change of a transaction touches JUNCT, SOUND and what waits to be routed alone. -/
theorem State.changeTrans_only (s : State) (t t' : Transaction) :
    { s.changeTrans t t' with junct := s.junct, sound := s.sound, raised := s.raised } = s := rfl

/-- A change that keeps the state sends no alert and raises nothing (R160). -/
theorem State.changeTrans_quiet {s : State} {t t' : Transaction} (h : t.state = t'.state) :
    s.changeTrans t t' = { s with junct := s.junct.putTrans t' } := by
  simp [State.changeTrans, h]

/-- After all are cancelled the list is empty (R166); the plan, the table and the sequence stay. -/
theorem State.cancelAll_list (s : State) : s.cancelAll.junct.list = [] := by
  unfold State.cancelAll
  dsimp only
  split
  · next h => simpa using h
  · rfl

theorem State.cancelAll_keeps (s : State) :
    s.cancelAll.junct.plan = s.junct.plan ∧ s.cancelAll.junct.table = s.junct.table ∧ s.cancelAll.junct.seq = s.junct.seq ∧
      s.cancelAll.junct.pendingOverride = s.junct.pendingOverride ∧ s.cancelAll.junct.presence = s.junct.presence := by
  unfold State.cancelAll
  dsimp only
  split <;> exact ⟨rfl, rfl, rfl, rfl, rfl⟩

/-- Cancelling touches JUNCT and what waits to be routed alone. -/
theorem State.cancelAll_only (s : State) : { s.cancelAll with junct := s.junct, raised := s.raised } = s := rfl

/-- Without loop presence no telegram is handed to the modem (R151). -/
theorem JunctRec.send_absent {j : JunctRec} (h : j.presence = false) (ts : List Telegram) : j.send ts = j := by
  cases j; simp_all [JunctRec.send]

/-- The caution ceiling falls away with an empty list (R163). -/
theorem JunctRec.caution_empty {j : JunctRec} (h : j.list = []) (ho : j.overflow = false) (odometer : Nat) :
    j.caution odometer = false := by
  simp [JunctRec.caution, h, ho]

end Sys2Proof.Machine
end

