-- ==== Sys2Proof/Laws/PerInstr.lean ====
section
/-! SUPPORT. What holds of every command as syntax, one lemma for each constructor: whether a desk frame carries it, and under
which code (R171, R172). -/

namespace Sys2Proof.Laws

/-- A well-formed command that a desk frame carries has a code of the catalogue (R172), unless it is the row of a code outside it
(R171); an event that no frame carries has no code. -/
def Framing.Statement (i : Instr) : Prop :=
  ∀ (p : Port) (code : Byte) (q : Params), encodeCommand i = some (p, code, q) → wellFormed i = true →
    (commandCodes.contains code = false ↔ i = .unknownCommand p code)

/-- An event without a frame. -/
theorem Framing.of_event {i : Instr} (h : encodeCommand i = none) : Framing.Statement i := by
  intro p code q he; simp [h] at he

/-- A command with a code of the catalogue. -/
theorem Framing.of_code {i : Instr} {p : Port} {code : Byte} {q : Params} (h : encodeCommand i = some (p, code, q))
    (hc : commandCodes.contains code = true) (hn : ∀ p c, i ≠ .unknownCommand p c) : Framing.Statement i := by
  intro p' code' q' he _
  obtain ⟨_, rfl, _⟩ : p = p' ∧ code = code' ∧ q = q' := by simpa [h] using he
  exact ⟨fun hx => (by rw [hc] at hx; cases hx), fun hx => absurd hx (hn _ _)⟩

theorem Framing.nop (p : Port) : Framing.Statement (.nop p) :=
  Framing.of_code rfl (by decide) (by simp)

theorem Framing.getNotices (p : Port) : Framing.Statement (.getNotices p) :=
  Framing.of_code rfl (by decide) (by simp)

theorem Framing.getStatus (p : Port) (group : BitVec 8) : Framing.Statement (.getStatus p group) :=
  Framing.of_code rfl (by decide) (by simp)

theorem Framing.demand (p : Port) (f : DemandFrame) : Framing.Statement (.demand p f) :=
  Framing.of_code rfl (by decide) (by simp)

theorem Framing.deskClaim (p : Port) : Framing.Statement (.deskClaim p) :=
  Framing.of_code rfl (by decide) (by simp)

theorem Framing.deskRelease (p : Port) : Framing.Statement (.deskRelease p) :=
  Framing.of_code rfl (by decide) (by simp)

theorem Framing.vigilReset (p : Port) : Framing.Statement (.vigilReset p) :=
  Framing.of_code rfl (by decide) (by simp)

theorem Framing.vacate (p : Port) : Framing.Statement (.vacate p) :=
  Framing.of_code rfl (by decide) (by simp)

theorem Framing.routeOverride (p : Port) (route : BitVec 8) : Framing.Statement (.routeOverride p route) :=
  Framing.of_code rfl (by decide) (by simp)

theorem Framing.junctionRepeat (p : Port) : Framing.Statement (.junctionRepeat p) :=
  Framing.of_code rfl (by decide) (by simp)

theorem Framing.getJunction (p : Port) (index part : BitVec 8)
    : Framing.Statement (.getJunction p index part) :=
  Framing.of_code rfl (by decide) (by simp)

theorem Framing.stopSet (p : Port) : Framing.Statement (.stopSet p) :=
  Framing.of_code rfl (by decide) (by simp)

theorem Framing.stopCancel (p : Port) : Framing.Statement (.stopCancel p) :=
  Framing.of_code rfl (by decide) (by simp)

theorem Framing.getStopRecord (p : Port) (index part : BitVec 8)
    : Framing.Statement (.getStopRecord p index part) :=
  Framing.of_code rfl (by decide) (by simp)

theorem Framing.touchRead (p : Port) (ask : ChannelPart) : Framing.Statement (.touchRead p ask) :=
  Framing.of_code rfl (by decide) (by simp)

theorem Framing.diagSummary (p : Port) : Framing.Statement (.diagSummary p) :=
  Framing.of_code rfl (by decide) (by simp)

theorem Framing.diagChannel (p : Port) (channel : BitVec 8) : Framing.Statement (.diagChannel p channel) :=
  Framing.of_code rfl (by decide) (by simp)

theorem Framing.outputTest (p : Port) (channel : BitVec 8) : Framing.Statement (.outputTest p channel) :=
  Framing.of_code rfl (by decide) (by simp)

theorem Framing.setLineLimit (p : Port) (value : BitVec 16) : Framing.Statement (.setLineLimit p value) :=
  Framing.of_code rfl (by decide) (by simp)

theorem Framing.setRunNumber (p : Port) (value : BitVec 16) : Framing.Statement (.setRunNumber p value) :=
  Framing.of_code rfl (by decide) (by simp)

theorem Framing.settingWrite (p : Port) (field : BitVec 8) (value : BitVec 16) (channel : BitVec 8)
    : Framing.Statement (.settingWrite p field value channel) :=
  Framing.of_code rfl (by decide) (by simp)

theorem Framing.settingRead (p : Port) (field channel : BitVec 8)
    : Framing.Statement (.settingRead p field channel) :=
  Framing.of_code rfl (by decide) (by simp)

theorem Framing.patternHeader (p : Port) (number count rep priority minRun : BitVec 8)
    : Framing.Statement (.patternHeader p number count rep priority minRun) :=
  Framing.of_code rfl (by decide) (by simp)

theorem Framing.patternStep (p : Port) (number index : BitVec 8) (on : Bool) (duration : BitVec 8) (tone : BitVec 16)
    : Framing.Statement (.patternStep p number index on duration tone) :=
  Framing.of_code rfl (by decide) (by simp)

theorem Framing.tableWrite (p : Port) (e : EntryFrame) : Framing.Statement (.tableWrite p e) :=
  Framing.of_code rfl (by decide) (by simp)

theorem Framing.tableDelete (p : Port) (id : BitVec 16) : Framing.Statement (.tableDelete p id) :=
  Framing.of_code rfl (by decide) (by simp)

theorem Framing.tableRead (p : Port) (position part : BitVec 8)
    : Framing.Statement (.tableRead p position part) :=
  Framing.of_code rfl (by decide) (by simp)

theorem Framing.tableSignature (p : Port) : Framing.Statement (.tableSignature p) :=
  Framing.of_code rfl (by decide) (by simp)

theorem Framing.planAppend (p : Port) (id : BitVec 16) (route : BitVec 8)
    : Framing.Statement (.planAppend p id route) :=
  Framing.of_code rfl (by decide) (by simp)

theorem Framing.planClear (p : Port) : Framing.Statement (.planClear p) :=
  Framing.of_code rfl (by decide) (by simp)

theorem Framing.planRead (p : Port) (position : BitVec 8) : Framing.Statement (.planRead p position) :=
  Framing.of_code rfl (by decide) (by simp)

theorem Framing.resetCause (p : Port) : Framing.Statement (.resetCause p) :=
  Framing.of_code rfl (by decide) (by simp)

theorem Framing.unknownCommand (p : Port) (code : BitVec 8) : Framing.Statement (.unknownCommand p code) := by
  intro p' code' q he hw
  obtain ⟨rfl, rfl, _⟩ : p = p' ∧ code = code' ∧ Params.none = q := by simpa [encodeCommand] using he
  exact ⟨fun _ => rfl, fun _ => by simpa [wellFormed] using hw⟩

theorem Framing.frameRejected (p : Port) (clocks : Nat) (byte0 : BitVec 8)
    : Framing.Statement (.frameRejected p clocks byte0) :=
  Framing.of_event rfl

theorem Framing.waitingForReleaseEnd (p : Port) : Framing.Statement (.waitingForReleaseEnd p) :=
  Framing.of_event rfl

theorem Framing.keyOff (c : Cab) : Framing.Statement (.keyOff c) :=
  Framing.of_event rfl

theorem Framing.emstopPress (c : Cab) : Framing.Statement (.emstopPress c) :=
  Framing.of_event rfl

theorem Framing.emstopRelease (c : Cab) : Framing.Statement (.emstopRelease c) :=
  Framing.of_event rfl

theorem Framing.dclOpen : Framing.Statement .dclOpen :=
  Framing.of_event rfl

theorem Framing.dclClose : Framing.Statement .dclClose :=
  Framing.of_event rfl

theorem Framing.tachoPulse (i : Sensor) (bHigh : Bool) : Framing.Statement (.tachoPulse i bHigh) :=
  Framing.of_event rfl

theorem Framing.windowEnd : Framing.Statement .windowEnd :=
  Framing.of_event rfl

theorem Framing.slipRunOnExpiry : Framing.Statement .slipRunOnExpiry :=
  Framing.of_event rfl

theorem Framing.shaperPeriod : Framing.Statement .shaperPeriod :=
  Framing.of_event rfl

theorem Framing.freshness300MsExpiry : Framing.Statement .freshness300MsExpiry :=
  Framing.of_event rfl

theorem Framing.freshness1000MsExpiry : Framing.Statement .freshness1000MsExpiry :=
  Framing.of_event rfl

theorem Framing.claimWindowExpiry : Framing.Statement .claimWindowExpiry :=
  Framing.of_event rfl

theorem Framing.tlinkCycleStart : Framing.Statement .tlinkCycleStart :=
  Framing.of_event rfl

theorem Framing.stationReplyGood (r : StationReply) : Framing.Statement (.stationReplyGood r) :=
  Framing.of_event rfl

theorem Framing.stationMiss (m : Miss) : Framing.Statement (.stationMiss m) :=
  Framing.of_event rfl

theorem Framing.vigilActivityTimerExpiry : Framing.Statement .vigilActivityTimerExpiry :=
  Framing.of_event rfl

theorem Framing.warnTimerExpiry : Framing.Statement .warnTimerExpiry :=
  Framing.of_event rfl

theorem Framing.graceTimerExpiry : Framing.Statement .graceTimerExpiry :=
  Framing.of_event rfl

theorem Framing.patternStepExpiry (slot : SlotId) : Framing.Statement (.patternStepExpiry slot) :=
  Framing.of_event rfl

theorem Framing.minimumRunReached (c : Sounder) : Framing.Statement (.minimumRunReached c) :=
  Framing.of_event rfl

theorem Framing.toneHalfPeriod : Framing.Statement .toneHalfPeriod :=
  Framing.of_event rfl

theorem Framing.touchScanStart : Framing.Statement .touchScanStart :=
  Framing.of_event rfl

theorem Framing.touchMeasurement (k : Fin 16) (count : BitVec 12)
    : Framing.Statement (.touchMeasurement k count) :=
  Framing.of_event rfl

theorem Framing.driveFrame (a : DriveArrival) (openLoad : BitVec 12)
    : Framing.Statement (.driveFrame a openLoad) :=
  Framing.of_event rfl

theorem Framing.switchDieSafe : Framing.Statement .switchDieSafe :=
  Framing.of_event rfl

theorem Framing.currentLimitTrip (n : Fin 12) : Framing.Statement (.currentLimitTrip n) :=
  Framing.of_event rfl

theorem Framing.retryExpiry (n : Fin 12) : Framing.Statement (.retryExpiry n) :=
  Framing.of_event rfl

theorem Framing.overtempChange (n : Fin 12) (hot : Bool) : Framing.Statement (.overtempChange n hot) :=
  Framing.of_event rfl

theorem Framing.uvOnset : Framing.Statement .uvOnset :=
  Framing.of_event rfl

theorem Framing.uvRecovery : Framing.Statement .uvRecovery :=
  Framing.of_event rfl

theorem Framing.statusSlotClose (a : StatusArrival) : Framing.Statement (.statusSlotClose a) :=
  Framing.of_event rfl

theorem Framing.requestBeacon (id : BitVec 16) : Framing.Statement (.requestBeacon id) :=
  Framing.of_event rfl

theorem Framing.confirmBeacon (id : BitVec 16) (routeSet : BitVec 3) (locked occupied : Bool)
    : Framing.Statement (.confirmBeacon id routeSet locked occupied) :=
  Framing.of_event rfl

theorem Framing.report (id : BitVec 16) (tram : BitVec 16) (seq : BitVec 3) (result : ReportResult) (routeSet : BitVec 8)
    : Framing.Statement (.report id tram seq result routeSet) :=
  Framing.of_event rfl

theorem Framing.telegramDropped : Framing.Statement .telegramDropped :=
  Framing.of_event rfl

theorem Framing.loopPresenceLapse : Framing.Statement .loopPresenceLapse :=
  Framing.of_event rfl

theorem Framing.reportTimerExpiry (id : BitVec 16) : Framing.Statement (.reportTimerExpiry id) :=
  Framing.of_event rfl

theorem Framing.coreSupplySample (low : Bool) (sel : SelLow)
    : Framing.Statement (.coreSupplySample low sel) :=
  Framing.of_event rfl

theorem Framing.supplyLowReset : Framing.Statement .supplyLowReset :=
  Framing.of_event rfl

theorem Framing.powerOnReset (lines : Lines) (sel : SelLow) : Framing.Statement (.powerOnReset lines sel) :=
  Framing.of_event rfl

theorem Framing.resetnFall : Framing.Statement .resetnFall :=
  Framing.of_event rfl

theorem Framing.pinLatchArmed : Framing.Statement .pinLatchArmed :=
  Framing.of_event rfl

theorem Framing.resetnRise (sel : SelLow) : Framing.Statement (.resetnRise sel) :=
  Framing.of_event rfl

theorem Framing.batterySample (millivolts : Nat) : Framing.Statement (.batterySample millivolts) :=
  Framing.of_event rfl

theorem Framing.keyOn (c : Cab) : Framing.Statement (.keyOn c) :=
  Framing.of_event rfl

theorem Framing.switchDiePowerUp : Framing.Statement .switchDiePowerUp :=
  Framing.of_event rfl

end Sys2Proof.Laws
end

