-- ==== Sys2Proof/Laws/Ports.lean ====
section
/-! SUPPORT. What taking a frame can do: the laws of delivery, of replies, and of a gated command. -/

namespace Sys2Proof.Machine

/-! ### Ports -/

@[simp] theorem ByPort.get_put_self {α : Type} (x : ByPort α) (p : Port) (y : α) : (x.put p y).get p = y := by
  cases p <;> simp [ByPort.get, ByPort.put]

theorem ByPort.get_put_other {α : Type} (x : ByPort α) {p q : Port} (y : α) (h : q ≠ p) : (x.put p y).get q = x.get q := by
  cases p <;> cases q <;> simp_all [ByPort.get, ByPort.put]

@[simp] theorem PortRec.notify_zero (r : PortRec) : r.notify 0#20 = r := by simp [PortRec.notify]

/-- Nothing is told when nothing was raised. -/
@[simp] theorem noticesFor_zero (a : Auth) (p : Port) : noticesFor a 0#20 p = 0#20 := by simp [noticesFor]

/-- The notices a delivery adds to a port. -/
theorem State.deliver_get (s : State) (p : Port) :
    s.deliver.ports.get p = (s.ports.get p).notify (noticesFor s.auth s.raised p) := by
  cases p <;> rfl

@[simp] theorem State.deliver_raised (s : State) : s.deliver.raised = 0 := rfl

/-- With nothing raised a delivery changes nothing. -/
theorem State.deliver_quiet {s : State} (h : s.raised = 0) : s.deliver = s := by
  cases s; simp_all [State.deliver]

@[simp] theorem State.reply_replyOf (s : State) (p : Port) (r : Reply) : (s.reply p r).replyOf p = r := by
  simp [State.reply, State.replyOf, PortRec.answered]

@[simp] theorem State.deliver_replyOf (s : State) (p : Port) : s.deliver.replyOf p = s.replyOf p := by
  simp [State.replyOf, State.deliver_get, PortRec.notify]

/-- A reply leaves every notice set. -/
@[simp] theorem State.reply_notices (s : State) (p q : Port) (r : Reply) :
    ((s.reply p r).ports.get q).notices = (s.ports.get q).notices := by
  cases p <;> cases q <;> rfl

/-- A reply changes the ports alone. -/
theorem State.reply_only_ports (s : State) (p : Port) (r : Reply) : { s.reply p r with ports := s.ports } = s := rfl

/-- A delivery changes the ports and what waits to be routed alone. -/
theorem State.deliver_only_ports (s : State) : { s.deliver with ports := s.ports, raised := s.raised } = s := rfl

/-! ### Commands -/

/-- A reply concluded with nothing raised. -/
theorem State.conclude_quiet {p : Port} {code : BitVec 8} {r : State × Answer} (h : r.1.raised = 0) :
    State.conclude p code r = r.1.reply p (r.2.reply code) := State.deliver_quiet h

/-- A frame is taken on a port that takes frames. -/
theorem State.taking_of {p : Port} {f : State → State} {s : State} (h : Taking p s) : s.taking p f = f s := by
  obtain ⟨h1, h2, _⟩ := h; simp [State.taking, h1, h2]

/-- A command from a standing it is taken from is its rule, concluded. -/
theorem State.command_taken {p : Port} {code : BitVec 8} {rule : State → State × Answer} {s : State} {f : Permit}
    (h : Taking p s) (hc : permitOf code = some f) (hf : f (s.auth.standing p) = true) :
    s.command p code rule = State.conclude p code (rule s) := by
  simp [State.command, State.taking_of h, hc, hf]

/-- A command from another standing is refused NOT_PERMITTED and does nothing else (R171). -/
theorem State.command_refused {p : Port} {code : BitVec 8} {rule : State → State × Answer} {s : State} {f : Permit}
    (h : Taking p s) (hc : permitOf code = some f) (hf : f (s.auth.standing p) = false) :
    s.command p code rule = s.refuse p code .notPermitted := by
  simp [State.command, State.taking_of h, hc, hf, State.conclude, State.refuse, refusal, Answer.refused, Answer.reply]
  exact State.deliver_quiet h.2.2

/-- A rule that refuses is the refusal's reply and nothing else. -/
theorem State.conclude_refusal {p : Port} {code : BitVec 8} {s : State} {r : Reason} (h : s.raised = 0) :
    State.conclude p code (s, .refused r) = s.refuse p code r := State.deliver_quiet h

/-- An event of the running die is its effect with its notices routed. -/
theorem State.event_of {s : State} {f : State → State} (h : s.held = false) : s.event f = (f s).deliver := by
  simp [State.event, h]

/-- A line event of the running die. -/
theorem State.lineEvent_of {s : State} {l f : State → State} (h : s.held = false) : s.lineEvent l f = (f s).deliver := by
  simp [State.lineEvent, h]

end Sys2Proof.Machine
end

