-- ==== Sys2Proof/Laws/Sound.lean ====
section
/-! SUPPORT. What the operations on SOUND's slots and level requests can do (R99 to R102), each changing its own channel alone, and
what TONE's half-period can do (R106). -/

namespace Sys2Proof.Machine

theorem slotOf_inj {c e : Sounder} (h : slotOf c = slotOf e) : c = e := by
  cases c <;> cases e <;> first | rfl | (simp [slotOf] at h)

/-! ### Slots and requests -/

theorem SoundRec.slot_putSlot (s : SoundRec) (now : Nat) (c e : Sounder) (i : Option Instance) :
    (s.putSlot now c i).slot e = if e = c then i else s.slot e := by
  have : (s.putSlot now c i).slot e = cell (putCell s.slots (slotOf c) i) (slotOf e) := rfl
  rw [this, cell_putCell]
  by_cases h : e = c
  · simp [h]
  · have : slotOf e ≠ slotOf c := fun x => h (slotOf_inj x)
    simp [h, this, SoundRec.slot]

@[simp] theorem SoundRec.req_putSlot (s : SoundRec) (now : Nat) (c e : Sounder) (i : Option Instance) :
    (s.putSlot now c i).req e = s.req e := rfl

/-- TONE is CHIME's alone (R106): another channel's slot leaves its level and the time of its next change. -/
theorem SoundRec.tone_putSlot (s : SoundRec) (now : Nat) {c : Sounder} (i : Option Instance) (h : c ≠ .chime) :
    (s.putSlot now c i).toneHigh = s.toneHigh ∧ (s.putSlot now c i).toneDue = s.toneDue := by
  simp [SoundRec.putSlot, h]

/-- Whatever CHIME's slot takes, TONE is high exactly if it has a wave, which starts then (R106). -/
theorem SoundRec.tone_putSlot_chime (s : SoundRec) (now : Nat) (i : Option Instance) :
    (s.putSlot now .chime i).toneHigh = (s.putSlot now .chime i).waving ∧
      (s.putSlot now .chime i).toneDue = (s.putSlot now .chime i).waveDue now := by
  constructor <;> rfl

/-- All that a half-period can do (R106): nothing without a running wave, else the change of level that was due. -/
theorem State.toneChange_cases (s : State) :
    ((s.sound.toneDue = none ∨ s.sound.waving = false) ∧ s.toneChange = s) ∨
      ∃ due, s.sound.toneDue = some due ∧ s.sound.waving = true ∧
        s.toneChange = { s.reach (due / 1000) with sound := s.sound.toneToggle due } := by
  unfold State.toneChange
  cases hd : s.sound.toneDue with
  | none => exact .inl ⟨.inl rfl, rfl⟩
  | some due =>
    cases hw : s.sound.waving with
    | false => exact .inl ⟨.inr rfl, by simp⟩
    | true => exact .inr ⟨due, rfl, rfl, by simp⟩

@[simp] theorem SoundRec.slot_putReq (s : SoundRec) (c e : Sounder) (r : LevelReq) : (s.putReq c r).slot e = s.slot e := rfl

theorem SoundRec.req_putReq (s : SoundRec) (c e : Sounder) (r : LevelReq) :
    (s.putReq c r).req e = if e = c then r else s.req e := by
  have : (s.putReq c r).req e = cell (putCell s.level (slotOf c) r) (slotOf e) := rfl
  rw [this, cell_putCell]
  by_cases h : e = c
  · simp [h]
  · have : slotOf e ≠ slotOf c := fun x => h (slotOf_inj x)
    simp [h, this, SoundRec.req]

/-- Two records agree on a channel's slot and level request. -/
def SoundRec.agreeOn (a b : SoundRec) (e : Sounder) : Prop := b.slot e = a.slot e ∧ b.req e = a.req e

/-- Starting a channel's level instance keeps every request, and every other channel's slot. -/
theorem SoundRec.startLevel_other (s : SoundRec) (now : Nat) {c e : Sounder} (h : e ≠ c) :
    s.agreeOn (s.startLevel now c) e := by
  unfold SoundRec.startLevel
  split
  · exact ⟨rfl, rfl⟩
  · exact ⟨by simp [SoundRec.slot_putSlot, h], rfl⟩

@[simp] theorem SoundRec.startLevel_req (s : SoundRec) (now : Nat) (c e : Sounder) : (s.startLevel now c).req e = s.req e := by
  unfold SoundRec.startLevel
  split <;> rfl

/-- An ended slot is empty, but where the request stands unspent its level instance has started; no other channel changes
(R102). -/
theorem SoundRec.endSlot_other (s : SoundRec) (now : Nat) {c e : Sounder} (h : e ≠ c) : s.agreeOn (s.endSlot now c) e := by
  unfold SoundRec.endSlot
  split
  · obtain ⟨h1, h2⟩ := SoundRec.startLevel_other (s.putSlot now c none) now h
    exact ⟨h1.trans (by simp [SoundRec.slot_putSlot, h]), h2⟩
  · exact ⟨by simp [SoundRec.slot_putSlot, h], rfl⟩

theorem SoundRec.endSlot_empty {s : SoundRec} (now : Nat) {c : Sounder} (h : s.req c ≠ .placed false) :
    s.endSlot now c = s.putSlot now c none := by
  unfold SoundRec.endSlot
  split
  · next e => exact absurd e h
  · rfl

@[simp] theorem SoundRec.endSlot_req (s : SoundRec) (now : Nat) (c e : Sounder) : (s.endSlot now c).req e = s.req e := by
  unfold SoundRec.endSlot
  split <;> simp

/-! ### Placing and withdrawing (R100) -/

/-- A placing leaves the channel's request placed. -/
theorem SoundRec.place_req (s : SoundRec) (now : Nat) (c : Sounder) : (s.place now c).req c ≠ .notPlaced := by
  unfold SoundRec.place
  split
  · next e => rw [e]; exact LevelReq.noConfusion
  · dsimp only
    repeat' split
    all_goals simp [SoundRec.req_putReq]

/-- A placing changes no other channel. -/
theorem SoundRec.place_other (s : SoundRec) (now : Nat) {c e : Sounder} (h : e ≠ c) : s.agreeOn (s.place now c) e := by
  have hs := SoundRec.startLevel_other (s.putReq c (.placed false)) now h
  have hr : (s.putReq c (.placed false)).req e = s.req e := by simp [SoundRec.req_putReq, h]
  unfold SoundRec.place
  split
  · exact ⟨rfl, rfl⟩
  · dsimp only
    repeat' split
    all_goals first
      | exact ⟨hs.1, hs.2.trans hr⟩
      | exact ⟨by simp [SoundRec.slot_putSlot, h], hr⟩

/-- A withdrawing leaves the channel's request not placed. -/
theorem SoundRec.withdraw_req (s : SoundRec) (now : Nat) (c : Sounder) : (s.withdraw now c).req c = .notPlaced := by
  unfold SoundRec.withdraw
  split
  · next e => exact e
  · dsimp only
    repeat' split
    all_goals first
      | (rw [SoundRec.endSlot_req]; simp [SoundRec.req_putReq])
      | simp [SoundRec.req, SoundRec.putReq]

/-- A one-shot request keeps every level request and every other channel's slot (R101). -/
theorem SoundRec.oneShot_other (s : SoundRec) (now : Nat) {c e : Sounder} (p : Fin 8) (who : Requester) (h : e ≠ c) :
    s.agreeOn (s.oneShot now c p who) e := by
  unfold SoundRec.oneShot
  dsimp only
  repeat' split
  all_goals first
    | exact ⟨rfl, rfl⟩
    | exact ⟨by simp [SoundRec.slot_putSlot, h], rfl⟩

end Sys2Proof.Machine
end

