-- ==== Sys2Proof/Laws/Tlink.lean ====
section
/-! SUPPORT. TLINK's shared operations: when a reply window is open, what a reply or a miss can do, and what a closing leaves
alone; and the widths of the fields that may be absent. -/

namespace Sys2Proof.Machine

/-- A reply window is open exactly when a poll is open that has not closed. -/
theorem State.window_eq_some {s : State} {p : PollRec} :
    s.window = some p ↔ s.tlink.poll = some p ∧ s.now ≤ p.closes := by
  simp [State.window, Option.filter_eq_some_iff]

/-- The open poll of a station is the open poll, when it is that station's. -/
theorem TlinkRec.pollOf_eq_some {t : TlinkRec} {st : Station} {p : PollRec} :
    t.pollOf st = some p ↔ t.poll = some p ∧ p.frame.station = st := by
  simp [TlinkRec.pollOf, Option.filter_eq_some_iff]

/-- A station has replied exactly when an answered poll of it is still in its window. -/
theorem State.replied_iff {s : State} {st : Station} :
    s.replied st = true ↔ ∃ p ∈ s.tlink.answered, p.frame.station = st ∧ s.now ≤ p.closes := by
  simp [State.replied]

@[simp] theorem TlinkRec.answer_answered (t : TlinkRec) : t.answer.answered = t.poll.toList ++ t.answered := rfl
@[simp] theorem TlinkRec.answer_poll (t : TlinkRec) : t.answer.poll = t.poll := rfl
@[simp] theorem TlinkRec.answer_tu1 (t : TlinkRec) : t.answer.tu1 = t.tu1 := rfl
@[simp] theorem TlinkRec.answer_tu2 (t : TlinkRec) : t.answer.tu2 = t.tu2 := rfl
@[simp] theorem TlinkRec.answer_brk (t : TlinkRec) : t.answer.brk = t.brk := rfl
@[simp] theorem TlinkRec.answer_handOver (t : TlinkRec) : t.answer.handOver = t.handOver := rfl
@[simp] theorem TlinkRec.answer_cycle (t : TlinkRec) : t.answer.cycle = t.cycle := rfl
@[simp] theorem TlinkRec.answer_cycleAt (t : TlinkRec) : t.answer.cycleAt = t.cycleAt := rfl

/-- All that a reply can do: nothing, when no window is open or its sender has replied in a window that still runs; the closing it
is for; or a miss of the polled station. -/
theorem State.stationReply_cases (r : StationReply) (s : State) :
    (s.window = none ∧ s.stationReply r = s) ∨
      ∃ p, s.window = some p ∧
        ((replyStation r = p.frame.station ∧ s.stationReply r = s.answer.closeReply r) ∨
          (replyStation r ≠ p.frame.station ∧ s.replied (replyStation r) = true ∧ s.stationReply r = s) ∨
          (replyStation r ≠ p.frame.station ∧ s.replied (replyStation r) = false ∧
            s.stationReply r = s.answer.closeMiss p.frame.station)) := by
  unfold State.stationReply
  cases h : s.window with
  | none => exact .inl ⟨rfl, rfl⟩
  | some p =>
    by_cases hr : replyStation r = p.frame.station
    · exact .inr ⟨p, rfl, .inl ⟨hr, by simp [hr]⟩⟩
    · cases ha : s.replied (replyStation r) with
      | true => exact .inr ⟨p, rfl, .inr (.inl ⟨hr, rfl, by simp [hr]⟩)⟩
      | false => exact .inr ⟨p, rfl, .inr (.inr ⟨hr, rfl, by simp [hr]⟩)⟩

/-- All that a miss can do: nothing, or the closing of the station's poll, a missing reply's at the window's close. -/
theorem State.stationMiss_cases (st : Station) (cause : MissCause) (s : State) :
    s.stationMiss st cause = s ∨
      ∃ p, s.tlink.pollOf st = some p ∧
        ((cause = .bad ∧ s.now ≤ p.closes ∧ s.stationMiss st cause = s.answer.closeMiss st) ∨
          (cause = .missing ∧ s.stationMiss st cause = (s.reach p.closes).closeMiss st)) := by
  unfold State.stationMiss
  cases s.tlink.pollOf st with
  | none => exact .inl rfl
  | some p =>
    cases cause with
    | bad =>
      by_cases h : s.now ≤ p.closes
      · exact .inr ⟨p, rfl, .inl ⟨rfl, h, by simp [h]⟩⟩
      · exact .inl (by simp [h])
    | missing => exact .inr ⟨p, rfl, .inr ⟨rfl, rfl⟩⟩

@[simp] theorem State.closeTu1_tu1 (t : TuRec) (s : State) : (s.closeTu1 t).tlink.tu1 = t := rfl
@[simp] theorem State.closeTu1_tu2 (t : TuRec) (s : State) : (s.closeTu1 t).tlink.tu2 = s.tlink.tu2 := rfl
@[simp] theorem State.closeTu1_brk (t : TuRec) (s : State) : (s.closeTu1 t).tlink.brk = s.tlink.brk := rfl
@[simp] theorem State.closeTu1_shaper (t : TuRec) (s : State) : (s.closeTu1 t).shaper = s.shaper := rfl
@[simp] theorem State.closeTu1_auth (t : TuRec) (s : State) : (s.closeTu1 t).auth = s.auth := rfl
@[simp] theorem State.closeTu1_wheel (t : TuRec) (s : State) : (s.closeTu1 t).wheel = s.wheel := rfl
@[simp] theorem State.closeTu1_sound (t : TuRec) (s : State) : (s.closeTu1 t).sound = s.sound := rfl
@[simp] theorem State.closeTu1_ports (t : TuRec) (s : State) : (s.closeTu1 t).ports = s.ports := rfl
@[simp] theorem State.closeTu1_now (t : TuRec) (s : State) : (s.closeTu1 t).now = s.now := rfl
@[simp] theorem State.closeTu2_tu1 (t : TuRec) (s : State) : (s.closeTu2 t).tlink.tu1 = s.tlink.tu1 := rfl
@[simp] theorem State.closeTu2_tu2 (t : TuRec) (s : State) : (s.closeTu2 t).tlink.tu2 = t := rfl
@[simp] theorem State.closeTu2_brk (t : TuRec) (s : State) : (s.closeTu2 t).tlink.brk = s.tlink.brk := rfl
@[simp] theorem State.closeTu2_shaper (t : TuRec) (s : State) : (s.closeTu2 t).shaper = s.shaper := rfl
@[simp] theorem State.closeTu2_auth (t : TuRec) (s : State) : (s.closeTu2 t).auth = s.auth := rfl
@[simp] theorem State.closeTu2_wheel (t : TuRec) (s : State) : (s.closeTu2 t).wheel = s.wheel := rfl
@[simp] theorem State.closeTu2_sound (t : TuRec) (s : State) : (s.closeTu2 t).sound = s.sound := rfl
@[simp] theorem State.closeTu2_ports (t : TuRec) (s : State) : (s.closeTu2 t).ports = s.ports := rfl
@[simp] theorem State.closeTu2_now (t : TuRec) (s : State) : (s.closeTu2 t).now = s.now := rfl

/-- A field that may be absent takes its presence bit and its width, present or not (R185). -/
@[simp] theorem optField_width (w : Nat) (x : Option Nat) : (optField w x).1 = w + 1 := by cases x <;> rfl

@[simp] theorem optField_none (w : Nat) : (optField w none).2 = 0 := rfl

@[simp] theorem optField_some (w x : Nat) : (optField w (some x)).2 = 2 ^ w + x % 2 ^ w := rfl

end Sys2Proof.Machine
end

