-- ==== Sys2Proof/Tests/Slice0.lean ====
section
/-! SUPPORT. Tests of one step each, their expected results worked out from the manual's worked sequences and tables, and a witness
for the hypotheses of each statement. -/

namespace Sys2Proof.Tests

open Sys2Proof Sys2Proof.Machine

set_option Elab.async false

/-! ### States of the worked sequences -/

/-- The state a command leaves. -/
def after (i : Instr) (s : State) : State :=
  match exec i s with
  | .next t => t
  | _ => s

/-- A traction unit that answers READY. -/
def tuReady : TuRec :=
  { answering := true, missRun := 0, last := some { unit := .ready, effort := 1000, slip := false, lineVoltage := true } }

/-- A brake control unit that answers READY with the holding brake applied. -/
def brkReady : BrkRec :=
  { answering := true, missRun := 0, last := some { unit := .ready, brakeApplied := true, brakeAvailable := true } }

/-- After power-up: key A on, every station and the isolation link up, VACANT with STARTUP in the set (section 5.6). -/
def parked : State :=
  { State.reset with
    lines := { State.reset.lines with keyA := true }
    tlink := { State.reset.tlink with tu1 := tuReady, tu2 := tuReady, brk := brkReady }
    outbank := { State.reset.outbank with linkUp := true, badRun := 0, goodRun := 8 } }

/-- Cab A claims. -/
def claims : State := { parked with auth := .claiming .A 0 none }

/-- A demand record with a lever. -/
def demandOf (lever : Int) : DemandBody :=
  { lever := lever, handle := true, horn := false, bell := false, sand := false, takenAt := 0 }

/-- Cab A holds at rest, FORWARD, the set empty. -/
def stands : State :=
  { parked with
    auth := .held .A .forward
    shaper := { parked.shaper with demand := some (demandOf 0), stage := .fresh, zeroPass := true, o := 0, sources := 0, c := 1000 }
    sound := SoundRec.silent }

/-- Cab A runs at 150, watched. -/
def runs : State :=
  { stands with
    wheel := { stands.wheel with stationary := false, emptyRun := 0, v := 150 }
    vigil := { stands.vigil with state := .watch, lastActivity := some 0 } }

/-- Cab A's key has gone off in motion (section 1.9). -/
def lostA : State :=
  { runs with
    auth := .lost .A .forward, lines := State.reset.lines
    shaper := { runs.shaper with demand := none, zeroPass := false, o := -1000, oPrev := -1000, sources := 0x10 }
    sound := SoundRec.reset 0 }

/-- A frame with a lever, FORWARD, the handle held. -/
def frameOf (lever : Byte) : DemandFrame :=
  { lever := lever, direction := 1, handle := true, horn := false, bell := false, sand := false }

/-- Penalty at rest (section 6.9), the record's lever as given. -/
def penalty (lever : Int) : State :=
  { stands with
    vigil := { stands.vigil with state := .penalty }
    shaper := { stands.shaper with demand := some (demandOf lever), o := -1000, sources := 0x08 }
    sound := SoundRec.reset 0 }

/-- Junction 310 of section 10.9. -/
def entry310 : Entry := { id := 310, routes := 2, defaultRoute := 1, override := true, points := 80, clear := 25 }

/-- Another junction, the next of the plan. -/
def entry318 : Entry := { id := 318, routes := 1, defaultRoute := 1, override := false, points := 100, clear := 10 }

/-- Cab A runs toward junction 310 (section 10.9), the odometer at 2,000,000. -/
def nears : State :=
  { runs with
    wheel := { runs.wheel with odometer := 2000000, v := 90 }
    settings := { runs.settings with tram := 214, run := 37 }
    junct := { JunctRec.reset with table := [entry310, entry318], plan := [{ id := 310, route := 2 }, { id := 318, route := 1 }], seq := 5 } }

/-- The transaction for 310 (section 10.9). -/
def trans310 : Transaction :=
  { id := 310, route := 2, source := .plan, seq := 6, state := .requesting, tries := 1, timer := some 400, requestMark := 2000000,
    cautionMark := 2020000, clearMark := 2105000, last := none }

/-- The transaction for 310 is live on its loop. -/
def asks : State :=
  { nears with
    junct := { nears.junct with list := [trans310], plan := [{ id := 318, route := 1 }], seq := 6, presence := true, lapseAt := some 200 } }

/-- Channel 5, door 3, about to confirm a press (section 9.8). -/
def presses : State :=
  { runs with
    wheel := { runs.wheel with odometer := 5412300 }
    stop := { runs.stop with
      chans := putCell runs.stop.chans 5
        ({ cell runs.stop.chans 5 with state := .pressing, baseline := some 32000, saved := some 32000, confirm := 2 } : TouchRec) } }

/-- An instance of a pattern that started at 0. -/
def instanceOf (p : Fin 8) (who : Requester) (kind : InstanceKind) (stepEnd : Nat) (left : Option Nat) : Instance :=
  { pattern := p, requester := who, kind := kind, step := 0, stepEnd := stepEnd, repeatsLeft := left, started := 0 }

/-- A state with an instance in a channel's slot. -/
def withSlot (s : State) (c : Sounder) (i : Instance) : State :=
  { s with sound := { s.sound with slots := putCell s.sound.slots (slotOf c) (some i) } }

/-- A poll has just begun. -/
def polls (s : State) (f : Poll) : State := { s with tlink := { s.tlink with poll := some { frame := f, began := s.now } } }

/-- The command frame of TU2's poll after a reset (R71, R72). -/
def resetCommand : TuCommand := { demand := -1000, direction := .none, brake := true, emergency := true, count := 0 }

/-- BRK's poll after a reset (R71, R73). -/
def brkPoll : Poll := .brk { demand := 1000, brake := true, emergency := true }

/-- The switch die follows, channel 0 on. -/
def dieOn : State :=
  { runs with
    die := { runs.die with
      following := true, taken := 1
      chans := putCell runs.die.chans 0 { sw := .on, history := [], hot := false } } }

/-- No select line low. -/
def noSel : SelLow := { a := false, b := false, v := false }

/-! ### Ill-formed commands (R72, R74, R170, R171, R187) -/

theorem test_ill_unknown_code : wellFormed (.unknownCommand .A 0x70) = false := by decide
theorem test_ill_clocks : wellFormed (.frameRejected .A 256 0) = false := by decide
theorem test_ill_effort : wellFormed (.stationReplyGood (.tu1 { unit := .ready, effort := 1001, slip := false, lineVoltage := true })) = false := by
  decide
theorem test_ill_effort_second :
    wellFormed (.stationReplyGood (.tu2 { unit := .ready, effort := 1001, slip := false, lineVoltage := true })) = false :=
      by decide
theorem test_ill_beacon_id : wellFormed (.requestBeacon 0) = false ∧ wellFormed (.requestBeacon 4096) = false := by decide
theorem test_ill_confirm_route : wellFormed (.confirmBeacon 1 5 true false) = false := by decide
theorem test_ill_report_route : wellFormed (.report 1 1 0 .moving 5) = false := by decide
theorem test_ill_timer_id : wellFormed (.reportTimerExpiry 0) = false := by decide

/-! ### What the lines carry (13.1 to 13.4) -/

theorem test_catalogue_codes : catalogue.map Prod.fst = commandCodes := by decide

/-- 13.5: the CRC-16 of the nine digits. -/
theorem test_crc16_digits : crc16 [0x31, 0x32, 0x33, 0x34, 0x35, 0x36, 0x37, 0x38, 0x39] = 0x29B1 := by decide +kernel

/-- "DEMAND": lever -80, FORWARD, handle and horn. -/
theorem test_frame_demand :
    decodeFrame .A [0x10, 0xB0, 0x0D, 0, 0, 0, 0, crc8 [0x10, 0xB0, 0x0D, 0, 0, 0, 0]] =
      .demand .A { lever := 0xB0, direction := 1, handle := true, horn := true, bell := false, sand := false } :=
        by decide +kernel

/-- "Junction table entry": id 0x123, three routes, override, default 2, 200 m, 30 m. -/
theorem test_frame_table_write :
    decodeFrame .V [0x60, 0x12, 0x37, 0x02, 0x00, 0xC8, 0x1E, crc8 [0x60, 0x12, 0x37, 0x02, 0x00, 0xC8, 0x1E]] =
      .tableWrite .V { id := 0x123, routes := 3, override := true, defaultRoute := 2, points := 200, clear := 30 } :=
        by decide +kernel

/-- R185: a one-bit field is bit 0 of its own byte, a tone two bytes. -/
theorem test_frame_pattern_step :
    decodeFrame .V [0x55, 5, 1, 1, 40, 0x02, 0x08, crc8 [0x55, 5, 1, 1, 40, 0x02, 0x08]] = .patternStep .V 5 1 true 40 520 := by
  decide +kernel

/-- R170: a wrong check. -/
theorem test_frame_bad_check :
    decodeFrame .B [0x11, 0, 0, 0, 0, 0, 0, crc8 [0x11, 0, 0, 0, 0, 0, 0] ^^^ 1] = .frameRejected .B 64 0x11 := by decide +kernel

/-- 13.3: the REQUEST beacon of junction 310. -/
theorem test_telegram_request :
    readTelegram [0x01, 0x01, 0x36, (crc16 [0x01, 0x01, 0x36]).extractLsb' 8 8, (crc16 [0x01, 0x01, 0x36]).extractLsb' 0 8] =
      .requestBeacon 310 := by decide +kernel

/-- 13.2: TU2's STARTING reply with echo 0. -/
theorem test_reply_traction :
    readTu .tu2 { demand := -1000, direction := .none, brake := true, emergency := true, count := 0 }
        [0x52, 0x50, 0, 0, crc8 [0x52, 0x50, 0, 0]] =
      some { unit := .starting, effort := 0, slip := false, lineVoltage := true } := by decide +kernel

/-- 13.4: channel 0 is bit 4 of the drive frame. -/
theorem test_drive_frame : readDrive (DriveFrame.bytes { bits := 1, count := 7 }) = some { bits := 1, count := 7 } :=
    by decide +kernel

/-! ### Reset (12) -/

/-- R178: the reset of a part that has just powered up, with the lines of log 4, leaves State.reset. -/
theorem test_powerOnReset : after (.powerOnReset State.reset.lines noSel) { runs with now := 0, die := .powerUp } =
    State.reset := by decide +kernel

/-- R178: the eighth low sample. -/
theorem test_coreSupplySample :
    (after (.coreSupplySample true noSel) { runs with supply := { runs.supply with lowRun := 7 } }).held = true :=
      by decide +kernel

theorem test_supplyLowReset : (after .supplyLowReset runs).supply.causes = 5 ∧ (after .supplyLowReset runs).auth = .vacant := by
  decide +kernel

/-- Section 12.6. -/
theorem test_resetnFall : (after .resetnFall stands).supply.latch = .timing := by decide +kernel

theorem test_pinLatchArmed : (after .pinLatchArmed { stands with supply := { stands.supply with latch := .timing } }).supply.latch = .armed := by
  decide +kernel

theorem test_resetnRise :
    let t := after (.resetnRise noSel) { nears with supply := { nears.supply with latch := .armed } }
    t.settings.tram = 1 ∧ t.supply.causes = 3 ∧ t.supply.latest = .pin := by decide +kernel

/-- R181: the twelfth sample below 19.5 V. -/
theorem test_batterySample :
    (after (.batterySample 19499) { stands with supply := { stands.supply with batLow := 11 } }).supply.batteryLow = true := by
  decide +kernel

/-! ### Desk ports (11.6, 12.6) -/

theorem test_nop : (after (.nop .B) parked).replyOf .B = doneReply 0x00 0 := by decide +kernel

theorem test_getNotices :
    let s : State := { parked with ports := { parked.ports with b := { parked.ports.b with notices := 1 } } }
    (after (.getNotices .B) s).replyOf .B = doneReply 0x01 0x0000010000 ∧ (after (.getNotices .B) s).attn .B = false := by
  decide +kernel

/-- R177, section 2.9: the odometer at 1,250,125 mm. -/
theorem test_getStatus :
    (after (.getStatus .V 2) { parked with wheel := { parked.wheel with odometer := 1250125 } }).replyOf .V =
      doneReply 0x02 0x0013134D00 := by decide +kernel

theorem test_unknownCommand :
    (after (.unknownCommand .A 0x22) parked).replyOf .A = { status := .refused, code := 0x22, data := 0x0F00000000 } := by
  decide +kernel

theorem test_frameRejected :
    (after (.frameRejected .B 63 0) parked).replyOf .B = { status := .frameRejected, code := 0, data := 0x013F000000 } := by
  decide +kernel

theorem test_waitingForReleaseEnd :
    ((after (.waitingForReleaseEnd .B) { parked with ports := { parked.ports with b := .reset true } }).ports.get .B).waiting =
      false := by
  decide +kernel

theorem test_resetCause :
    (after (.resetCause .V) { parked with supply := { parked.supply with causes := 3, latest := .pin } }).replyOf .V =
      doneReply 0x70 0xC800000000 := by decide +kernel

/-! ### Settings (12.4) -/

theorem test_setLineLimit : (after (.setLineLimit .V 400) parked).settings.lineLimit = 400 := by decide +kernel

theorem test_setRunNumber : (after (.setRunNumber .V 1000) parked).settings.run = 999 ∧
    ((after (.setRunNumber .V 1000) parked).replyOf .V).status = .doneClamped := by decide +kernel

theorem test_settingWrite :
    let t := after (.settingWrite .V 8 10 0) parked
    t.settings.threshold = 20 ∧ (t.replyOf .V).status = .doneClamped := by decide +kernel

theorem test_settingRead : (after (.settingRead .V 2 0) parked).replyOf .V = doneReply 0x53 (2010 <<< 28) := by decide +kernel

/-! ### Driving authority (1.8, 1.9) -/

theorem test_deskClaim :
    (after (.deskClaim .A) parked).auth = .claiming .A 0 none ∧
      (after (.deskClaim .B) parked).replyOf .B = refusal 0x11 .noKey := by decide +kernel

theorem test_deskRelease : (after (.deskRelease .A) stands).auth = .vacant := by decide +kernel

theorem test_vacate : (after (.vacate .V) lostA).replyOf .V = refusal 0x14 .moving := by decide +kernel

/-- Section 1.9: O is -1000 at once, EBLOOP is commanded off, port A is WATCHING. -/
theorem test_keyOff :
    let t := after (.keyOff .A) runs
    t.auth = .lost .A .forward ∧ t.shaper.o = -1000 ∧ t.shaper.sources = 0x10 ∧ t.driveBit 11 = false := by decide +kernel

theorem test_keyOn : after (.keyOn .B) lostA = { lostA with lines := { lostA.lines with keyB := true } } := by decide +kernel

/-- Section 1.8, t = 66,000: nobody synchronised. -/
theorem test_claimWindowExpiry :
    let t := after .claimWindowExpiry claims
    t.auth = .vacant ∧ Told t .A .claimLapsed ∧ Told t .V .claimLapsed ∧ t.now = 5000 := by unfold Told; decide +kernel

/-- Section 1.8, t = 62,840: the release of the button lets the claim synchronise, and the set empties. -/
theorem test_emstopRelease :
    let s : State := { claims with
      auth := .claiming .A 0 (some { lever := -100, direction := .neutral, handle := false, horn := false, bell := false, sand := false, frameTime := 0 })
      lines := { claims.lines with emstopA := true }, shaper := { claims.shaper with sources := 0x42 } }
    (after (.emstopRelease .A) s).auth = .held .A .neutral ∧ (after (.emstopRelease .A) s).shaper.sources = 0 := by decide +kernel

/-- R48, R59: the set that empties before the first period has that period take O_prev of -1000. -/
theorem test_emstopRelease_previous :
    (after (.emstopRelease .A) { parked with shaper := { parked.shaper with sources := 0x02 } }).shaper.oPrev = -1000 := by
  decide +kernel

/-! ### Wheel (2.9, 2.10) -/

/-- Section 2.9, pulse 10: 20,100 is at least 19,200. -/
theorem test_tachoPulse :
    let t := after (.tachoPulse .one true) { runs with wheel := { runs.wheel with reverse := 18090, odometer := 1250282, remainder := 42 } }
    t.wheel.rollback = true ∧ t.wheel.reverse = 20100 ∧ t.wheel.odometer = 1250314 ∧ t.wheel.remainder = 4 := by decide +kernel

/-- Section 3.12: 52 and 51 pulses under traction. -/
theorem test_windowEnd :
    let s : State := { runs with
      wheel := { runs.wheel with s1 := { runs.wheel.s1 with count := 52 }, s2 := { runs.wheel.s2 with count := 51 } }
      shaper := { runs.shaper with o := 700, oPrev := 700 } }
    let t := after .windowEnd s
    (t.wheel.s1.speed, t.wheel.s2.speed, t.wheel.v) = (235, 230, 230) := by decide +kernel

/-- Section 2.9: the fourth empty window. -/
theorem test_windowEnd_standstill :
    let t := after .windowEnd { runs with wheel := { runs.wheel with emptyRun := 3, reverse := 26130, rollback := true } }
    t.wheel.stationary = true ∧ t.wheel.reverse = 0 ∧ t.wheel.rollback = false ∧ t.vigil.state = .idle := by decide +kernel

theorem test_slipRunOnExpiry :
    (after .slipRunOnExpiry { runs with wheel := { runs.wheel with runOn := some 2000 } }).wheel.runOn = none := by decide +kernel

/-! ### Demand shaping (3.12 to 3.14) and emergency braking (4.6, 4.7) -/

/-- Section 4.6, t = 0: the lever thrown to emergency. -/
theorem test_demand_emergency :
    let t := after (.demand .A (frameOf 0x80)) runs
    t.shaper.sources = 0x01 ∧ t.shaper.o = -1000 ∧ t.shaper.zeroPass = true ∧ Told t .B .emergencyChanged :=
      by unfold Told; decide +kernel

/-- R36: a direction code of 3 is refused. -/
theorem test_demand_direction : (after (.demand .A { frameOf 0 with direction := 3 }) runs).replyOf .A =
    refusal 0x10 .outOfRange := by
  decide +kernel

/-- Section 3.12, first period: O goes from 700 to 666. -/
theorem test_shaperPeriod :
    let s : State := { runs with
      settings := { runs.settings with lineLimit := 250 }, wheel := { runs.wheel with v := 230 }
      shaper := { runs.shaper with demand := some (demandOf 80), o := 700, oPrev := 700 } }
    let t := after .shaperPeriod s
    (t.shaper.c, t.shaper.t, t.shaper.o, t.shaper.holdingBrake) = (666, 666, 666, false) := by decide +kernel

/-- Section 3.13: the caution ceiling at 239, from 366. -/
theorem test_shaperPeriod_caution :
    let s : State := { asks with
      settings := { asks.settings with lineLimit := 250 }, wheel := { asks.wheel with v := 239, odometer := 2020000 }
      shaper := { asks.shaper with demand := some (demandOf 80), o := 366, oPrev := 366 } }
    let t := after .shaperPeriod s
    (t.shaper.vLim, t.shaper.overspeed, t.shaper.t, t.shaper.o) = (100, true, -300, 0) := by decide +kernel

/-- Section 3.14. -/
theorem test_freshness300MsExpiry :
    let t := after .freshness300MsExpiry runs
    t.shaper.stage = .coasting ∧ t.shaper.zeroPass = false ∧ t.now = 300 := by decide +kernel

theorem test_freshness1000MsExpiry :
    let t := after .freshness1000MsExpiry { runs with shaper := { runs.shaper with stage := .coasting } }
    t.shaper.stage = .staleBrake ∧ Told t .A .demandStale ∧ Told t .V .demandStale ∧ ¬Told t .B .demandStale := by
  unfold Told; decide +kernel

/-- Section 4.6, t = 400: a second source, with no notice. -/
theorem test_emstopPress :
    let s : State := { runs with shaper := { runs.shaper with sources := 0x01, o := -1000, oPrev := -1000 } }
    (after (.emstopPress .B) s).shaper.sources = 0x05 ∧ ¬Told (after (.emstopPress .B) s) .V .emergencyChanged := by
  unfold Told; decide +kernel

/-- Section 9.8, t = 19,000: the section ends; R39: zero-pass is disarmed. -/
theorem test_dclOpen :
    let s : State := { stands with stop := { stands.stop with record := { StopRec.empty with first := some { source := .touch, mark := 5412300, time := 40 }, doors := 6, presses := 3, chime := true } } }
    let t := after .dclOpen s
    t.stop.sect = .atStop ∧ t.stop.record = .empty ∧ t.stop.history.length = 1 ∧ t.shaper.zeroPass = false := by decide +kernel

theorem test_dclClose :
    let t := after .dclClose { stands with lines := { stands.lines with dcl := false }, stop := { stands.stop with sect := .atStop }, sound := { stands.sound with openingAtRest := true } }
    t.stop.sect = .running ∧ t.sound.departurePending = true := by decide +kernel

/-! ### Traction link (5.6, 5.7) -/

theorem test_tlinkCycleStart :
    (after .tlinkCycleStart State.reset).tlink.poll =
      some { frame := .tu1 resetCommand, began := 0 } := by decide +kernel

theorem test_stationReplyGood :
    let r : StationReply := .tu2 { unit := .starting, effort := 0, slip := false, lineVoltage := true }
    let t := after (.stationReplyGood r) (polls State.reset (.tu2 resetCommand))
    t.tlink.tu2.answering = true ∧ Told t .V .stationChanged ∧ ¬Told t .A .stationChanged := by unfold Told; decide +kernel

/-- R70: a reply that was on its way at a reset is not taken. -/
theorem test_stationReplyGood_reset :
    let r : StationReply := .tu2 { unit := .starting, effort := 0, slip := false, lineVoltage := true }
    let s := after (.powerOnReset State.reset.lines noSel) (polls runs (.tu2 resetCommand))
    after (.stationReplyGood r) s = s := by decide +kernel

/-- Section 5.7, cycle 8: the fifth miss in motion. -/
theorem test_stationMiss :
    let t := after (.stationMiss { station := .brk, cause := .missing })
      (polls { runs with tlink := { runs.tlink with brk := { brkReady with missRun := 4 } } } brkPoll)
    t.tlink.brk.answering = false ∧ t.shaper.sources = 0x20 ∧ t.shaper.o = -1000 ∧ t.now = 2 := by decide +kernel

/-- R74: a good reply from another station is a miss of the polled one, and is not credited to its sender. -/
theorem test_stationMiss_other :
    let s := polls { runs with tlink := { runs.tlink with brk := { brkReady with missRun := 1 } } } brkPoll
    let t := after (.stationReplyGood (.tu1 { unit := .fault, effort := 0, slip := false, lineVoltage := true })) s
    t.tlink.brk.missRun = 2 ∧ t.tlink.tu1 = s.tlink.tu1 := by decide +kernel

/-- TU1 has answered and TU2 is polled, both windows running. -/
def answers : State :=
  after (.stationReplyGood (.tu1 { unit := .ready, effort := 0, slip := false, lineVoltage := true })) (polls runs (.tu1 resetCommand))

/-- R74: a second reply in a window after its reply has been taken is discarded, and the next poll stays. -/
theorem test_stationReplyGood_second :
    let r : StationReply := .tu1 { unit := .fault, effort := 0, slip := true, lineVoltage := true }
    answers.tlink.poll.isSome = true ∧ after (.stationReplyGood r) answers = answers := by decide +kernel

/-- R74: BRK's whole frame in TU1's window is the address of another station, hence bad; two characters of it are missing. -/
theorem test_closing_other :
    (Poll.tu1 resetCommand).closing [0x53, 0x10, crc8 [0x53, 0x10]] = .stationMiss { station := .tu1, cause := .bad } ∧
      (Poll.tu1 resetCommand).closing [0x53, 0x10] = .stationMiss { station := .tu1, cause := .missing } := by decide +kernel

/-! ### Vigilance (6.9) -/

theorem test_vigilActivityTimerExpiry :
    let t := after .vigilActivityTimerExpiry { runs with vigil := { runs.vigil with lastActivity := some 12400 } }
    t.vigil.state = .warn ∧ t.vigil.warnStart = some 42400 ∧ t.sound.isOn .buzzA = true ∧ Told t .A .vigilWarn := by
  unfold Told; decide +kernel

theorem test_warnTimerExpiry :
    let t := after .warnTimerExpiry { runs with vigil := { runs.vigil with state := .warn, warnStart := some 81300, buzzer := true } }
    t.vigil.state = .penalty ∧ t.shaper.sources = 0x08 ∧ t.now = 86300 := by decide +kernel

theorem test_graceTimerExpiry :
    let t := after .graceTimerExpiry { runs with vigil := { runs.vigil with releaseTime := some 50000, handle := false, buzzer := true } }
    t.vigil.state = .penalty ∧ t.now = 52000 := by decide +kernel

theorem test_vigilReset :
    (after (.vigilReset .A) (penalty 36)).replyOf .A = refusal 0x13 .notReady ∧
      (after (.vigilReset .A) (penalty (-100))).shaper.sources = 0 ∧
      (after (.vigilReset .A) (penalty (-100))).vigil.state = .idle := by decide +kernel

/-! ### Sounders (7.6, 7.7) -/

/-- Section 7.6, t = 2,080 from a start at 2,000 (here 0): P2 goes to its off step of 170 ms. -/
theorem test_patternStepExpiry :
    let t := after (.patternStepExpiry (.sounder .bellB)) (withSlot stands .bellB (instanceOf 2 .departureBell .oneShot 80 (some 3)))
    (t.sound.slot .bellB).map (fun i => (i.step, i.stepEnd)) = some (1, 250) ∧ t.sound.isOn .bellB = false := by decide +kernel

/-- Section 7.6, t = 3,400: the horn's minimum run. -/
theorem test_minimumRunReached :
    let t := after (.minimumRunReached .hornB) (withSlot stands .hornB (instanceOf 0 .hornButton (.level false) 300 none))
    t.sound.slot .hornB = none ∧ t.now = 300 := by decide +kernel

/-- The chime has just begun: P5's first step, 660 Hz. -/
def chimes : State := { stands with sound := stands.sound.oneShot 0 .chime 5 .stopreq }

/-- R106: the half-periods of its table, and a tie of halves (1600 Hz, 312.5). -/
theorem test_halfPeriod :
    [200, 520, 660, 2000, 1600].map halfPeriod = [2500, 962, 758, 250, 313] := by decide

/-- R106: the wave starts high and changes level every 758 us. -/
theorem test_toneHalfPeriod :
    let t := after .toneHalfPeriod chimes
    let u := after .toneHalfPeriod t
    (chimes.sound.toneHigh = true ∧ chimes.sound.toneDue = some 758) ∧
      (t.sound.toneHigh = false ∧ t.sound.toneDue = some 1516 ∧ t.now = 0) ∧ (u.sound.toneHigh = true ∧ u.now = 1) := by
  decide +kernel

theorem test_outputTest :
    (after (.outputTest .V 6) stands).replyOf .V = refusal 0x42 .notVacant ∧
      (after (.outputTest .V 6) parked).driveBit 6 = true := by decide +kernel

theorem test_patternHeader :
    let t := after (.patternHeader .V 7 9 16 4 200) parked
    let p := cell t.sound.patterns 7
    (p.count, p.rep, p.priority, p.minRun) = (8, some 15, 3, 200) ∧ (t.replyOf .V).status = .doneClamped := by decide +kernel

theorem test_patternStep :
    (cell (after (.patternStep .V 5 2 true 0 100) parked).sound.patterns 5).stepAt 2 =
      { on := true, duration := 1, tone := 200 } := by
  decide +kernel

/-! ### Output switches (8.6, 4.7) -/

/-- Section 8.6, t = 7: the eighth good frame; HAZARD switches on. -/
theorem test_driveFrame :
    let t := after (.driveFrame .good 0) { State.reset with die := { State.reset.die with recovery := 7 } }
    t.die.following = true ∧ t.die.physicallyOn 10 = true ∧ t.die.physicallyOn 11 = false := by decide +kernel

theorem test_switchDieSafe : (after .switchDieSafe dieOn).die.following = false ∧
    (after .switchDieSafe dieOn).die.physicallyOn 0 = false := by
  decide +kernel

theorem test_currentLimitTrip : (cell (after (.currentLimitTrip 0) dieOn).die.chans 0).sw = .retryWait 1000 := by decide +kernel

/-- Section 4.7: the retry with the latest taken bit off. -/
theorem test_retryExpiry :
    let s : State := { dieOn with die := { dieOn.die with taken := 0, chans := putCell dieOn.die.chans 0 { sw := .retryWait 1000, history := [0], hot := false } } }
    (cell (after (.retryExpiry 0) s).die.chans 0).sw = .off ∧ (after (.retryExpiry 0) s).now = 1000 := by decide +kernel

theorem test_overtempChange : (after (.overtempChange 0 true) dieOn).die.physicallyOn 0 = false := by decide +kernel

theorem test_uvOnset : (after .uvOnset dieOn).die.physicallyOn 0 = false := by decide +kernel

theorem test_uvRecovery : (cell (after .uvRecovery { dieOn with die := { dieOn.die with uv := true } }).die.chans 0).sw = .off :=
    by
  decide +kernel

theorem test_switchDiePowerUp : (after .switchDiePowerUp dieOn).die.following = false := by decide +kernel

/-- Section 8.6, t = 14: the eighth good slot in a row. -/
theorem test_statusSlotClose :
    let f : StatusFrame := { following := true, uv := false, zeros := 0, echo := 7, chans := Vector.replicate 12 ⟨false, false, false, false, false⟩ }
    let s : State := { State.reset with outbank := { State.reset.outbank with badRun := 0, goodRun := 7, sent := some { bits := 0, count := 7 } } }
    (after (.statusSlotClose (.other f)) s).outbank.linkUp = true ∧ (after (.statusSlotClose .missing) s).outbank.goodRun = 0 :=
      by
  decide +kernel

/-- Section 8.6, t = 5: UV, TE, LINK_LOST, link LINK_LOST. -/
theorem test_diagSummary : (after (.diagSummary .V) State.reset).replyOf .V = doneReply 0x40 0x000F000000 := by decide +kernel

/-- Section 8.6, t = 310: detail OPEN_LOAD, drive bit on, reported on, live OPEN_LOAD, entry non-empty, link UP. -/
theorem test_diagChannel :
    let s : State := { State.reset with outbank := { parked.outbank with
      reported := putCell parked.outbank.reported 10 (some true), live := putCell parked.outbank.live 10 1
      detail := { parked.outbank.detail with v := putCell parked.outbank.detail.v 10 1 }
      sticky := { parked.outbank.sticky with v := { parked.outbank.sticky.v with chans := putCell parked.outbank.sticky.v.chans 10 1 } } } }
    (after (.diagChannel .V 10) s).replyOf .V = doneReply 0x41 (0b1000111100010#40 <<< 27) := by decide +kernel

/-! ### Stop requests (9.8, 9.9) -/

theorem test_touchScanStart : (after .touchScanStart { runs with stop := { runs.stop with scanAt := some 0 } }).now = 20 :=
    by decide +kernel

/-- Section 9.8, t = 40: the press of door 3. -/
theorem test_touchMeasurement :
    let t := after (.touchMeasurement 5 1885) presses
    t.stop.record = { first := some { source := .touch, mark := 5412300, time := 0 }, doors := 4, wheelchair := false, presses := 1, chime := true } ∧
      t.driveBit 6 = true ∧ t.driveBit 7 = true := by decide +kernel

/-- Section 9.8, t = 200: drift by trunc(-1.25). -/
theorem test_touchMeasurement_drift :
    let s : State := { runs with stop := { runs.stop with chans := putCell runs.stop.chans 5 { cell runs.stop.chans 5 with baseline := some 32000 } } }
    (cell (after (.touchMeasurement 5 1995) s).stop.chans 5).baseline = some 31999 := by decide +kernel

/-- Section 9.8, before t = 40: channel 5 of door 3 in PRESSING, baseline 2000, no count since the reset; then its second part. -/
theorem test_touchRead : (after (.touchRead .V { channel := 16, later := false }) presses).replyOf .V = refusal 0x33 .outOfRange ∧
    (after (.touchRead .V { channel := 5, later := false }) presses).replyOf .V = doneReply 0x33 ((((11 * 8 + 2) * 8192) * 8192 + 4096 + 2000) * 64) ∧
    (after (.touchRead .V { channel := 5, later := true }) presses).replyOf .V = doneReply 0x33 (2 * 0x1000000) := by decide +kernel

/-- Section 9.8, t = 25,500: DCL is low. -/
theorem test_stopSet : (after (.stopSet .A) { stands with lines := { stands.lines with dcl := false } }).replyOf .A =
    refusal 0x30 .notReady := by
  decide +kernel

/-- Section 9.8: the chime stays sounded for the section. -/
theorem test_stopCancel :
    let s : State := { runs with stop := { runs.stop with record := { StopRec.empty with first := some { source := .driver, mark := 0, time := 0 }, doors := 8, chime := true } } }
    (after (.stopCancel .A) s).stop.record = { StopRec.empty with chime := true } := by decide +kernel

/-- R142, R185: an index above 8; and the mark of the current record with its presence bit, whole in part 1. -/
theorem test_getStopRecord :
    let s : State := { runs with stop := { runs.stop with record := { StopRec.empty with
      first := some { source := .driver, mark := 5412300, time := 0 } } } }
    (after (.getStopRecord .V 9 0) runs).replyOf .V = refusal 0x32 .outOfRange ∧
      (after (.getStopRecord .V 0 1) s).replyOf .V = doneReply 0x32 ((0x100000000 + 5412300) * 128) := by decide +kernel

/-! ### Junction requests (10.9) -/

/-- t = 0: route 2 from the plan, sequence 6, the marks. -/
theorem test_requestBeacon :
    let t := after (.requestBeacon 310) nears
    t.junct.list = [trans310] ∧ t.junct.outbox = [.request 310 2 214 37 .plus 6] ∧ t.junct.plan = [{ id := 318, route := 1 }] :=
      by
  decide +kernel

/-- t = 120: MOVING sets the timer 1500 ms on. -/
theorem test_report_moving :
    let t := after (.report 310 214 6 .moving 0) { asks with now := 120 }
    t.junct.list = [{ trans310 with timer := some 1620, last := some .moving }] := by decide +kernel

/-- R156: another route set is WRONG_ROUTE, with the alert on the holder's buzzer (R160). -/
theorem test_report_wrong_route :
    let t := after (.report 310 214 6 .setLocked 1) asks
    (t.junct.list.map fun x => x.state) = [.wrongRoute] ∧ t.sound.isOn .buzzA = true := by decide +kernel

/-- t = 1,620: the resend with the same sequence. -/
theorem test_reportTimerExpiry :
    let s : State := { asks with junct := { asks.junct with list := [{ trans310 with timer := some 1620 }] } }
    let t := after (.reportTimerExpiry 310) s
    t.junct.list = [{ trans310 with tries := 2, timer := some 2020 }] ∧ t.junct.outbox = [.request 310 2 214 37 .plus 6] :=
      by decide +kernel

/-- t = 2,100: loop presence lapses. -/
theorem test_loopPresenceLapse :
    let t := after .loopPresenceLapse { asks with junct := { asks.junct with lapseAt := some 2100 } }
    t.now = 2100 ∧ (t.junct.list.map fun x => x.state) = [.unconfirmed] ∧ t.junct.presence = false := by decide +kernel

/-- t = 9,200: the CONFIRM beacon makes 310 SET and lifts the ceiling. -/
theorem test_confirmBeacon :
    let s : State := { asks with
      wheel := { asks.wheel with odometer := 2023000 }
      junct := { asks.junct with list := [{ trans310 with state := .unconfirmed, timer := none }], presence := false, lapseAt := none } }
    s.caution = true ∧ (after (.confirmBeacon 310 2 true false) s).caution = false ∧
      (after (.confirmBeacon 310 1 true false) s).caution = true := by decide +kernel

theorem test_telegramDropped : after .telegramDropped asks = asks := by decide +kernel

/-- Off the loop the override becomes pending, and a repeat is refused. -/
theorem test_routeOverride : (after (.routeOverride .A 1) nears).junct.pendingOverride = some 1 := by decide +kernel

theorem test_junctionRepeat : (after (.junctionRepeat .A) nears).replyOf .A = refusal 0x21 .notOnLoop := by decide +kernel

/-- R185: 19 m to the caution mark and 104 m to the clear mark from 2,000,750. -/
theorem test_getJunction :
    (after (.getJunction .A 1 1) { asks with wheel := { asks.wheel with odometer := 2000750 } }).replyOf .A =
      doneReply 0x23 (((310 * 512 + 19) * 512 + 104) * 1024) := by decide +kernel

theorem test_tableWrite :
    let f : EntryFrame := { id := 310, routes := 2, override := true, defaultRoute := 1, points := 80, clear := 25 }
    (after (.tableWrite .V f) parked).junct.table = [entry310] := by decide +kernel

/-- R145: id 310, routes and default route less one in two bits each (log 23), override, 80 m, 25 m, one entry. -/
theorem test_tableWrite_reply :
    let f : EntryFrame := { id := 310, routes := 2, override := true, defaultRoute := 1, points := 80, clear := 25 }
    (after (.tableWrite .V f) parked).replyOf .V =
      doneReply 0x60 (310#12 ++ 1#2 ++ 0#2 ++ 1#1 ++ 80#9 ++ 25#6 ++ 1#7 ++ 0#1 : BitVec 40) := by decide +kernel

theorem test_tableDelete :
    (after (.tableDelete .V 310) { asks with junct := { asks.junct with plan := [] } }).replyOf .V = refusal 0x61 .inUse :=
      by decide +kernel

theorem test_tableRead :
    (after (.tableRead .V 0 0) nears).replyOf .V =
      doneReply 0x62 ((((((310 * 8 + 2) * 8 + 1) * 2 + 1) * 512 + 80) * 64 + 25) * 64) ∧
      (after (.tableRead .V 2 1) nears).replyOf .V = doneReply 0x62 0 := by decide +kernel

/-- R186: the register starts at 0xFFFF; an empty table leaves it there. -/
theorem test_tableSignature : (after (.tableSignature .V) parked).replyOf .V = doneReply 0x63 (0xFFFF <<< 17) := by decide +kernel

theorem test_planAppend :
    (after (.planAppend .V 310 2) nears).junct.plan.length = 3 ∧
      (after (.planAppend .V 311 2) nears).replyOf .V = refusal 0x64 .unknownJunction := by decide +kernel

theorem test_planClear : (after (.planClear .V) nears).junct.plan = [] := by decide +kernel

theorem test_planRead :
    (after (.planRead .V 0) nears).replyOf .V = doneReply 0x66 ((((1 * 4096 + 310) * 8 + 2) * 64 + 2) * 262144) :=
      by decide +kernel

/-! ### Witnesses: states and operands that meet the hypotheses of each statement, at the boundaries of its clauses -/

/-- The claimant fields of a frame that synchronises. -/
def claimant : Claimant :=
  { lever := -100, direction := .neutral, handle := false, horn := false, bell := false, sand := false, frameTime := 0 }

/-- Cab A claims with claimant fields. -/
def waits : State := { claims with auth := .claiming .A 0 (some claimant) }

/-- A queue with a command at its front, and an empty queue. -/
theorem witness_StepRunsFrontCommand :
    ({ parked with pending := [.nop .A] } : State).pending = .nop .A :: [] ∧ parked.pending = [] := by decide

theorem witness_StandingsAndDirections :
    wellFormed (.deskRelease .B) = true ∧ encodeCommand (.deskRelease .B) = some (.B, 0x12, Params.none) ∧
      (permitOf 0x12).isSome = true ∧ Taking .B stands ∧ permitDriving (stands.auth.standing .B) = false := by
  unfold Taking; decide +kernel

theorem witness_DeskClaimAnswered :
    Taking .V parked ∧ Taking (portOf .A) parked ∧ keyLevel parked.lines .A = true ∧ keyLevel parked.lines .B = false ∧
      Taking (portOf .B) parked ∧ Taking (portOf .B) claims ∧ Taking (portOf .B) stands ∧ Taking (portOf .A) lostA := by
  unfold Taking; decide +kernel

theorem witness_ClaimEndsWithoutHeld :
    Running claims ∧ claims.auth = .claiming .A 0 none ∧ Taking .V claims ∧ Running stands ∧
      ∀ y b d, stands.auth ≠ .claiming y b d :=
  ⟨by unfold Running; decide, by decide, by unfold Taking; decide, by unfold Running; decide, fun _ _ _ h => by cases h⟩

theorem witness_ClaimantFrameSynchronises :
    Taking (portOf .A) claims ∧ claims.auth = .claiming .A 0 none ∧ directionOf 0 = some .neutral ∧
      claims.wheel.stationary = true ∧ claims.tlink.brk.answering = true ∧
      (claims.tlink.brk.last.map BrkReply.brakeApplied) = some true ∧ emstopLevel claims.lines .A = false ∧
      (-100 ≤ clampLever 0x9C ∧ clampLever 0x9C ≤ 0) ∧ ¬clampLever 0x01 ≤ 0 ∧ clampLever 0x9B = -100 ∧
      ({ frameOf 0 with direction := 3 } : DemandFrame).direction = 3 := by
  unfold Taking; decide +kernel

theorem vigil_in : VigilInv stands ∧ VigilInv runs ∧ VigilInv lostA ∧ VigilInv claims ∧ VigilInv parked := by
  unfold VigilInv leverIn; decide +kernel

theorem witness_ReleaseAndVacate :
    (VigilInv stands ∧ VigilInv runs ∧ VigilInv lostA ∧ VigilInv claims ∧ VigilInv parked) ∧ Taking (portOf .A) stands ∧ stands.auth = .held .A .forward ∧ stands.shaper.o ≤ 0 ∧ Taking .V stands ∧
      parked.auth = .vacant ∧ runs.wheel.stationary = false ∧ lostA.auth = .lost .A .forward ∧ Taking .V lostA ∧
      Taking .B stands ∧ stands.auth.standing .B ≠ .driving ∧ claims.auth = .claiming .A 0 none ∧ Taking .V claims :=
  ⟨vigil_in, by unfold Taking; decide +kernel⟩

theorem witness_KeyOffWhileHeld :
    Running stands ∧ stands.auth = .held .A .forward ∧ stands.wheel.stationary = true ∧ Running runs ∧
      runs.auth = .held .A .forward ∧ runs.wheel.stationary = false ∧ VigilInv stands ∧ VigilInv runs := by
  unfold Running VigilInv leverIn; decide +kernel

/-- Lost, three windows empty. -/
def lostLast : State := { lostA with wheel := { lostA.wheel with emptyRun := 3 } }

theorem witness_LostUntilStandstill :
    Running lostLast ∧ lostLast.auth = .lost .A .forward ∧ Taking (portOf .A) lostLast ∧ Taking .V lostLast ∧
      lostLast.wheel.stationary = false ∧ lostLast.wheel.emptyRun = 3 ∧ lostLast.wheel.s1.count = 0 ∧
      lostLast.wheel.s2.count = 0 := by unfold Running Taking; decide +kernel

theorem witness_FramesGatedAndNoticed :
    wellFormed (.unknownCommand .A 0x22) = true ∧ encodeCommand (.unknownCommand .A 0x22) = some (.A, 0x22, Params.none) ∧
      Taking .A stands ∧ commandCodes.contains 0x22 = false ∧ wellFormed (.vacate .A) = true ∧
      encodeCommand (.vacate .A) = some (.A, 0x14, Params.none) ∧ stands.auth.standing .A ≠ .vehicle ∧ stands.raised = 0 ∧
      stands.held = false := by unfold Taking; decide +kernel

theorem witness_PortShiftsFrame :
    (PortRec.reset false).shift = .idle ∧ (PortRec.reset false).waiting = false ∧
      ([0x10, 0xB0, 0x0D, 0, 0, 0, 0, 0] : List Byte).length = 8 := by decide

theorem witness_DeskFramesRoundTrip :
    wellFormed (.deskClaim .A) = true ∧
      encodeFrame (.deskClaim .A) = some (.A, [0x11, 0, 0, 0, 0, 0, 0, crc8 [0x11, 0, 0, 0, 0, 0, 0]]) := by decide +kernel

/-- A latch armed. -/
def armed : State := { runs with supply := { runs.supply with latch := .armed } }

theorem witness_ResetsAndSupply :
    armed.held = false ∧ armed.supply.latch = .armed ∧ runs.held = false ∧ runs.supply.lowRun < 7 ∧
      ({ runs.supply with lowRun := 7 } : SupplyRec).lowRun = 7 ∧ (after .supplyLowReset runs).held = true ∧
      encodeCommand (.nop .A) = some (.A, 0x00, Params.none) ∧ runs.supply.latch = .idle ∧
      ({ runs.supply with latch := .timing } : SupplyRec).latch = .timing ∧ Running runs := by unfold Running; decide +kernel

theorem settings_in : SettingsInv parked := by
  refine ⟨by decide, by decide, by decide, by decide, by decide, by decide, by decide, by decide, by decide, ?_, by decide⟩
  intro k
  fin_cases k <;> first | exact ⟨by decide, by decide⟩ | trivial

theorem witness_SettingsKept :
    Taking .V parked ∧ SettingsInv parked ∧ (10 < (11 : BitVec 8).toNat) ∧ ((10 : BitVec 8).toNat ≤ 10 ∧
      (10 : BitVec 8).toNat ≠ 9) ∧
      ((9 : BitVec 8).toNat = 9 ∧ 15 < (16 : BitVec 8).toNat ∧ (15 : BitVec 8).toNat = (15 : Fin 16).val) ∧
      (hiByte 0x0206).toNat ≤ 2 ∧ 2 < (hiByte 0x0301).toNat ∧ (0 : Nat) ≠ 9 :=
  ⟨by unfold Taking; decide, settings_in, by decide, by decide, by decide, by decide, by decide, by decide⟩

theorem witness_TachoPulseCounted : Running runs := by unfold Running; decide

theorem witness_WindowMeasuresSpeed : Running runs ∧ ¬(runs.wheel.s1.failed = true ∧ runs.wheel.s2.failed = true) := by
  unfold Running; decide

/-- The tram stands with the handle released and the doors open behind it, three windows empty (R39, R92, R137). -/
def releasedLast : State :=
  { runs with
    wheel := { runs.wheel with emptyRun := 3 }, lines := { runs.lines with dcl := false }
    shaper := { runs.shaper with demand := some { demandOf 0 with handle := false } } }

theorem witness_WindowSetsStandstill :
    Running runs ∧ EmergencyInv runs ∧ Running lostLast ∧ EmergencyInv lostLast ∧ runs.auth.claimant = none ∧
      Running releasedLast ∧ releasedLast.wheel.stationary = false ∧ (after .windowEnd releasedLast).wheel.stationary = true ∧
      (releasedLast.shaper.demand.map DemandBody.handle) = some false ∧ releasedLast.stop.sect = .running ∧
      stands.wheel.stationary = true ∧
      (after .windowEnd { stands with wheel := stands.wheel.pulse .one }).wheel.stationary = false := by
  unfold Running EmergencyInv; decide +kernel

/-- R39, R92, R137: the window end that sets STATIONARY with the handle released disarms zero-pass, and ends the section. -/
theorem test_windowEnd_released :
    let t := after .windowEnd releasedLast
    releasedLast.shaper.zeroPass = true ∧ t.shaper.zeroPass = false ∧ t.stop.sect = .atStop ∧ t.vigil.state = .idle := by
  decide +kernel

theorem witness_AdhesionJudged : Running runs := by unfold Running; decide

theorem witness_HolderFrameApplied :
    Taking (portOf .A) stands ∧ stands.auth = .held .A .forward ∧ stands.shaper.demand.isSome = true ∧
      (frameOf 0).direction ≠ 3 ∧ directionOf 1 = some .forward ∧ stands.auth.cab = some .A ∧ stands.auth.isLost = false := by
  unfold Taking; decide +kernel

theorem witness_HolderFrameWatched :
    Taking (portOf .A) runs ∧ runs.auth = .held .A .forward ∧ runs.shaper.demand = some (demandOf 0) ∧
      directionOf 1 = some .forward := by unfold Taking; decide +kernel

theorem witness_HornAndBellFollowButtons :
    Taking (portOf .A) runs ∧ runs.auth = .held .A .forward ∧ directionOf 2 = some .reverse := by unfold Taking; decide +kernel

theorem witness_FreshnessExpires :
    Running runs ∧ runs.shaper.demand = some (demandOf 0) ∧ runs.shaper.stage = .fresh ∧
      ({ runs.shaper with stage := .coasting } : ShaperRec).stage = .coasting := by unfold Running; decide +kernel

theorem witness_PeriodComputesOutput :
    Running runs ∧ runs.shaper.demand.isSome = runs.auth.isHeld ∧ (true = true ↔ permits runs) := by
  refine ⟨by unfold Running; decide, by decide, fun _ => ?_, fun _ => rfl⟩
  exact ⟨⟨.A, .forward, rfl, by decide⟩, ⟨demandOf 0, rfl, rfl⟩, by decide, by decide, by decide, by decide⟩

theorem witness_PeriodComputesOutput_refused : (false = true ↔ permits parked) := by
  refine ⟨fun h => (by cases h), fun h => ?_⟩
  obtain ⟨⟨x, d, ha, _⟩, _⟩ := h
  cases ha

/-- A row of each clause of R49's table. -/
theorem witness_RateStepTable :
    ((0 : Int) < 1 ∧ (0 : Int) ≤ 0) ∧ ((-1 : Int) < 0 ∧ (-1 : Int) < 1) ∧ ((0 : Int) < 1 ∧ (-1 : Int) < 1) ∧
      ((-1 : Int) < 0 ∧ (0 : Int) ≤ 0) ∧ Running runs ∧ runs.shaper.sources = 0 := by unfold Running; decide

theorem witness_TractionIsPermitted :
    Running runs ∧ runs.shaper.demand.isSome = runs.auth.isHeld ∧ OutputInv runs ∧ runs.shaper.sources = 0 ∧
      lostA.shaper.sources ≠ 0 := by
  refine ⟨by unfold Running; decide, by decide, ?_, by decide, by decide⟩
  refine ⟨?_, ?_, by decide, by decide, by decide, by decide, by decide, by decide⟩
  · intro d h
    have : d = demandOf 0 := by simpa [runs, stands] using h.symm
    rw [this]
    exact .inr ⟨by decide, by decide⟩
  · intro c h
    cases h

/-- The tram departs: O goes above 0 with a departure pending. -/
def departs : State :=
  { stands with
    shaper := { stands.shaper with demand := some (demandOf 50), oPrev := 20 }
    sound := { stands.sound with departurePending := true } }

theorem witness_PeriodHandsOver :
    Running runs ∧ Running departs ∧ departs.sound.departurePending = true ∧ 0 < (after .shaperPeriod departs).shaper.o ∧
      departs.settings.departureBell = 1 ∧ departs.auth.leading = some .A ∧ departs.sound.slot (bellOf .A) = none := by
  unfold Running; decide +kernel

theorem witness_EmergencyStopLines :
    Running stands ∧ stands.auth.claimant = none ∧ runs.wheel.stationary = false ∧ stands.wheel.stationary = true ∧
      ({ stands.shaper with sources := 0x02 } : ShaperRec).has (.emstop .A) = true ∧ stands.shaper.has (.emstop .A) = false := by
  unfold Running; decide +kernel

/-- Cab A runs with LEVER and EMSTOP_B in the set, three windows empty (section 4.6). -/
def stops : State :=
  { runs with
    wheel := { runs.wheel with emptyRun := 3 }, lines := { runs.lines with emstopB := true }
    shaper := { runs.shaper with sources := 0x05, o := -1000, oPrev := -1000 } }

theorem witness_StandstillRemovesSources :
    Running stops ∧ stops.auth.isHeld = true ∧ stops.wheel.stationary = false ∧ stops.wheel.emptyRun = 3 ∧
      stops.wheel.s1.count = 0 ∧ stops.wheel.s2.count = 0 ∧ stops.outbank.linkUp = true := by unfold Running; decide +kernel

theorem witness_SynchronisationRetried :
    Running waits ∧ waits.auth = .claiming .A 0 (some claimant) ∧ waits.wheel.stationary = true ∧
      waits.tlink.brakeConfirmed = true ∧ (-100 ≤ claimant.lever ∧ claimant.lever ≤ 0) ∧ claimant.direction = .neutral ∧
      Running (polls waits brkPoll) ∧ (polls waits brkPoll).tlink.poll = some { frame := brkPoll, began := 0 } ∧
      brkPoll.station = .brk ∧ (polls waits brkPoll).now ≤ 0 + 2 := by
  unfold Running; decide +kernel

theorem witness_DoorLinesAct : Running stands ∧ stands.stop.sect = .running ∧ stands.wheel.stationary = true := by
  unfold Running; decide +kernel

theorem witness_StationRepliesTaken :
    Running (polls runs brkPoll) ∧ (1000 : BitVec 16).toNat ≤ 1000 ∧ runs.auth.claimant = none ∧ waits.auth.claimant ≠ none ∧
      polled (polls runs brkPoll) .brk ∧ Running (polls runs (.tu2 resetCommand)) ∧ polled (polls runs (.tu2 resetCommand)) .tu2 ∧
      ((0x50 : Byte).extractLsb' 0 4).toNat = resetCommand.count :=
  ⟨by unfold Running; decide, by decide, by decide, by decide, ⟨_, rfl, by decide, by decide⟩, by unfold Running; decide,
    ⟨_, rfl, by decide, by decide⟩, by decide⟩

theorem witness_MissCounted :
    Running (polls runs brkPoll) ∧ runs.auth.claimant = none ∧
      (polls runs brkPoll).tlink.poll = some { frame := brkPoll, began := 0 } ∧ (polls runs brkPoll).now ≤ 0 + 2 ∧
      brkPoll.station = .brk ∧ (∀ p, runs.tlink.poll = some p → p.began + 2 < runs.now) ∧ polled (polls runs brkPoll) .brk ∧
      replyStation (.tu1 { unit := .ready, effort := 0, slip := false, lineVoltage := true }) ≠ .brk ∧
      ¬stillReplied (polls runs brkPoll) .tu1 ∧ polled answers .tu2 ∧ stillReplied answers .tu1 ∧ Running answers ∧
      (2 < 3 ∧ ¬frameGood brkPoll [0x53, 0x01, 0] ∧ frameGood brkPoll [0x53, 0x10, crc8 [0x53, 0x10]]) := by
  refine ⟨by unfold Running; decide, by decide, by decide, by decide, by decide, ?_, ⟨_, rfl, by decide, by decide⟩, by decide,
    ?_, ⟨_, rfl, by decide +kernel, by decide +kernel⟩, ⟨_, List.mem_cons_self, by decide +kernel, by decide +kernel⟩,
    by unfold Running; decide +kernel,
    by decide, ?_, ?_⟩
  · intro p h; cases h
  · rintro ⟨p, h, -⟩; cases h
  · rintro ⟨-, -, h⟩; exact absurd h (by decide)
  · exact ⟨rfl, rfl, by decide⟩

theorem witness_VigilanceTimersExpire :
    Running runs ∧ runs.vigil.state = .watch ∧ runs.vigil.lastActivity = some 0 ∧ stands.vigil.state ≠ .watch ∧
      (let v : VigilRec := { runs.vigil with state := .warn, warnStart := some 0, releaseTime := some 0 }
       v.state = .warn ∧ v.warnStart = some 0 ∧ v.releaseTime = some 0) ∧ runs.vigil.releaseTime = none := by
  unfold Running; decide +kernel

theorem witness_VigilResetAnswered :
    Taking (portOf .A) (penalty (-100)) ∧ (penalty (-100)).auth = .held .A .forward ∧
      (penalty (-100)).shaper.demand = some (demandOf (-100)) ∧
      (penalty (-100)).shaper.has .penalty = decide ((penalty (-100)).vigil.state = .penalty) ∧
      stands.shaper.has .penalty = decide (stands.vigil.state = .penalty) ∧ Taking .B stands ∧
      stands.auth.standing .B ≠ .driving := by unfold Taking; decide +kernel

/-- P2 in its first step on BELL_A. -/
def rings : State := withSlot stands .bellA (instanceOf 2 .departureBell .oneShot 80 (some 3))

theorem witness_PatternsRun :
    Running rings ∧ rings.sound.slot .bellA = some (instanceOf 2 .departureBell .oneShot 80 (some 3)) ∧
      rings.sound.req .bellA = .notPlaced ∧ rings.sound.dueOf .test = none ∧
      (after (.outputTest .V 6) parked).sound.testSlot.isSome = true ∧
      (stepsOn rings.sound 80 (instanceOf 2 .departureBell .oneShot 80 (some 3))).isSome = true ∧
      Running chimes ∧ waves chimes.sound ∧ chimes.sound.slot .chime = some (instanceOf 5 .stopreq .oneShot 250 (some 1)) ∧
      chimes.sound.toneDue = some 758 ∧ rings.sound.toneDue = none ∧
      stepsOn rings.sound 750 { instanceOf 2 .departureBell .oneShot 750 (some 1) with step := 1 } = none := by
  unfold Running waves; decide +kernel

theorem witness_SoundRequestsDecided :
    stands.sound.slot .bellA = none ∧ rings.sound.slot .bellA = some (instanceOf 2 .departureBell .oneShot 80 (some 3)) ∧
      levelRequester .bellA = some (.bellButton, 1) ∧ rings.sound.req .bellA = .notPlaced ∧
      parked.sound.req .hazard = .placed false ∧ levelRequester .hazard = some (.emergency, 6) := by decide +kernel

theorem witness_OutputTestAnswered :
    Taking .V stands ∧ stands.auth ≠ .vacant ∧ Taking .V parked ∧ parked.auth = .vacant ∧ parked.wheel.stationary = true ∧
      ({ parked.wheel with stationary := false } : WheelRec).stationary = false ∧ 11 ≤ (11 : BitVec 8).toNat ∧
      (10 : BitVec 8).toNat = (channelOf .hazard).val ∧ (6 : BitVec 8).toNat = SetChannel.stopsign.number := by
  unfold Taking; decide +kernel

theorem witness_PatternWrites :
    Taking .V parked ∧ parked.auth = .vacant ∧ parked.wheel.stationary = true ∧ (7 : BitVec 8).toNat = (7 : Fin 8).val ∧
      7 < (8 : BitVec 8).toNat := by unfold Taking; decide +kernel

theorem witness_DriveFrameSent :
    readDrive (DriveFrame.bytes { bits := 1, count := 7 }) = some { bits := 1, count := 7 } ∧ Running dieOn ∧ dieOn.die.following = true ∧ State.reset.die.following = false ∧
      7 ≤ ({ DieRec.powerUp with recovery := 7 } : DieRec).recovery := by
  unfold Running; decide +kernel

theorem witness_SwitchDieFaults :
    dieOn.die.following = true ∧ State.reset.die.following = false ∧ outputOn dieOn.die 0 ∧ ¬outputOn dieOn.die 1 ∧
      (cell (after (.currentLimitTrip 0) dieOn).die.chans 0).sw = .retryWait 1000 ∧
      ∀ e, (cell dieOn.die.chans 0).sw ≠ .retryWait e :=
  ⟨by decide, by decide, by unfold outputOn; decide +kernel, by unfold outputOn; decide +kernel, by decide +kernel,
    fun _ h => by have : (cell dieOn.die.chans 0).sw = .on := by decide +kernel
                  rw [this] at h; cases h⟩

/-- A status frame with nothing to report. -/
def quietFrame : StatusFrame :=
  { following := true, uv := false, zeros := 0, echo := 7, chans := Vector.replicate 12 ⟨false, false, false, false, false⟩ }

/-- Drive frame 7 has been sent with EBLOOP on. -/
def sentLoop : State := { runs with outbank := { runs.outbank with sent := some { bits := 0x800, count := 7 } } }

theorem witness_StatusSlotJudged :
    Running sentLoop ∧ arrives sentLoop (.other quietFrame) = some quietFrame ∧ slotGood sentLoop quietFrame ∧
      (∀ f, arrives sentLoop .missing = some f → ¬slotGood sentLoop f) ∧
      (sentLoop.outbank.sent.map fun q => hasFlag q.bits 11) = some true ∧ (cell quietFrame.chans 11).on = false := by
  refine ⟨by unfold Running; decide, rfl, by unfold slotGood; decide, ?_, by decide, by decide⟩
  intro _ h
  cases h

theorem witness_FaultReadsAnswered :
    Taking .A parked ∧ Taking .V parked ∧ 12 ≤ (12 : BitVec 8).toNat ∧ (11 : BitVec 8).toNat = (11 : Fin 12).val := by
  unfold Taking; decide +kernel

theorem witness_TouchMeasurementsJudged :
    Running presses ∧ (cell presses.stop.chans 15).state = .disabled ∧ (63 : BitVec 12).toNat < 64 ∧ (4095 : BitVec 12).toNat =
      4095 ∧
      (cell presses.stop.chans 0).baseline = none ∧ (cell presses.stop.chans 5).baseline = some 32000 ∧
      (cell presses.stop.chans 5).state ≠ .disabled ∧ (cell presses.stop.chans 5).state ≠ .faulted ∧
      64 ≤ (64 : BitVec 12).toNat ∧ (4094 : BitVec 12).toNat ≠ 4095 := by unfold Running; decide +kernel

theorem witness_ConfirmedPressRecorded :
    Running presses ∧ 64 ≤ (1940 : BitVec 12).toNat ∧ (1940 : BitVec 12).toNat ≠ 4095 ∧
      (cell presses.stop.chans 5).baseline = some 32000 ∧ (cell presses.stop.chans 5).state = .pressing ∧
      2 ≤ (cell presses.stop.chans 5).confirm ∧ (presses.settings.threshold : Int) ≤ depthOf 32000 1940 ∧
      presses.stop.sect = .running ∧ presses.lines.dcl = true ∧ 1 ≤ 3 ∧ 3 ≤ 6 ∧ cell presses.settings.touch 5 = .door 3 := by
  unfold Running; decide +kernel

theorem witness_CyclesAndScansBegin :
    Running State.reset ∧ Running runs ∧ (-1000 ≤ resetCommand.demand ∧ resetCommand.demand ≤ 1000) ∧ resetCommand.count ≤ 15 ∧
      ({ demand := 1000, brake := true, emergency := true } : BrkCommand).demand ≤ 1000 := by unfold Running; decide

/-- A stop is requested. -/
def requested : State :=
  { runs with stop := { runs.stop with record := { StopRec.empty with first := some { source := .driver, mark := 0, time := 0 } } } }

theorem witness_StopSetAndCancel :
    Taking .A runs ∧ runs.auth.standing .A = .driving ∧ ({ runs.lines with dcl := false } : Lines).dcl = false ∧
      runs.lines.dcl = true ∧ runs.stop.record.first = none ∧ Taking .V requested ∧ requested.stop.record.first.isSome = true :=
        by
  unfold Taking; decide +kernel

theorem witness_StatusReadsAnswered :
    Taking .A parked ∧ Taking .V parked ∧ 13 < (14 : BitVec 8).toNat ∧ (13 : BitVec 8).toNat ≤ 13 ∧ 8 < (9 : BitVec 8).toNat ∧
      1 ≤ (8 : BitVec 8).toNat ∧ parked.stop.history.length < (8 : BitVec 8).toNat ∧ 15 < (16 : BitVec 8).toNat ∧
      (15 : BitVec 8).toNat = (15 : Fin 16).val ∧
      ((after .dclOpen { requested with wheel := stands.wheel }).stop.history[(1 : BitVec 8).toNat - 1]?).isSome = true := by
  unfold Taking; decide +kernel

theorem witness_BeaconsCreateTransactions :
    Running nears ∧ 1 ≤ (310 : BitVec 16).toNat ∧ (4095 : BitVec 16).toNat ≤ 4095 ∧ parked.auth.isHeld = false ∧
      nears.auth.isHeld = true ∧ nears.auth.direction ≠ .neutral ∧ (asks.junct.live 310).isSome = true ∧
      nears.junct.live 310 = none ∧ nears.junct.entry 311 = none ∧ nears.junct.entry 310 = some entry310 ∧
      nears.junct.list.length < 4 ∧ 4 ≤ (List.replicate 4 trans310).length ∧ trans310.id ≤ 4095 ∧ trans310.route ≤ 4 ∧
      nears.settings.tram ≤ 9999 ∧ nears.settings.run ≤ 999 := by unfold Running; decide +kernel

theorem witness_ReportsAndConfirmsTaken :
    Running asks ∧ 1 ≤ (310 : BitVec 16).toNat ∧ (310 : BitVec 16).toNat ≤ 4095 ∧ (4 : BitVec 8).toNat ≤ 4 ∧
      nears.junct.presence = false ∧ asks.junct.live 310 = some trans310 ∧ trans310.seq = 6 ∧ trans310.state ≠ .set ∧
      asks.junct.presence = true ∧ (214 : BitVec 16).toNat = asks.settings.tram ∧ (2 : BitVec 3).toNat = trans310.route ∧
      nears.junct.live 310 = none ∧ (0x84 : Byte).toNat / 32 ≤ 4 ∧
      (0x84 : Byte).toNat / 4 % 8 = resultCode .setLocked + 1 ∧
      readTelegram ([0x01, 0x01, 0x36] ++ bytesOf16 (crc16 [0x01, 0x01, 0x36])) ≠ .telegramDropped := by
  unfold Running; decide +kernel

theorem witness_JunctionTimersExpire :
    Running asks ∧ asks.junct.live (310 : BitVec 16).toNat = some trans310 ∧ trans310.timer = some 400 ∧ trans310.tries < 3 ∧
      asks.junct.presence = true ∧ asks.junct.lapseAt = some 200 ∧ Running nears ∧ nears.junct.presence = false := by
  unfold Running; decide +kernel

theorem witness_JunctionReRequests :
    Taking (portOf .A) asks ∧ asks.auth = .held .A .forward ∧ 4 < (5 : BitVec 8).toNat ∧ 1 ≤ (4 : BitVec 8).toNat ∧
      (4 : BitVec 8).toNat ≤ 4 ∧ nears.junct.presence = false ∧ asks.junct.presence = true ∧
      asks.junct.list.getLast? = some trans310 ∧ trans310.state ≠ .set ∧ asks.junct.entry trans310.id = some entry310 := by
  unfold Taking; decide +kernel

theorem junct_in : JunctInv nears := by
  refine ⟨by decide, by decide, ?_, by decide, ?_, by decide, by decide, ?_, ?_, by decide, by decide⟩
  · intro e h
    obtain rfl | rfl : e = entry310 ∨ e = entry318 := by simpa [nears] using h
    all_goals exact ⟨by decide, by decide, by decide, by decide, by decide⟩
  · intro q h
    obtain rfl | rfl : q = { id := 310, route := 2 } ∨ q = { id := 318, route := 1 } := by simpa [nears] using h
    · exact ⟨entry310, by decide, by decide, by decide, by decide⟩
    · exact ⟨entry318, by decide, by decide, by decide, by decide⟩
  · intro t h; cases h
  · intro r h; cases h

theorem witness_TableWriteTaken : Taking .V nears ∧ JunctInv nears := ⟨by unfold Taking; decide, junct_in⟩

theorem witness_JunctionRecordsAnswered :
    Taking .V nears ∧ JunctInv nears ∧ 95 < (96 : BitVec 8).toNat ∧ (95 : BitVec 8).toNat ≤ 95 ∧ 31 < (32 : BitVec 8).toNat ∧
      (31 : BitVec 8).toNat ≤ 31 ∧ Taking .A asks ∧ 4 < (5 : BitVec 8).toNat ∧ 1 < (2 : BitVec 8).toNat ∧
      asks.junct.list.length < (4 : BitVec 8).toNat ∧ asks.junct.list[(1 : BitVec 8).toNat - 1]? = some trans310 :=
  ⟨by unfold Taking; decide, junct_in, by decide, by decide, by decide, by decide, by unfold Taking; decide, by decide, by decide,
    by decide, by decide⟩

end Sys2Proof.Tests
end

/-! ## Proofs: driving authority (01) -/

section
/-! SUPPORT. How a desk command is gated and concluded: every command of the catalogue is its block's rule behind the gate of its
code (R171, R172), and what its conclusion tells each port (R174). -/

namespace Sys2Proof.Proofs

open Sys2Proof Sys2Proof.Machine

/-! ### The gate -/

/-- A code with permitted standings is one of the catalogue (R172). -/
theorem commandCodes_contains_of_permitOf {code : Byte} {f : Permit} (h : permitOf code = some f) :
    commandCodes.contains code = true := by
  obtain ⟨e, he, _⟩ : ∃ e, catalogue.find? (fun e => e.1 == code) = some e ∧ e.2 = f := by simpa [permitOf] using h
  have hcode : e.1 = code := by simpa using List.find?_some he
  have hmem : e.1 ∈ catalogue.map Prod.fst := List.mem_map_of_mem (List.mem_of_find?_eq_some he)
  have hcodes : catalogue.map Prod.fst = commandCodes := rfl
  simpa [hcode, hcodes] using hmem

/-- A well-formed command whose code is in the catalogue is a rule behind its code's gate. -/
theorem exec_eq_command {i : Instr} {p : Port} {code : Byte} {q : Params} {f : Permit} (hw : wellFormed i = true)
    (he : encodeCommand i = some (p, code, q)) (hf : permitOf code = some f) :
    ∃ rule, ∀ s, exec i s = .next (s.command p code rule) := by
  have hc := commandCodes_contains_of_permitOf hf
  cases i with
  | unknownCommand p' code' =>
    cases he
    simp [wellFormed, List.contains_iff_mem.mp hc] at hw
  -- An event has no code (`he` is absurd); every other row's meaning is `State.command` by definition.
  | _ => cases he <;> exact ⟨_, fun _ => rfl⟩

/-! ### What a conclusion tells -/

theorem only_and (k : Notice) (m : BitVec 20) : only k &&& m = if hasFlag m k.idx then only k else 0 := by
  have honly : only k = BitVec.twoPow 20 k.idx := BitVec.zero_or
  rw [honly, BitVec.twoPow_and]
  rfl

/-- The rows of R174 as the three masks hold them: to all, to the holder, to port V. -/
theorem recipients_eq_masks (k : Notice) (a : Auth) (p : Port) :
    recipients k a p = (hasFlag Notice.toAllMask k.idx ||
      decide (a.holder = some p) && hasFlag Notice.toHolderMask k.idx || decide (p = .V) && hasFlag Notice.toVehicleMask k.idx) := by
  cases k <;> simp [recipients, hasFlag, Notice.idx, Notice.toAllMask, Notice.toHolderMask, Notice.toVehicleMask]

theorem ite_or_ite {n : Nat} (x : BitVec n) (b c : Prop) [Decidable b] [Decidable c] :
    ((if b then x else 0) ||| if c then x else 0) = if b ∨ c then x else 0 := by
  by_cases hb : b <;> by_cases hc : c <;> simp [hb, hc]

/-- A notice raised alone goes to the recipients that R174 names for it. -/
theorem noticesFor_only (a : Auth) (k : Notice) (p : Port) :
    noticesFor a (only k) p = if recipients k a p then only k else 0 := by
  unfold noticesFor
  simp only [only_and, ← ite_and, ite_or_ite, recipients_eq_masks, Bool.or_eq_true, Bool.and_eq_true, decide_eq_true_eq]

/-- A rule that leaves the ports alone has, once concluded, answered its port and told each port what it raised. -/
theorem conclude_notified {s u : State} (p : Port) (code : Byte) (a : Answer) (h : u.ports = s.ports) :
    Notified (s.reply p (a.reply code)) (State.conclude p code (u, a)) (noticesFor u.auth u.raised) := by
  have hports : (u.reply p (a.reply code)).ports = (s.reply p (a.reply code)).ports := by simp only [State.reply, h]
  intro q
  calc (State.conclude p code (u, a)).ports.get q
      = ((u.reply p (a.reply code)).ports.get q).notify (noticesFor u.auth u.raised q) := State.deliver_get _ q
    _ = ((s.reply p (a.reply code)).ports.get q).notify (noticesFor u.auth u.raised q) := by rw [hports]

@[simp] theorem conclude_replyOf (p : Port) (code : Byte) (r : State × Answer) :
    (State.conclude p code r).replyOf p = r.2.reply code := by
  simp [State.conclude]

end Sys2Proof.Proofs
end

section
/-! The standings and the directions that the authority record gives (R3, R4). -/

namespace Sys2Proof.Proofs

open Sys2Proof Sys2Proof.Machine

@[simp] theorem cabOf_portOf (x : Cab) : cabOf (portOf x) = some x := by cases x <;> rfl

@[simp] theorem standing_V (a : Auth) : a.standing .V = .vehicle := rfl

/-! #### R3's table for a cab port, a row for each authority state -/

@[simp] theorem standing_vacant (x : Cab) : Auth.standing .vacant (portOf x) = .watching := by cases x <;> rfl
@[simp] theorem standing_lost (c x : Cab) (d : Direction) : Auth.standing (.lost c d) (portOf x) = .watching := by cases x <;> rfl
@[simp] theorem standing_claiming (c x : Cab) (t : Nat) (f : Option Claimant) :
    Auth.standing (.claiming c t f) (portOf x) = if c = x then .claiming else .watching := by cases x <;> rfl
@[simp] theorem standing_held (c x : Cab) (d : Direction) :
    Auth.standing (.held c d) (portOf x) = if c = x then .driving else .watching := by cases x <;> rfl

theorem standing_eq_driving_iff (a : Auth) (x : Cab) : a.standing (portOf x) = .driving ↔ ∃ d, a = .held x d := by
  cases a with
  | vacant => simp
  | claiming c t f => by_cases h : c = x <;> simp [h]
  | held c d => simp
  | lost c d => simp

theorem standing_eq_claiming_iff (a : Auth) (x : Cab) : a.standing (portOf x) = .claiming ↔ ∃ t c, a = .claiming x t c := by
  cases a with
  | vacant => simp
  | claiming c t f => simp
  | held c d => by_cases h : c = x <;> simp [h]
  | lost c d => simp

theorem standing_portOf_ne_vehicle (a : Auth) (x : Cab) : a.standing (portOf x) ≠ .vehicle := by
  cases a with
  | vacant => simp
  | claiming c t f => by_cases h : c = x <;> simp [h]
  | held c d => by_cases h : c = x <;> simp [h]
  | lost c d => simp

/-- A cab port that is neither DRIVING nor CLAIMING is WATCHING (R3). -/
theorem standing_eq_watching {a : Auth} {x : Cab} (hd : a.standing (portOf x) ≠ .driving)
    (hc : a.standing (portOf x) ≠ .claiming) : a.standing (portOf x) = .watching := by
  have hv := standing_portOf_ne_vehicle a x
  cases h : a.standing (portOf x) <;> simp_all

/-- The record names one cab, so the other's port is not DRIVING. -/
theorem not_both_driving (a : Auth) : ¬(a.standing .A = .driving ∧ a.standing .B = .driving) := by
  rintro ⟨hA, hB⟩
  obtain ⟨_, rfl⟩ := (standing_eq_driving_iff a .A).mp hA
  obtain ⟨_, h⟩ := (standing_eq_driving_iff _ .B).mp hB
  cases h

/-- Settles O2: the standings by their characterisations, the gate by `exec_eq_command`, the directions by R4's table. -/
theorem standingsAndDirections : Obligations.StandingsAndDirections := by
  refine ⟨⟨fun a x => ⟨standing_V a, standing_eq_driving_iff a x, standing_eq_claiming_iff a x, standing_eq_watching⟩,
    not_both_driving, ?gate⟩, ?table, ⟨rfl, rfl⟩, fun _ _ _ => ⟨rfl, rfl⟩⟩
  case gate =>
    intro i p code q f s hw he hf ht hs
    obtain ⟨rule, hrule⟩ := exec_eq_command hw he hf
    rw [hrule, State.command_refused ht hf hs]
  case table =>
    intro a ha
    obtain rfl | rfl : a = (fun x d => Auth.held x d) ∨ a = (fun x d => Auth.lost x d) := by simpa using ha
    · exact ⟨rfl, rfl, rfl, rfl, rfl, rfl⟩
    · exact ⟨rfl, rfl, rfl, rfl, rfl, rfl⟩

end Sys2Proof.Proofs
end

section
/-! DESK CLAIM (R5). -/

namespace Sys2Proof.Proofs

open Sys2Proof Sys2Proof.Machine

/-- The catalogue takes DESK CLAIM from the three cab standings (R172). -/
theorem permitOf_deskClaim : permitOf 0x11 = some permitCab := rfl

/-- A cab's DESK CLAIM passes the gate and is the claim rule for that cab, concluded. -/
theorem exec_deskClaim_portOf {s : State} {x : Cab} (h : Taking (portOf x) s) :
    exec (.deskClaim (portOf x)) s = .next (State.conclude (portOf x) 0x11 (s.claimRule x)) := by
  have hperm : permitCab (s.auth.standing (portOf x)) = true := by simp [permitCab, standing_portOf_ne_vehicle]
  have hrule : State.claimOn (portOf x) s = s.claimRule x := by simp [State.claimOn]
  calc exec (.deskClaim (portOf x)) s
      = .next (s.command (portOf x) 0x11 (State.claimOn (portOf x))) := rfl
    _ = .next (State.conclude (portOf x) 0x11 (s.claimRule x)) := by
      rw [State.command_taken h permitOf_deskClaim hperm, hrule]

/-- A cab's DESK CLAIM that the claim rule refuses changes its port's reply alone. -/
theorem exec_deskClaim_refused {s : State} {x : Cab} {r : Reason} (h : Taking (portOf x) s)
    (hr : s.claimRule x = (s, .refused r)) :
    exec (.deskClaim (portOf x)) s = .next (s.refuse (portOf x) 0x11 r) := by
  have hquiet : s.raised = 0 := h.2.2
  rw [exec_deskClaim_portOf h, hr, State.conclude_refusal hquiet]

/-- The record an accepted claim leaves, its notice not yet routed (R5, R103). -/
def claimEntered (x : Cab) (s : State) : State :=
  State.raise .authChanged { s with auth := .claiming x s.now none, sound := s.sound.endTests s.now }

theorem claimRule_accepted {s : State} {x : Cab} (ha : s.auth = .vacant) (hk : keyLevel s.lines x = true) :
    s.claimRule x = (claimEntered x s, .accepted) := by
  simp [State.claimRule, ha, hk, claimEntered]

/-- AUTH_CHANGED is the one notice of an accepted claim. -/
theorem claimEntered_raised {s : State} (x : Cab) (h : s.raised = 0) : (claimEntered x s).raised = only .authChanged := by
  simp [claimEntered, State.raise, h, only]

/-- An accepted claim, concluded, tells AUTH_CHANGED to every port and leaves the other records alone. -/
theorem claim_concluded {s : State} (x : Cab) (p : Port) (h : s.raised = 0) :
    let t := State.conclude p 0x11 (claimEntered x s, .accepted)
    Notified (s.reply p { status := .accepted, code := 0x11, data := 0 }) t (fun _ => only .authChanged) ∧
      { t with ports := s.ports, auth := s.auth, sound := s.sound } = s := by
  refine ⟨?told, congrArg (fun r => { s with raised := r }) h.symm⟩
  have hkinds : noticesFor (claimEntered x s).auth (claimEntered x s).raised = fun _ => only .authChanged := by
    funext q
    rw [claimEntered_raised x h, noticesFor_only]
    rfl
  rw [← hkinds]
  exact conclude_notified p 0x11 .accepted rfl

/-- Settles O3: port V fails the gate; a cab's claim is its rule, by the authority state and, in VACANT, by the key. -/
theorem deskClaimAnswered : Obligations.DeskClaimAnswered := by
  intro s
  refine ⟨fun h => congrArg Host.Outcome.next (State.command_refused h permitOf_deskClaim rfl), fun x h => ?_⟩
  have hquiet : s.raised = 0 := h.2.2
  split
  next ha =>
    split
    next hk =>
      obtain ⟨htold, hframe⟩ := claim_concluded x (portOf x) hquiet
      refine ⟨_, ?_, rfl, conclude_replyOf _ _ _, htold, rfl, hframe⟩
      rw [exec_deskClaim_portOf h, claimRule_accepted ha hk]
    next hk => exact exec_deskClaim_refused h (by simp [State.claimRule, ha, hk])
  next ha => exact exec_deskClaim_refused h (by simp [State.claimRule, ha])
  next ha => exact exec_deskClaim_refused h (by simp [State.claimRule, ha])
  next ha => exact exec_deskClaim_refused h (by simp [State.claimRule, ha])

end Sys2Proof.Proofs
end

/-! ## Proofs: demand shaping (03) -/

section
/-! SUPPORT. What a shaper period does (R40 to R54, R104), block by block. -/

namespace Sys2Proof.Proofs

open Sys2Proof Sys2Proof.Machine

/-! ### The event -/

/-- A period raises no notice. -/
@[simp] theorem shaperPeriod_raised (s : State) : s.shaperPeriod.raised = s.raised := by simp [State.shaperPeriod]

theorem exec_shaperPeriod {s : State} (h : Running s) : exec .shaperPeriod s = .next s.shaperPeriod := by
  obtain ⟨hheld, hraised⟩ := h
  calc exec .shaperPeriod s = .next (s.event State.shaperPeriod) := rfl
    _ = .next s.shaperPeriod := by
      rw [State.event_of hheld, State.deliver_quiet ((shaperPeriod_raised s).trans hraised)]

/-! ### What it computes -/

theorem not_calm_eq (sh : ShaperRec) : (!sh.calm) = decide (sh.sources ≠ 0) := decide_not.symm

theorem calm_of_no_source {sh : ShaperRec} (h : sh.sources = 0) : sh.calm = true := by simp [ShaperRec.calm, h]

/-- No stage of a period reads the clock. -/
@[simp] theorem computePeriod_reach (s : State) (t : Nat) : (s.reach t).computePeriod = s.computePeriod := rfl

/-- The clamp of R50 only lowers. -/
theorem clampOut_le (x : Int) (c : Nat) (p : Bool) : clampOut x c p ≤ x := by
  have hceiling : (if 0 < x then min x (c : Int) else x) ≤ x := by split <;> omega
  cases p with
  | true => exact hceiling
  | false => exact (min_le_left _ _).trans hceiling

theorem computePeriod_o_le {s : State} (h : s.shaper.sources = 0) :
    s.computePeriod.o ≤ rateStep s.shaper.oPrev s.computePeriod.t := by
  have hcalm := calm_of_no_source h
  simp only [State.computePeriod, outputOf, hcalm, if_true]
  exact clampOut_le _ _ _

theorem wantsSand_iff (s : State) :
    s.wantsSand = true ↔ s.wheel.adhesion ≠ .normal ∨
      ((s.shaper.demand.map DemandBody.sand) = some true ∧ s.shaper.stage = .fresh ∧ 0 < s.wheel.v) ∨
      (s.shaper.sources ≠ 0 ∧ 0 < s.wheel.v) := by
  cases hd : s.shaper.demand <;> simp [State.wantsSand, not_calm_eq, hd, or_assoc, and_assoc]

theorem wantsTrackBrake_iff (s : State) :
    s.wantsTrackBrake = true ↔ s.shaper.sources ≠ 0 ∧ s.wheel.stationary = false := by
  simp [State.wantsTrackBrake, not_calm_eq]

theorem isVacant_iff (a : Auth) : a.isVacant = true ↔ a = .vacant := by cases a <;> simp [Auth.isVacant]

/-- R51, in the order of its tests. -/
theorem computePeriod_brake (s : State) :
    s.computePeriod.brake =
      (if s.auth = .vacant then true else if s.wheel.stationary = true ∧ s.computePeriod.o ≤ 0 then true
       else if 50 < s.computePeriod.o then false else s.shaper.holdingBrake) := by
  have hbrake : s.computePeriod.brake =
      brakeNext s.shaper.holdingBrake s.auth.isVacant s.wheel.stationary s.computePeriod.o := rfl
  rw [hbrake]
  simp only [brakeNext, isVacant_iff, Bool.and_eq_true, decide_eq_true_eq]

/-! ### What it leaves in each block -/

/-- The state a period has published, before the departure bell is decided. -/
def published (s : State) : State := (s.reach (s.shaper.periodAt + 10)).publishPeriod s.computePeriod

theorem shaperPeriod_eq (s : State) : s.shaperPeriod = (published s).departure := by
  simp only [State.shaperPeriod, computePeriod_reach, published]

theorem shaperPeriod_shaper (s : State) :
    s.shaperPeriod.shaper =
      { s.shaper with
        o := s.computePeriod.o, oPrev := s.computePeriod.o, t := s.computePeriod.t, vLim := s.computePeriod.vLim
        c := s.computePeriod.c, overspeed := s.computePeriod.overspeed, holdingBrake := s.computePeriod.brake
        sandReq := s.wantsSand, trackReq := s.wantsTrackBrake, periodAt := s.shaperPeriod.now } := rfl

theorem shaperPeriod_tlink (s : State) :
    s.shaperPeriod.tlink =
      { s.tlink with handOver :=
        { o := s.computePeriod.o, direction := s.auth.vdir, brake := s.computePeriod.brake
          emergency := decide (s.shaper.sources ≠ 0) } } := by
  rw [← not_calm_eq]
  rfl

/-- A period changes the clock, SHAPER, TLINK and SOUND alone. -/
theorem shaperPeriod_frame (s : State) :
    { s.shaperPeriod with now := s.now, shaper := s.shaper, tlink := s.tlink, sound := s.sound } = s := rfl

end Sys2Proof.Proofs
end

section
/-! The rate limit (R49). -/

namespace Sys2Proof.Proofs

open Sys2Proof Sys2Proof.Machine

/-! ### The rows of the table -/

theorem rateStep_traction {prev t : Int} (h : prev < t) (h0 : 0 ≤ prev) : rateStep prev t = min t (prev + 15) := by
  simp [rateStep, h, h0]

theorem rateStep_brakeRelease {prev t : Int} (h : prev < t) (h0 : prev < 0) :
    rateStep prev t = min (min t (prev + 40)) 0 := by
  simp [rateStep, h, h0]

theorem rateStep_tractionCut {prev t : Int} (h : t < prev) (h0 : 0 < prev) : rateStep prev t = max (max t (prev - 50)) 0 := by
  simp [rateStep, h, h0, h.not_gt]

theorem rateStep_braking {prev t : Int} (h : t < prev) (h0 : prev ≤ 0) : rateStep prev t = max t (prev - 30) := by
  simp [rateStep, h, h0.not_gt, h.not_gt]

@[simp] theorem rateStep_self (prev : Int) : rateStep prev prev = prev := by simp [rateStep]

/-- The table is complete: every step is one of its rows. -/
theorem rateStep_cases (prev t : Int) :
    (prev < t ∧ 0 ≤ prev ∧ rateStep prev t = min t (prev + 15)) ∨
    (prev < t ∧ prev < 0 ∧ rateStep prev t = min (min t (prev + 40)) 0) ∨
    (t < prev ∧ 0 < prev ∧ rateStep prev t = max (max t (prev - 50)) 0) ∨
    (t < prev ∧ prev ≤ 0 ∧ rateStep prev t = max t (prev - 30)) ∨
    (t = prev ∧ rateStep prev t = prev) := by
  rcases lt_trichotomy prev t with h | rfl | h
  · rcases le_or_gt 0 prev with h0 | h0
    · exact .inl ⟨h, h0, rateStep_traction h h0⟩
    · exact .inr (.inl ⟨h, h0, rateStep_brakeRelease h h0⟩)
  · exact .inr (.inr (.inr (.inr ⟨rfl, rateStep_self prev⟩)))
  · rcases lt_or_ge 0 prev with h0 | h0
    · exact .inr (.inr (.inl ⟨h, h0, rateStep_tractionCut h h0⟩))
    · exact .inr (.inr (.inr (.inl ⟨h, h0, rateStep_braking h h0⟩)))

/-! ### What follows from the rows -/

theorem rateStep_between (prev t : Int) : min prev t ≤ rateStep prev t ∧ rateStep prev t ≤ max prev t := by
  have := rateStep_cases prev t
  omega

theorem rateStep_nonpos_of_neg {prev : Int} (t : Int) (h : prev < 0) : rateStep prev t ≤ 0 := by
  have := rateStep_cases prev t
  omega

theorem rateStep_nonneg_of_pos {prev : Int} (t : Int) (h : 0 < prev) : 0 ≤ rateStep prev t := by
  have := rateStep_cases prev t
  omega

theorem rateStep_le_add_15 {prev : Int} (t : Int) (h : 0 ≤ prev) : rateStep prev t ≤ prev + 15 := by
  have := rateStep_cases prev t
  omega

theorem rateStep_le_add_40 {prev : Int} (t : Int) (h : prev < 0) : rateStep prev t ≤ prev + 40 := by
  have := rateStep_cases prev t
  omega

/-- Settles O22: the rows of the table, what follows from them, and the clamp that only lowers a period's step. -/
theorem rateStepTable : Obligations.RateStepTable := by
  intro prev t
  have hbetween := rateStep_between prev t
  refine ⟨rateStep_traction, rateStep_brakeRelease, rateStep_tractionCut, rateStep_braking, ?equal, hbetween,
    fun h => h.2.not_ge (rateStep_nonpos_of_neg t h.1), fun h => h.2.not_ge (rateStep_nonneg_of_pos t h.1),
    rateStep_le_add_15 t, rateStep_le_add_40 t, ?range, ?period⟩
  case equal =>
    rintro rfl
    exact rateStep_self t
  case range =>
    intro hp hp' ht ht'
    omega
  case period =>
    intro s hrun hsources
    refine ⟨_, exec_shaperPeriod hrun, ?_⟩
    rw [shaperPeriod_shaper]
    exact ⟨computePeriod_o_le hsources, rfl⟩

end Sys2Proof.Proofs
end

section
/-! The departure bell and the hand-over of a period (R51 to R54, R104). -/

namespace Sys2Proof.Proofs

open Sys2Proof Sys2Proof.Machine

/-! ### A one-shot by what its slot holds (R101) -/

/-- What keeps a one-shot request of pattern p and requester `who` out of a slot that holds i: i is the request's own, or its
pattern's priority is no lower. -/
def keepsOut (s : SoundRec) (p : Fin 8) (who : Requester) (i : Instance) : Prop :=
  (i.pattern = p ∧ i.requester = who) ∨ (cell s.patterns p).priority ≤ (cell s.patterns i.pattern).priority

theorem oneShot_dropped {s : SoundRec} {c : Sounder} {p : Fin 8} {who : Requester} {i : Instance} (now : Nat)
    (hslot : s.slot c = some i) (h : keepsOut s p who i) : s.oneShot now c p who = s := by
  simp only [SoundRec.oneShot, hslot]
  rcases h with hown | hpriority
  · rw [if_pos hown]
  · have hlow : ¬ s.priorityOf i < (cell s.patterns p).priority := hpriority.not_gt
    rw [if_neg hlow, ite_self]

theorem oneShot_started {s : SoundRec} {c : Sounder} {p : Fin 8} {who : Requester} (now : Nat)
    (h : ∀ i, s.slot c = some i → ¬ keepsOut s p who i) :
    (s.oneShot now c p who).slot c = some (s.newInstance now p who false) := by
  cases hslot : s.slot c with
  | none => simp [SoundRec.oneShot, hslot, SoundRec.slot_putSlot]
  | some i =>
    obtain ⟨hown, hpriority⟩ := not_or.mp (h i hslot)
    have hhigh : s.priorityOf i < (cell s.patterns p).priority := not_le.mp hpriority
    simp [SoundRec.oneShot, hslot, hown, hhigh, SoundRec.slot_putSlot]

/-! ### The departure bell (R104) -/

/-- The tram departs: a departure is pending and O is above 0. -/
abbrev Departs (s : State) : Prop := s.sound.departurePending = true ∧ 0 < s.shaper.o

theorem departure_pending (s : State) :
    s.departure.sound.departurePending = if Departs s then false else s.sound.departurePending := by
  have hpending : s.departure.sound.departurePending = (s.sound.departurePending && !decide (Departs s)) := by
    simp [State.departure, Departs]
  by_cases h : Departs s
  · rw [hpending, if_pos h, decide_eq_true h, Bool.not_true, Bool.and_false]
  · rw [hpending, if_neg h, decide_eq_false h, Bool.not_false, Bool.and_true]

/-- Without a departure, with the setting off or without a leading end, no bell is asked for. -/
theorem departure_silent {s : State} (h : ¬ Departs s ∨ s.settings.departureBell ≠ 1 ∨ s.auth.leading = none) :
    { s.departure.sound with departurePending := s.sound.departurePending } = s.sound := by
  cases hl : s.auth.leading with
  | none => simp [State.departure, hl]
  | some e =>
    have hno : ¬(Departs s ∧ s.settings.departureBell = 1) := by
      rintro ⟨hgoes, hset⟩
      simp [hgoes, hset, hl] at h
    simp only [State.departure, hl, Bool.and_eq_true, decide_eq_true_eq]
    exact congrArg (fun a : SoundRec => { a with departurePending := s.sound.departurePending }) (if_neg hno)

theorem departure_rings {s : State} {e : Cab} (h : Departs s) (hset : s.settings.departureBell = 1)
    (hlead : s.auth.leading = some e) :
    s.departure.sound = { s.sound.oneShot s.now (bellOf e) 2 .departureBell with departurePending := false } := by
  obtain ⟨hpending, ho⟩ := h
  simp [State.departure, hlead, hset, hpending, ho]

/-! ### The period's share in SOUND -/

/-- The bell of a departure by what the leading end's slot holds: kept out, or started as a one-shot. -/
theorem shaperPeriod_bell {s : State} {e : Cab} (hgoes : Departs (published s)) (hset : s.settings.departureBell = 1)
    (hlead : s.auth.leading = some e) :
    s.shaperPeriod.sound =
        { s.sound.oneShot s.shaperPeriod.now (bellOf e) 2 .departureBell with departurePending := false } ∧
      (∀ i, s.sound.slot (bellOf e) = some i → keepsOut s.sound 2 .departureBell i →
        { s.shaperPeriod.sound with departurePending := s.sound.departurePending } = s.sound) ∧
      ((∀ i, s.sound.slot (bellOf e) = some i → ¬ keepsOut s.sound 2 .departureBell i) →
        s.shaperPeriod.sound.slot (bellOf e) = some (s.sound.newInstance s.shaperPeriod.now 2 .departureBell false)) := by
  have hring : s.shaperPeriod.sound =
      { s.sound.oneShot s.shaperPeriod.now (bellOf e) 2 .departureBell with departurePending := false } :=
    (congrArg State.sound (shaperPeriod_eq s)).trans (departure_rings hgoes hset hlead)
  refine ⟨hring, fun i hslot hkeeps => ?_, fun hfree => ?_⟩
  · rw [hring, oneShot_dropped _ hslot hkeeps]
  · rw [hring]
    exact oneShot_started _ hfree

/-- Ports left alone are told nothing. -/
theorem notified_nothing {s t : State} (h : t.ports = s.ports) : Notified s t (fun _ => 0) := by
  intro p
  simp [h]

/-- Settles O24: SHAPER and TLINK as the period's equations have them, SOUND by whether a departure asks for the bell and by what
the leading end's bell slot holds. -/
theorem periodHandsOver : Obligations.PeriodHandsOver := by
  intro s hrun
  refine ⟨_, exec_shaperPeriod hrun, computePeriod_brake s, shaperPeriod_tlink s, wantsSand_iff s, wantsTrackBrake_iff s,
    departure_pending (published s), departure_silent (s := published s), ?bell, ?shaper, notified_nothing rfl,
    shaperPeriod_frame s⟩
  case shaper => rw [shaperPeriod_shaper]
  case bell =>
    intro e hgoes hset hlead
    obtain ⟨hring, hdropped, hstarted⟩ := shaperPeriod_bell hgoes hset hlead
    refine ⟨hring, hdropped, fun hfree => ⟨_, hstarted fun i hslot => ?_, rfl, rfl, rfl, rfl⟩⟩
    obtain ⟨hown, hpriority⟩ := hfree i hslot
    exact not_or.mpr ⟨hown, hpriority.not_ge⟩

end Sys2Proof.Proofs
end

/-! ## Proofs: vigilance (06) -/

section
/-! SUPPORT. What the withdrawing of a level request can do to SOUND (R100). -/

namespace Sys2Proof.Proofs

open Sys2Proof Sys2Proof.Machine

/-- TONE is CHIME's alone: another channel's slot is all that its new contents change. -/
theorem putSlot_of_ne_chime (s : SoundRec) (now : Nat) {c : Sounder} (i : Option Instance) (h : c ≠ .chime) :
    s.putSlot now c i = { s with slots := putCell s.slots (slotOf c) i } := by
  simp [SoundRec.putSlot, h]

/-- CHIME has no level requester (section 7.1). -/
theorem ne_chime_of_ownLevel {c : Sounder} {i : Instance} (h : ownLevel c i = true) : c ≠ .chime := by
  rintro rfl
  cases h

/-- All that a withdrawing can do: nothing, the request's record alone, or with it the slot that the request itself holds. -/
theorem withdraw_cases (s : SoundRec) (now : Nat) (c : Sounder) :
    s.withdraw now c = s ∨ s.withdraw now c = s.putReq c .notPlaced ∨
      c ≠ .chime ∧ ∃ i, s.withdraw now c = (s.putReq c .notPlaced).putSlot now c i := by
  unfold SoundRec.withdraw
  split
  next => exact .inl rfl
  next =>
    refine .inr ?_
    dsimp only
    split
    next => exact .inl rfl
    next i _ =>
      split
      next hown =>
        have hc : c ≠ .chime := ne_chime_of_ownLevel hown
        refine .inr ⟨hc, ?_⟩
        split
        next =>
          have hreq : (s.putReq c .notPlaced).req c ≠ .placed false := by simp [SoundRec.req_putReq]
          exact ⟨none, SoundRec.endSlot_empty now hreq⟩
        next => exact ⟨_, (putSlot_of_ne_chime _ now _ hc).symm⟩
      next => exact .inl rfl

/-- A withdrawing changes no other channel. -/
theorem withdraw_other (s : SoundRec) (now : Nat) {c e : Sounder} (h : e ≠ c) : channelKept s (s.withdraw now c) e := by
  have hreq : (s.putReq c .notPlaced).req e = s.req e := by simp [SoundRec.req_putReq, h]
  obtain hw | hw | ⟨_, i, hw⟩ := withdraw_cases s now c
  · rw [hw]; exact ⟨rfl, rfl⟩
  · rw [hw]; exact ⟨rfl, hreq⟩
  · rw [hw]; exact ⟨by simp [SoundRec.slot_putSlot, h], hreq⟩

/-- A withdrawing changes slots and requests alone. -/
theorem withdraw_frame (s : SoundRec) (now : Nat) (c : Sounder) :
    { s.withdraw now c with slots := s.slots, level := s.level } = s := by
  obtain hw | hw | ⟨hc, i, hw⟩ := withdraw_cases s now c
  · rw [hw]
  · rw [hw]; rfl
  · rw [hw, putSlot_of_ne_chime _ now i hc]; rfl

/-- Of SOUND a withdrawing changes its own channel alone. -/
theorem withdraw_soundKept (s : SoundRec) (now : Nat) (c : Sounder) : soundKept s (s.withdraw now c) [c] :=
  ⟨fun _ h => withdraw_other s now (List.ne_of_not_mem_cons h), withdraw_frame s now c⟩

/-- A withdrawn request is as one that is not asked for. -/
theorem withdraw_channelAsked (s : SoundRec) (now : Nat) (c : Sounder) :
    channelAsked s (s.withdraw now c) now c false := by
  refine ⟨?_, rfl, rfl⟩
  simp [SoundRec.withdraw_req]

end Sys2Proof.Proofs
end

section
/-! SUPPORT. The removal of an emergency source that is present, in the terms of the statements (R48, R59, R66). -/

namespace Sys2Proof.Proofs

open Sys2Proof Sys2Proof.Machine

section
variable {s : State} {k : EmSource}

theorem empties_eq_of_has (h : s.shaper.has k = true) :
    s.shaper.empties k = decide (dropFlag s.shaper.sources k.idx = 0) := by
  rw [ShaperRec.empties, h, Bool.true_and]
  rfl

theorem calms_iff_of_has (h : s.shaper.has k = true) :
    s.calms k = true ↔ dropFlag s.shaper.sources k.idx = 0 ∧ s.outbank.linkUp = true := by
  simp [State.calms, empties_eq_of_has h]

/-- The sources that a removal leaves (R66). -/
theorem removeSource_sources_of_has (h : s.shaper.has k = true) :
    (s.removeSource k).shaper.sources =
      if dropFlag s.shaper.sources k.idx = 0 ∧ s.outbank.linkUp = false then addFlag 0 EmSource.loopDropped.idx
      else dropFlag s.shaper.sources k.idx := by
  simp [State.removeSource, empties_eq_of_has h]

/-- A removal leaves no source exactly when it empties the set for good. -/
theorem removeSource_sources_eq_zero_iff (h : s.shaper.has k = true) :
    (s.removeSource k).shaper.sources = 0 ↔ s.calms k = true := by
  have hloop : addFlag (0 : BitVec 8) EmSource.loopDropped.idx ≠ 0 := addFlag_ne_zero 0 EmSource.loopDropped.idx_lt
  rw [removeSource_sources_of_has h, calms_iff_of_has h]
  cases s.outbank.linkUp with
  | true => simp
  | false =>
    by_cases hrest : dropFlag s.shaper.sources k.idx = 0
    · rw [if_pos ⟨hrest, rfl⟩]
      exact iff_of_false hloop (by simp)
    · rw [if_neg fun e => hrest e.1]
      exact iff_of_false hrest (by simp)

/-- What a removal raises: EMERGENCY_CHANGED when it leaves no source. -/
theorem removeSource_raised_of_has (h : s.shaper.has k = true) (hquiet : s.raised = 0) :
    (s.removeSource k).raised = if (s.removeSource k).shaper.sources = 0 then only .emergencyChanged else 0 := by
  simp only [removeSource_sources_eq_zero_iff h]
  simp only [State.removeSource, hquiet, only]

/-- The removal of a source that is present is what the statements say of it. -/
theorem sourceRemoved_removeSource (h : s.shaper.has k = true) : sourceRemoved s (s.removeSource k) k := by
  have hcalms := calms_iff_of_has h
  have hsources := removeSource_sources_of_has h
  by_cases hc : s.calms k = true
  · have hempty : dropFlag s.shaper.sources k.idx = 0 ∧ s.outbank.linkUp = true := hcalms.mp hc
    have hcalm : (s.removeSource k).driveBit 11 = true := calm_of_no_source ((removeSource_sources_eq_zero_iff h).mpr hc)
    have hsound : (s.removeSource k).sound = s.sound.withdraw s.now .hazard := if_pos hc
    refine ⟨?shaper, ?hazard, ?sound⟩
    case shaper => rw [← hsources, if_pos hempty, if_pos hempty, State.removeSource_calms hc]
    case hazard =>
      rw [if_pos hempty, hsound]
      exact ⟨withdraw_channelAsked _ _ _, hcalm⟩
    case sound =>
      rw [hsound]
      exact withdraw_soundKept _ _ _
  · have hkept : ¬(dropFlag s.shaper.sources k.idx = 0 ∧ s.outbank.linkUp = true) := fun e => hc (hcalms.mpr e)
    have hsound : (s.removeSource k).sound = s.sound := if_neg hc
    refine ⟨?shaper, ?hazard, ?sound⟩
    case shaper => rw [← hsources, if_neg hkept, if_neg hkept, State.removeSource_keeps (Bool.eq_false_iff.mpr hc)]
    case hazard =>
      rw [if_neg hkept, hsound]
      exact ⟨rfl, rfl⟩
    case sound =>
      rw [hsound]
      exact ⟨fun _ _ => ⟨rfl, rfl⟩, rfl⟩

end

/-- EMERGENCY_CHANGED, when it is raised alone, goes to every port (R174). -/
theorem noticesFor_emergencyChanged (a : Auth) (c : Prop) [Decidable c] :
    noticesFor a (if c then only .emergencyChanged else 0) = fun _ => if c then only .emergencyChanged else 0 := by
  funext p
  by_cases h : c
  · rw [if_pos h, noticesFor_only]
    rfl
  · rw [if_neg h]
    exact noticesFor_zero a p

end Sys2Proof.Proofs
end

section
/-! VIGIL RESET (R94). -/

namespace Sys2Proof.Proofs

open Sys2Proof Sys2Proof.Machine

/-- The catalogue takes VIGIL RESET from DRIVING alone (R172). -/
theorem permitOf_vigilReset : permitOf 0x13 = some permitDriving := rfl

/-- From another standing than DRIVING it fails the gate. -/
theorem exec_vigilReset_notPermitted {s : State} {p : Port} (h : Taking p s) (hs : s.auth.standing p ≠ .driving) :
    exec (.vigilReset p) s = .next (s.refuse p 0x13 .notPermitted) :=
  congrArg Host.Outcome.next (State.command_refused h permitOf_vigilReset (decide_eq_false hs))

/-! ### The rule, by the state of VIGIL, standstill and the lever -/

theorem vigilResetRule_already {s : State} (h : s.vigil.state ≠ .penalty) : s.vigilResetRule = (s, .refused .already) :=
  if_pos h

theorem vigilResetRule_moving {s : State} (h : s.vigil.state = .penalty) (hm : s.wheel.stationary = false) :
    s.vigilResetRule = (s, .refused .moving) := by
  simp [State.vigilResetRule, h, hm]

theorem vigilResetRule_notReady {s : State} {b : DemandBody} (h : s.vigil.state = .penalty)
    (hm : s.wheel.stationary = true) (hb : s.shaper.demand = some b) (hl : b.lever ≠ -100 ∧ b.lever ≠ -128) :
    s.vigilResetRule = (s, .refused .notReady) := by
  simp [State.vigilResetRule, h, hm, hb, hl]

/-- The state with VIGIL as the reset leaves it, its source not yet removed. -/
def vigilRested (b : DemandBody) (s : State) : State :=
  { s with vigil := { s.vigil with state := .idle, leverRef := b.lever } }

theorem vigilResetRule_done {s : State} {b : DemandBody} (h : s.vigil.state = .penalty)
    (hm : s.wheel.stationary = true) (hb : s.shaper.demand = some b) (hl : b.lever = -100 ∨ b.lever = -128) :
    s.vigilResetRule = ((vigilRested b s).removeSource .penalty, .done 0) := by
  simp [State.vigilResetRule, h, hm, hb, hl, State.vigilResetTaken, vigilRested]

/-! ### The command -/

section
variable {s : State} {x : Cab} {d : Direction}

/-- The holder's VIGIL RESET passes the gate and is its rule, concluded. -/
theorem exec_vigilReset_held (h : Taking (portOf x) s) (ha : s.auth = .held x d) :
    exec (.vigilReset (portOf x)) s = .next (State.conclude (portOf x) 0x13 s.vigilResetRule) := by
  have hperm : permitDriving (s.auth.standing (portOf x)) = true := by simp [permitDriving, ha]
  exact congrArg Host.Outcome.next (State.command_taken h permitOf_vigilReset hperm)

/-- A holder's VIGIL RESET that the rule refuses changes its port's reply alone. -/
theorem exec_vigilReset_refused {r : Reason} (h : Taking (portOf x) s) (ha : s.auth = .held x d)
    (hr : s.vigilResetRule = (s, .refused r)) :
    exec (.vigilReset (portOf x)) s = .next (s.refuse (portOf x) 0x13 r) := by
  have hquiet : s.raised = 0 := h.2.2
  rw [exec_vigilReset_held h ha, hr, State.conclude_refusal hquiet]

end

/-- A taken reset, concluded, removes PENALTY from SHAPER and SOUND, tells the emptying of the set alone, and leaves the other
records. -/
theorem vigilReset_concluded {s : State} (b : DemandBody) (p : Port) (hquiet : s.raised = 0)
    (hpenalty : s.shaper.has .penalty = true) :
    let t := State.conclude p 0x13 ((vigilRested b s).removeSource .penalty, .done 0)
    sourceRemoved s t .penalty ∧
      Notified (s.reply p (doneReply 0x13 0)) t (fun _ => if t.shaper.sources = 0 then only .emergencyChanged else 0) ∧
      { t with ports := s.ports, vigil := s.vigil, shaper := s.shaper, sound := s.sound } = s := by
  refine ⟨?removed, ?told, congrArg (fun r => { s with raised := r }) hquiet.symm⟩
  -- Neither VIGIL nor a conclusion enters `sourceRemoved`.
  case removed => exact sourceRemoved_removeSource (s := vigilRested b s) hpenalty
  case told =>
    have htold := conclude_notified (s := s) (u := (vigilRested b s).removeSource .penalty) p 0x13 (.done 0) rfl
    rw [removeSource_raised_of_has (s := vigilRested b s) hpenalty hquiet, noticesFor_emergencyChanged] at htold
    exact htold

/-- Settles O32: another standing fails the gate; the holder's command is its rule, by VIGIL's state, standstill and the lever. -/
theorem vigilResetAnswered : Obligations.VigilResetAnswered := by
  refine ⟨fun s p => exec_vigilReset_notPermitted, fun s x d b h ha hb hsource => ?_⟩
  have hquiet : s.raised = 0 := h.2.2
  split_ifs with hstate hmoving hlever
  · exact exec_vigilReset_refused h ha (vigilResetRule_already hstate)
  · exact exec_vigilReset_refused h ha (vigilResetRule_moving (not_not.mp hstate) hmoving)
  · exact exec_vigilReset_refused h ha
      (vigilResetRule_notReady (not_not.mp hstate) (Bool.eq_true_of_not_eq_false hmoving) hb hlever)
  · have hpenalty : s.vigil.state = .penalty := not_not.mp hstate
    have hready : b.lever = -100 ∨ b.lever = -128 := by omega
    obtain ⟨hremoved, htold, hframe⟩ :=
      vigilReset_concluded b (portOf x) hquiet (hsource.trans (decide_eq_true hpenalty))
    refine ⟨_, ?_, conclude_replyOf _ _ _, rfl, hremoved, htold, hframe⟩
    rw [exec_vigilReset_held h ha, vigilResetRule_done hpenalty (Bool.eq_true_of_not_eq_false hmoving) hb hready]

end Sys2Proof.Proofs
end

/-! ## Proofs: desk ports (11) -/

section
/-! SUPPORT. R172's table of permitted standings, as the gate of a frame applies it (R171). -/

namespace Sys2Proof.Proofs

open Sys2Proof Sys2Proof.Machine

/-- The catalogue permits, row by row, the standings of R172's table. -/
theorem permitOf_row (x : Standing) :
    ∀ e ∈ permittedStandings, (permitOf e.1).map (fun f => f x) = some (decide (x ∈ e.2)) := by
  cases x <;> decide

/-- A code without a row in R172's table is outside the catalogue. -/
theorem not_catalogued_of_no_row {code : Byte} (h : permittedStandings.find? (fun e => e.1 == code) = none) :
    commandCodes.contains code = false := by
  have hrows : ∀ c ∈ commandCodes, c ∈ permittedStandings.map Prod.fst := by decide
  refine Bool.eq_false_iff.mpr fun hc => ?_
  obtain ⟨e, he, rfl⟩ := List.mem_map.mp (hrows code (List.contains_iff_mem.mp hc))
  simpa using List.find?_eq_none.mp h e he

/-- The one command with a code outside the catalogue is the row of such a code. -/
theorem eq_unknownCommand {i : Instr} {p : Port} {code : Byte} {q : Params} (he : encodeCommand i = some (p, code, q))
    (hc : commandCodes.contains code = false) : i = .unknownCommand p code := by
  cases i with
  | unknownCommand p' code' => cases he; rfl
  -- An event has no code (`he` is absurd); every other row's code is in the catalogue.
  | _ => cases he <;> exact absurd hc (by decide)

/-- A frame with a code outside the catalogue is refused UNKNOWN_COMMAND (R171). -/
theorem exec_unknownCommand {s : State} {p : Port} (code : Byte) (h : Taking p s) :
    exec (.unknownCommand p code) s = .next (s.refuse p code .unknownCommand) := by
  have hquiet : s.raised = 0 := h.2.2
  calc exec (.unknownCommand p code) s
      = .next (s.unknown p code) := rfl
    _ = .next (s.refuse p code .unknownCommand) := by rw [State.unknown, State.taking_of h, State.conclude_refusal hquiet]

/-- A command from a standing that its row of R172's table does not name fails the gate. -/
theorem exec_notPermitted_of_row {i : Instr} {p : Port} {code : Byte} {q : Params} {s : State} {e : Byte × List Standing}
    (hw : wellFormed i = true) (he : encodeCommand i = some (p, code, q)) (h : Taking p s)
    (hrow : permittedStandings.find? (fun e => e.1 == code) = some e) (hs : s.auth.standing p ∉ e.2) :
    exec i s = .next (s.refuse p code .notPermitted) := by
  obtain rfl : e.1 = code := by simpa using List.find?_some hrow
  obtain ⟨f, hf, hperm⟩ := Option.map_eq_some_iff.mp (permitOf_row (s.auth.standing p) e (List.mem_of_find?_eq_some hrow))
  obtain ⟨rule, hrule⟩ := exec_eq_command hw he hf
  rw [hrule, State.command_refused h hf (hperm.trans (decide_eq_false hs))]

end Sys2Proof.Proofs
end

section
/-! NOP and GET NOTICES (R171, R175, R176), the routing of a notice (R174), and the frames that carry no command (R169, R170). -/

namespace Sys2Proof.Proofs

open Sys2Proof Sys2Proof.Machine

/-! ### NOP and GET NOTICES -/

/-- NOP passes the gate from every standing and replies DONE. -/
theorem exec_nop {s : State} {p : Port} (h : Taking p s) : exec (.nop p) s = .next (s.reply p (doneReply 0x00 0)) := by
  have hquiet : s.raised = 0 := h.2.2
  calc exec (.nop p) s
      = .next (s.command p 0x00 (reads fun _ => .done 0)) := rfl
    _ = .next (State.conclude p 0x00 (s, .done 0)) := by rw [State.command_taken (f := permitAll) h rfl rfl]; rfl
    _ = .next (s.reply p (doneReply 0x00 0)) := by rw [State.conclude_quiet hquiet]; rfl

/-- Bytes 2 to 4 of the reply hold the mask. -/
theorem noticeData_eq_shift (m : BitVec 20) : noticeData m = m.zeroExtend 40 <<< 16 := by
  apply BitVec.eq_of_toNat_eq
  have hm : m.toNat < 2 ^ 20 := m.isLt
  rw [noticeData, BitVec.toNat_append, BitVec.toNat_append, BitVec.toNat_shiftLeft, BitVec.toNat_setWidth]
  simp only [BitVec.toNat_ofNat, Nat.shiftLeft_eq, Nat.zero_mod, Nat.zero_mul, Nat.zero_or, Nat.or_zero]
  omega

/-- GET NOTICES passes the gate from every standing; it empties the port's set and replies DONE with what the set was. -/
theorem exec_getNotices {s : State} {p : Port} (h : Taking p s) :
    exec (.getNotices p) s = .next ((s.fetchNotices p).reply p (doneReply 0x01 (noticeData (s.ports.get p).notices))) := by
  have hquiet : (s.fetchNotices p).raised = 0 := h.2.2
  calc exec (.getNotices p) s
      = .next (s.command p 0x01 (State.noticesRule p)) := rfl
    _ = .next (State.conclude p 0x01 (s.noticesRule p)) := by rw [State.command_taken (f := permitAll) h rfl rfl]
    _ = .next ((s.fetchNotices p).reply p (doneReply 0x01 (noticeData (s.ports.get p).notices))) := by
      rw [State.conclude_quiet hquiet]; rfl

theorem fetched_get_self (s : State) (p : Port) (r : Reply) :
    ((s.fetchNotices p).reply p r).ports.get p = { s.ports.get p with notices := 0, shift := .idle, reply := r } := by
  simp [State.reply, State.fetchNotices, PortRec.answered]

theorem fetched_get_other (s : State) {p q : Port} (r : Reply) (h : q ≠ p) :
    ((s.fetchNotices p).reply p r).ports.get q = s.ports.get q := by
  simp only [State.reply, State.fetchNotices, ByPort.get_put_other _ _ h]

/-! ### The routing of a notice -/

/-- A notice raised alone and delivered joins the sets of the recipients that R174 names, and no other. -/
theorem raise_deliver_notified {s : State} (k : Notice) (h : s.raised = 0) :
    Notified s (s.raise k).deliver (fun p => if recipients k s.auth p then only k else 0) := by
  intro p
  have hraised : (s.raise k).raised = only k := by simp [State.raise, h, only]
  rw [State.deliver_get, hraised, State.raise_auth, noticesFor_only, State.raise_ports]
  rfl

/-- ATTN follows the notice set (R175). -/
theorem attn_iff (s : State) (p : Port) : s.attn p = true ↔ (s.ports.get p).notices ≠ 0 := by simp [State.attn]

/-- The holder is the port of the cab in HELD, and there is none in another state (R174). -/
theorem holder_eq_some_iff (a : Auth) (p : Port) : a.holder = some p ↔ ∃ x d, p = portOf x ∧ a = .held x d := by
  cases a with
  | held c d => simp [Auth.holder, eq_comm]
  | vacant => simp [Auth.holder]
  | claiming c t f => simp [Auth.holder]
  | lost c d => simp [Auth.holder]

/-! ### Frames that carry no command -/

/-- A bad frame is answered FRAME_REJECTED and does nothing else (R170). -/
theorem exec_frameRejected {s : State} {p : Port} (clocks : Nat) (b : Byte) (h : Taking p s) :
    exec (.frameRejected p clocks b) s = .next (s.reply p (rejectedReply clocks b)) :=
  congrArg Host.Outcome.next (State.taking_of h)

/-- For a wrong clock count the count is all that the reply tells. -/
theorem rejectedReply_of_ne {clocks : Nat} (b : Byte) (h : clocks ≠ 64) :
    rejectedReply clocks b =
      { status := .frameRejected, code := 0, data := (1#8 ++ BitVec.ofNat 8 (min 255 clocks)) ++ 0#24 } := by
  have hzeros (x : BitVec 16) : ((x ++ 0#8) ++ 0#16 : BitVec 40) = x ++ 0#24 := by rw [BitVec.append_assoc]; rfl
  simp only [rejectedReply, if_neg h, hzeros]

/-- For a check error byte 0 is told as received. -/
theorem rejectedReply_64 (b : Byte) :
    rejectedReply 64 b = { status := .frameRejected, code := 0, data := ((2#8 ++ 64#8) ++ b) ++ 0#16 } := rfl

/-- The release of a port that does not wait changes nothing. -/
theorem release_of_not_waiting {s : State} {p : Port} (h : (s.ports.get p).waiting = false) : s.release p = s := by
  have hrecord : { s.ports.get p with waiting := false } = s.ports.get p := by rw [← h]
  have hports : s.ports.put p (s.ports.get p) = s.ports := by cases p <;> rfl
  rw [State.release, hrecord, hports]

/-- The rising edge of SEL ends the wait, whether the port waited or not (R169). -/
theorem exec_waitingForReleaseEnd {s : State} (p : Port) (h : s.held = false) :
    exec (.waitingForReleaseEnd p) s = .next (s.release p) := by
  calc exec (.waitingForReleaseEnd p) s
      = .next (if s.held then s else if (s.ports.get p).waiting then s.release p else s) := rfl
    _ = .next (s.release p) := by
      by_cases hw : (s.ports.get p).waiting = true
      · simp [h, hw]
      · simp [h, hw, release_of_not_waiting (Bool.eq_false_iff.mpr hw)]

/-- Settles O9: the gate by R172's row for the code, GET NOTICES by the two records it leaves, the routing by R174's masks, the
frames without a command by their replies. -/
theorem framesGatedAndNoticed : Obligations.FramesGatedAndNoticed := by
  refine ⟨fun i p code q s hw he h => ?gate, fun p s h => ⟨exec_nop h, _, exec_getNotices h, ?own, ?attn, ?others, rfl⟩,
    ⟨fun s k p hquiet => ⟨raise_deliver_notified k hquiet, attn_iff _ p, ?frame⟩, holder_eq_some_iff⟩,
    fun p code s h _ => exec_unknownCommand code h, fun p clocks b s h => ⟨fun hne => ?count, ?check⟩,
    fun p s => exec_waitingForReleaseEnd p⟩
  case gate =>
    split
    next hrow => rw [eq_unknownCommand he (not_catalogued_of_no_row hrow), exec_unknownCommand code h]
    next e hrow => exact exec_notPermitted_of_row hw he h hrow
  case own => rw [fetched_get_self, noticeData_eq_shift]
  case attn => simp [State.attn, fetched_get_self]
  case others =>
    intro r hr
    simp only [State.attn, fetched_get_other s _ hr, and_self]
  case frame => exact congrArg (fun r => { s with raised := r }) hquiet.symm
  case count => rw [exec_frameRejected clocks b h, rejectedReply_of_ne b hne]
  case check => rw [exec_frameRejected 64 b h, rejectedReply_64]

end Sys2Proof.Proofs
end

/-! ## Proofs: what the shared operations leave -/

section
/-! SUPPORT. What the operations on SOUND leave of its channels (R99 to R106), in the terms of the statements. -/

namespace Sys2Proof.Proofs

open Sys2Proof Sys2Proof.Machine

/-! ### Channels and records that are kept -/

@[simp] theorem channelKept_refl (a : SoundRec) (c : Sounder) : channelKept a a c := ⟨rfl, rfl⟩

theorem channelKept_trans {a b d : SoundRec} {c : Sounder} (h : channelKept a b c) (h' : channelKept b d c) :
    channelKept a d c := ⟨h'.1.trans h.1, h'.2.trans h.2⟩

@[simp] theorem soundKept_refl (a : SoundRec) (l : List Sounder) : soundKept a a l := ⟨fun _ _ => ⟨rfl, rfl⟩, rfl⟩

theorem soundKept_mono {a b : SoundRec} {l l' : List Sounder} (h : soundKept a b l) (hl : l ⊆ l') : soundKept a b l' :=
  ⟨fun c hc => h.1 c fun hm => hc (hl hm), h.2⟩

/-- Two changes in a row, each of its own channels. -/
theorem soundKept_append {a b d : SoundRec} {l l' : List Sounder} (h : soundKept a b l) (h' : soundKept b d l') :
    soundKept a d (l ++ l') := by
  obtain ⟨hc, hr⟩ := h
  obtain ⟨hc', hr'⟩ := h'
  refine ⟨fun c hm => ?_, ?_⟩
  · obtain ⟨hl, hl'⟩ := not_or.mp fun e => hm (List.mem_append.mpr e)
    exact channelKept_trans (hc c hl) (hc' c hl')
  · rw [← hr', SoundRec.mk.injEq] at hr
    rw [SoundRec.mk.injEq]
    obtain ⟨h1, -, -, h4⟩ := hr
    exact ⟨h1, rfl, rfl, h4⟩

/-- Two changes in a row, of channels among those named. -/
theorem soundKept_trans {a b d : SoundRec} {l : List Sounder} (h : soundKept a b l) (h' : soundKept b d l) :
    soundKept a d l :=
  soundKept_mono (soundKept_append h h') (by simp)

theorem soundKept_patterns {a b : SoundRec} {l : List Sounder} (h : soundKept a b l) : b.patterns = a.patterns := by
  have := congrArg SoundRec.patterns h.2
  exact this

/-! ### A placing and a request that is asked for (R100) -/

/-- A level instance starts on its own channel, which is not CHIME. -/
theorem startLevel_soundKept (s : SoundRec) (now : Nat) (c : Sounder) : soundKept s (s.startLevel now c) [c] := by
  refine ⟨fun _ h => SoundRec.startLevel_other s now (List.ne_of_not_mem_cons h), ?_⟩
  cases c <;> simp [SoundRec.startLevel, levelRequester, SoundRec.putSlot]

theorem putReq_soundKept (s : SoundRec) (c : Sounder) (r : LevelReq) : soundKept s (s.putReq c r) [c] :=
  ⟨fun e h => ⟨rfl, by simp [SoundRec.req_putReq, List.ne_of_not_mem_cons h]⟩, rfl⟩

/-- The new contents of another channel's slot than CHIME's change that slot alone. -/
theorem putSlot_soundKept (s : SoundRec) (now : Nat) {c : Sounder} (i : Option Instance) (h : c ≠ .chime) :
    soundKept s (s.putSlot now c i) [c] :=
  ⟨fun e he => ⟨by simp [SoundRec.slot_putSlot, List.ne_of_not_mem_cons he], rfl⟩, by simp [SoundRec.putSlot, h]⟩

/-- Of SOUND a placing changes its own channel alone. -/
theorem place_soundKept (s : SoundRec) (now : Nat) (c : Sounder) : soundKept s (s.place now c) [c] := by
  have hreq : soundKept s (s.putReq c (.placed false)) [c] := putReq_soundKept s c _
  have hstart := soundKept_trans hreq (startLevel_soundKept (s.putReq c (.placed false)) now c)
  unfold SoundRec.place
  split
  · simp
  · dsimp only
    split
    · exact hstart
    · split
      next hown => exact soundKept_trans hreq (putSlot_soundKept _ now _ (ne_chime_of_ownLevel hown))
      next =>
        split
        · exact hreq
        · split
          · exact hstart
          · exact hreq

theorem want_soundKept (s : SoundRec) (now : Nat) (c : Sounder) (b : Bool) : soundKept s (s.want now c b) [c] := by
  cases b with
  | true => exact place_soundKept s now c
  | false => exact withdraw_soundKept s now c

theorem want_req (s : SoundRec) (now : Nat) (c : Sounder) (b : Bool) : (s.want now c b).req c ≠ .notPlaced ↔ b = true := by
  cases b with
  | true => simpa [SoundRec.want] using SoundRec.place_req s now c
  | false => simp [SoundRec.want, SoundRec.withdraw_req]

theorem want_channelAsked (s : SoundRec) (now : Nat) (c : Sounder) (b : Bool) : channelAsked s (s.want now c b) now c b :=
  ⟨want_req s now c b, rfl, rfl⟩

/-! ### What a channel's request becomes depends on that channel and the patterns alone -/

section
variable {a b : SoundRec} {c : Sounder} (hp : b.patterns = a.patterns) (hk : channelKept a b c)
include hp hk

theorem startLevel_local (now : Nat) : channelKept (a.startLevel now c) (b.startLevel now c) c := by
  refine ⟨?_, by simpa using hk.2⟩
  unfold SoundRec.startLevel
  split
  · exact hk.1
  · simp [SoundRec.slot_putSlot, SoundRec.newInstance, hp]

omit hp in
theorem putReq_local (r : LevelReq) : channelKept (a.putReq c r) (b.putReq c r) c :=
  ⟨hk.1, by simp [SoundRec.req_putReq]⟩

theorem place_local (now : Nat) : channelKept (a.place now c) (b.place now c) c := by
  have hreq : channelKept (a.putReq c (.placed false)) (b.putReq c (.placed false)) c := putReq_local hk _
  have hstart := startLevel_local (a := a.putReq c (.placed false)) (b := b.putReq c (.placed false)) hp hreq now
  have hprio (i : Instance) : b.priorityOf i = a.priorityOf i := by simp only [SoundRec.priorityOf, SoundRec.patternOf, hp]
  unfold SoundRec.place
  simp only [hk.2, hk.1, hprio, hp]
  split
  · exact hk
  · split
    · exact hstart
    next i _ =>
      by_cases hown : ownLevel c i = true
      · simp only [if_pos hown]
        exact ⟨by simp [SoundRec.slot_putSlot], by simpa using hreq.2⟩
      · simp only [if_neg hown]
        split
        · exact hreq
        next q _ =>
          by_cases hlow : a.priorityOf i < (cell a.patterns q).priority
          · simpa only [if_pos hlow] using hstart
          · simpa only [if_neg hlow] using hreq

theorem withdraw_local (now : Nat) : channelKept (a.withdraw now c) (b.withdraw now c) c := by
  have hreq : channelKept (a.putReq c .notPlaced) (b.putReq c .notPlaced) c := putReq_local hk _
  refine ⟨?_, by simp [SoundRec.withdraw_req]⟩
  have hmin (i : Instance) : b.minRunOf i = a.minRunOf i := by simp only [SoundRec.minRunOf, SoundRec.patternOf, hp]
  unfold SoundRec.withdraw
  simp only [hk.2, hk.1, hmin]
  have hempty (s : SoundRec) : (s.putReq c .notPlaced).endSlot now c = (s.putReq c .notPlaced).putSlot now c none :=
    SoundRec.endSlot_empty now (by simp [SoundRec.req_putReq])
  split
  · exact hk.1
  · split
    · exact hreq.1
    next i _ =>
      by_cases hown : ownLevel c i = true
      · simp only [if_pos hown]
        by_cases hrun : i.started + a.minRunOf i ≤ now
        · simp only [if_pos hrun, hempty, SoundRec.slot_putSlot, if_true]
        · simp only [if_neg hrun, SoundRec.slot, cell_putCell_self]
      · simpa only [if_neg hown] using hreq.1

theorem want_local (now : Nat) (on : Bool) : channelKept (a.want now c on) (b.want now c on) c := by
  cases on with
  | true => exact place_local hp hk now
  | false => exact withdraw_local hp hk now

/-- A request asked for after the channel was kept is asked for from the start. -/
theorem channelAsked_of_kept {d : SoundRec} {now : Nat} {on : Bool} (h : channelAsked b d now c on) :
    channelAsked a d now c on := by
  obtain ⟨hon, hslot, hreq⟩ := h
  obtain ⟨hs, hr⟩ := want_local hp hk now on
  exact ⟨hon, hslot.trans hs, hreq.trans hr⟩

end

/-- What was asked for stands while the channel is kept. -/
theorem channelAsked_then_kept {a b d : SoundRec} {now : Nat} {c : Sounder} {on : Bool} (h : channelAsked a b now c on)
    (hk : channelKept b d c) : channelAsked a d now c on := by
  obtain ⟨hon, hslot, hreq⟩ := h
  exact ⟨by rw [hk.2]; exact hon, hk.1.trans hslot, hk.2.trans hreq⟩

/-- A request asked for after changes of other channels is asked for from the start. -/
theorem channelAsked_of_soundKept {a b d : SoundRec} {l : List Sounder} {now : Nat} {c : Sounder} {on : Bool}
    (h : soundKept a b l) (hc : c ∉ l) (hasked : channelAsked b d now c on) : channelAsked a d now c on :=
  channelAsked_of_kept (soundKept_patterns h) (h.1 c hc) hasked

/-! ### Requests of several channels in turn -/

/-- The requests of channels in turn, each as a condition of its own asks. -/
def wantEach (now : Nat) (l : List Sounder) (on : Sounder → Bool) (s : SoundRec) : SoundRec :=
  l.foldl (fun s c => s.want now c (on c)) s

theorem wantEach_soundKept (now : Nat) (l : List Sounder) (on : Sounder → Bool) (s : SoundRec) :
    soundKept s (wantEach now l on s) l := by
  induction l generalizing s with
  | nil => exact soundKept_refl s _
  | cons c l ih => exact soundKept_append (want_soundKept s now c (on c)) (ih _)

theorem wantEach_channelAsked (now : Nat) {l : List Sounder} (on : Sounder → Bool) (s : SoundRec) (hl : l.Nodup) {c : Sounder}
    (hc : c ∈ l) : channelAsked s (wantEach now l on s) now c (on c) := by
  induction l generalizing s with
  | nil => simp at hc
  | cons e l ih =>
    obtain ⟨he, hl⟩ := List.nodup_cons.mp hl
    by_cases h : c = e
    · subst h
      exact channelAsked_then_kept (want_channelAsked s now c _) ((wantEach_soundKept now l on _).1 c he)
    · have hmem : c ∈ l := (List.mem_cons.mp hc).resolve_left h
      exact channelAsked_of_soundKept (want_soundKept s now e (on e)) (by simpa using h) (ih _ hl hmem)

/-- Whether VIGIL's request is to stand on a channel: the buzzer of the record's cab (R88, R105). -/
def buzzerOn (a : Auth) (placed : Bool) (c : Sounder) : Bool := placed && decide (a.cab.map buzzOf = some c)

theorem buzzerOn_buzzOf (a : Auth) (placed : Bool) (e : Cab) :
    buzzerOn a placed (buzzOf e) = (placed && decide (a.cab = some e)) := by
  have hiff : a.cab.map buzzOf = some (buzzOf e) ↔ a.cab = some e := by
    cases a.cab with
    | none => simp
    | some x => cases x <;> cases e <;> simp [buzzOf]
  simp [buzzerOn, hiff]

theorem refreshBuzzer_eq_wantEach (s : SoundRec) (now : Nat) (a : Auth) (placed : Bool) :
    s.refreshBuzzer now a placed = wantEach now [.buzzA, .buzzB] (buzzerOn a placed) s := by
  have hA := buzzerOn_buzzOf a placed .A
  have hB := buzzerOn_buzzOf a placed .B
  simp only [buzzOf] at hA hB
  simp only [SoundRec.refreshBuzzer, wantEach, List.foldl_cons, List.foldl_nil, hA, hB]

theorem refreshBuzzer_soundKept (s : SoundRec) (now : Nat) (a : Auth) (placed : Bool) :
    soundKept s (s.refreshBuzzer now a placed) [.buzzA, .buzzB] := by
  rw [refreshBuzzer_eq_wantEach]
  exact wantEach_soundKept now _ _ s

theorem refreshBuzzer_channelAsked (s : SoundRec) (now : Nat) (a : Auth) (placed : Bool) (e : Cab) :
    channelAsked s (s.refreshBuzzer now a placed) now (buzzOf e) (placed && decide (a.cab = some e)) := by
  rw [refreshBuzzer_eq_wantEach, ← buzzerOn_buzzOf]
  exact wantEach_channelAsked now _ s (by decide) (by cases e <;> simp [buzzOf])

/-- Whether the holder's buttons ask for a horn or bell channel (R103). -/
def hornBellOn (a : Auth) (sh : ShaperRec) : Sounder → Bool
  | .hornA => wantsAt a sh DemandBody.horn .A
  | .hornB => wantsAt a sh DemandBody.horn .B
  | .bellA => wantsAt a sh DemandBody.bell .A
  | .bellB => wantsAt a sh DemandBody.bell .B
  | _ => false

theorem refreshHornBell_eq_wantEach (s : SoundRec) (now : Nat) (a : Auth) (sh : ShaperRec) :
    s.refreshHornBell now a sh = wantEach now hornBellChannels (hornBellOn a sh) s := rfl

theorem refreshHornBell_soundKept (s : SoundRec) (now : Nat) (a : Auth) (sh : ShaperRec) :
    soundKept s (s.refreshHornBell now a sh) hornBellChannels :=
  wantEach_soundKept now hornBellChannels (hornBellOn a sh) s

theorem refreshHornBell_channelAsked (s : SoundRec) (now : Nat) (a : Auth) (sh : ShaperRec) {c : Sounder}
    (hc : c ∈ hornBellChannels) : channelAsked s (s.refreshHornBell now a sh) now c (hornBellOn a sh c) :=
  wantEach_channelAsked now (hornBellOn a sh) s (by decide) hc

theorem hornOf_mem (e : Cab) : hornOf e ∈ hornBellChannels := by cases e <;> decide

theorem bellOf_mem (e : Cab) : bellOf e ∈ hornBellChannels := by cases e <;> decide

theorem hornBellOn_hornOf (a : Auth) (sh : ShaperRec) (e : Cab) :
    hornBellOn a sh (hornOf e) = wantsAt a sh DemandBody.horn e := by cases e <;> rfl

theorem hornBellOn_bellOf (a : Auth) (sh : ShaperRec) (e : Cab) :
    hornBellOn a sh (bellOf e) = wantsAt a sh DemandBody.bell e := by cases e <;> rfl

/-! ### Horn and bell silenced (R103) -/

/-- A silenced channel holds an instance of P0, P1 or P2, which ends, or nothing but its request goes. -/
theorem silenceOne_eq (s : SoundRec) (now : Nat) (c : Sounder) :
    s.silenceOne now c =
      if (s.slot c).any fun i => decide (i.pattern.val < 3) then (s.putReq c .notPlaced).putSlot now c none
      else s.putReq c .notPlaced := by
  have hempty : (s.putReq c .notPlaced).endSlot now c = (s.putReq c .notPlaced).putSlot now c none :=
    SoundRec.endSlot_empty now (by simp [SoundRec.req_putReq])
  unfold SoundRec.silenceOne SoundRec.endIf
  simp only [SoundRec.slot_putReq, hempty]
  cases s.slot c <;> rfl

theorem silenceOne_soundKept (s : SoundRec) (now : Nat) {c : Sounder} (h : c ≠ .chime) :
    soundKept s (s.silenceOne now c) [c] := by
  have hreq := putReq_soundKept s c .notPlaced
  rw [silenceOne_eq]
  split
  · exact soundKept_trans hreq (putSlot_soundKept _ now _ h)
  · exact hreq

/-- A silenced channel's request is withdrawn, and its instance of P0, P1 or P2 is gone. -/
theorem silenceOne_self (s : SoundRec) (now : Nat) (c : Sounder) :
    (s.silenceOne now c).req c = .notPlaced ∧
      (s.silenceOne now c).slot c = (s.slot c).filter fun i => decide (3 ≤ i.pattern.val) := by
  rw [silenceOne_eq]
  cases hs : s.slot c with
  | none => exact ⟨by simp [SoundRec.req_putReq], by simp [hs]⟩
  | some i =>
    by_cases hi : i.pattern.val < 3
    · simp [hi, SoundRec.req_putReq, SoundRec.slot_putSlot, Option.filter]
    · simp [hi, SoundRec.req_putReq, hs, Option.filter, not_lt.mp hi]

theorem foldl_silenceOne_soundKept (now : Nat) (l : List Sounder) (s : SoundRec) (hl : .chime ∉ l) :
    soundKept s (l.foldl (fun s c => s.silenceOne now c) s) l := by
  induction l generalizing s with
  | nil => exact soundKept_refl s _
  | cons c l ih =>
    obtain ⟨hc, hl⟩ := not_or.mp fun e => hl (List.mem_cons.mpr e)
    exact soundKept_append (silenceOne_soundKept s now (Ne.symm hc)) (ih _ hl)

theorem foldl_silenceOne_self (now : Nat) {l : List Sounder} (s : SoundRec) (hl : l.Nodup) (hch : .chime ∉ l) {c : Sounder}
    (hc : c ∈ l) :
    (l.foldl (fun s c => s.silenceOne now c) s).req c = .notPlaced ∧
      (l.foldl (fun s c => s.silenceOne now c) s).slot c = (s.slot c).filter fun i => decide (3 ≤ i.pattern.val) := by
  induction l generalizing s with
  | nil => simp at hc
  | cons e l ih =>
    obtain ⟨he, hl⟩ := List.nodup_cons.mp hl
    obtain ⟨hne, hch'⟩ := not_or.mp fun e => hch (List.mem_cons.mpr e)
    by_cases h : c = e
    · subst h
      obtain ⟨hslot, hreq⟩ := (foldl_silenceOne_soundKept now l (s.silenceOne now c) hch').1 c he
      obtain ⟨hr, hs⟩ := silenceOne_self s now c
      exact ⟨hreq.trans hr, hslot.trans hs⟩
    · have hmem : c ∈ l := (List.mem_cons.mp hc).resolve_left h
      obtain ⟨hslot, hreq⟩ := (silenceOne_soundKept s now (Ne.symm hne)).1 c (by simpa using h)
      obtain ⟨hr, hs⟩ := ih (s.silenceOne now e) hl hch' hmem
      exact ⟨hr, by rw [← hslot]; exact hs⟩

theorem silenceHornBell_soundKept (s : SoundRec) (now : Nat) : soundKept s (s.silenceHornBell now) hornBellChannels :=
  foldl_silenceOne_soundKept now _ s (by decide)

theorem silenceHornBell_self (s : SoundRec) (now : Nat) {c : Sounder} (hc : c ∈ hornBellChannels) :
    (s.silenceHornBell now).req c = .notPlaced ∧
      (s.silenceHornBell now).slot c = (s.slot c).filter fun i => decide (3 ≤ i.pattern.val) :=
  foldl_silenceOne_self now s (by decide) (by decide) hc

end Sys2Proof.Proofs
end

section
/-! SUPPORT. What a delivery tells each port (R174), when the notices raised are those of several conditions. -/

namespace Sys2Proof.Proofs

open Sys2Proof Sys2Proof.Machine

/-- A notice raised when a condition holds, as a set. -/
def kindIf (b : Bool) (k : Notice) : BitVec 20 := if b then only k else 0

@[simp] theorem kindIf_true (k : Notice) : kindIf true k = only k := rfl
@[simp] theorem kindIf_false (k : Notice) : kindIf false k = 0#20 := rfl

theorem addFlag_eq_or_only (x : BitVec 20) (k : Notice) : addFlag x k.idx = x ||| only k := by
  simp [addFlag, only]

theorem ite_addFlag_eq_or (x : BitVec 20) (b : Bool) (k : Notice) :
    (if b then addFlag x k.idx else x) = x ||| kindIf b k := by
  cases b <;> simp [addFlag_eq_or_only]

theorem ite_addFlag_eq_or' (x : BitVec 20) (c : Prop) [Decidable c] (k : Notice) :
    (if c then addFlag x k.idx else x) = x ||| kindIf (decide c) k := by
  by_cases h : c <;> simp [h, addFlag_eq_or_only]

/-- What is routed of two sets is what is routed of each. -/
theorem noticesFor_or (a : Auth) (x y : BitVec 20) (p : Port) :
    noticesFor a (x ||| y) p = noticesFor a x p ||| noticesFor a y p := by
  simp only [noticesFor]
  ext i hi
  split <;> split <;> simp only [BitVec.getElem_or, BitVec.getElem_and] <;> grind

theorem or_right_comm {n : Nat} (x y z : BitVec n) : x ||| y ||| z = x ||| z ||| y := by
  rw [BitVec.or_assoc, BitVec.or_comm y, ← BitVec.or_assoc]

theorem noticesFor_kindIf (a : Auth) (b : Bool) (k : Notice) (p : Port) : noticesFor a (kindIf b k) p = toldIf b k a p := by
  cases b with
  | true => simp [noticesFor_only, toldIf]
  | false => simp [toldIf]

@[simp] theorem toldIf_false (k : Notice) (a : Auth) (p : Port) : toldIf false k a p = 0#20 := rfl

/-- AUTH_CHANGED, VIGIL_PENALTY, EMERGENCY_CHANGED and BATTERY_LOW go to every port (R174). -/
theorem toldIf_authChanged (b : Bool) (a : Auth) (p : Port) : toldIf b .authChanged a p = kindIf b .authChanged := by
  cases b <;> rfl

theorem toldIf_vigilPenalty (b : Bool) (a : Auth) (p : Port) : toldIf b .vigilPenalty a p = kindIf b .vigilPenalty := by
  cases b <;> rfl

theorem toldIf_emergencyChanged (b : Bool) (a : Auth) (p : Port) :
    toldIf b .emergencyChanged a p = kindIf b .emergencyChanged := by
  cases b <;> rfl

theorem toldIf_batteryLow (b : Bool) (a : Auth) (p : Port) : toldIf b .batteryLow a p = kindIf b .batteryLow := by
  cases b <;> rfl

/-- With nothing raised, a record that has had its notices routed is the record. -/
theorem with_raised_none {s : State} (h : s.raised = 0) : { s with raised := 0#20 } = s := by
  rw [show 0#20 = s.raised from h.symm]

/-- A delivery tells each port what is routed to it. -/
theorem deliver_notified {s u : State} (h : u.ports = s.ports) : Notified s u.deliver (noticesFor u.auth u.raised) := by
  intro p
  rw [State.deliver_get, h]
  rfl

/-- A kind told under the record that the step leaves is waiting on the port. -/
theorem told_of_notified {s t : State} {kinds : Port → BitVec 20} {p : Port} {k : Notice} (h : Notified s t kinds)
    (hk : hasFlag (kinds p) k.idx = true) : Told t p k := by
  have hp := h p
  simp only [Told, hp, hasFlag, BitVec.getLsbD_or] at hk ⊢
  simp [hk]

@[simp] theorem hasFlag_or {n : Nat} (x y : BitVec n) (i : Nat) : hasFlag (x ||| y) i = (hasFlag x i || hasFlag y i) := by
  simp [hasFlag]

@[simp] theorem hasFlag_only (k : Notice) : hasFlag (only k) k.idx = true := by
  simp [only, hasFlag_addFlag _ k.idx_lt]

end Sys2Proof.Proofs
end

section
/-! SUPPORT. The emergency sources, as an addition or a removal among other changes leaves them (R57 to R60, R66). -/

namespace Sys2Proof.Proofs

open Sys2Proof Sys2Proof.Machine

/-! ### An addition -/

theorem calm_iff (sh : ShaperRec) : sh.calm = true ↔ sh.sources = 0 := by simp [ShaperRec.calm]

theorem calm_eq_decide (sh : ShaperRec) : sh.calm = decide (sh.sources = 0) := rfl

theorem driveBit_loop (s : State) : s.driveBit 11 = s.shaper.calm := rfl

/-- An addition followed by changes of other channels of SOUND is what the statements say of it. -/
theorem sourceAdded_of {s t : State} {k : EmSource} {but : List Sounder} (hshaper : t.shaper = s.shaper.addSource k)
    (hnow : t.now = s.now) (hsound : soundKept (s.addSource k).sound t.sound but) (hbut : .hazard ∉ but) :
    sourceAdded s t k but := by
  have hloop : t.driveBit 11 = false := by
    rw [driveBit_loop, hshaper]
    exact Bool.eq_false_iff.mpr fun h => addFlag_ne_zero _ k.idx_lt ((calm_iff _).mp h)
  have hhazard := hsound.1 .hazard hbut
  by_cases hfirst : s.shaper.sources = 0
  · have hplace : (s.addSource k).sound = s.sound.place s.now .hazard := by rw [State.addSource_calm k hfirst]
    rw [hplace] at hsound hhazard
    refine ⟨?_, ?_, soundKept_append (place_soundKept s.sound s.now .hazard) hsound, hloop⟩
    · simp [hshaper, ShaperRec.addSource, calm_eq_decide]
    · rw [if_pos hfirst, hnow]
      exact channelAsked_then_kept (want_channelAsked s.sound s.now .hazard true) hhazard
  · have hkept : (s.addSource k).sound = s.sound := by rw [State.addSource_active k hfirst]
    rw [hkept] at hsound hhazard
    refine ⟨?_, ?_, soundKept_mono hsound (by simp), hloop⟩
    · simp [hshaper, ShaperRec.addSource, calm_eq_decide]
    · rw [if_neg hfirst]
      exact hhazard

theorem sourceAdded_addSource (s : State) (k : EmSource) : sourceAdded s (s.addSource k) k :=
  sourceAdded_of rfl rfl (soundKept_refl _ _) (by simp)

theorem addSource_raised (s : State) (k : EmSource) :
    (s.addSource k).raised = s.raised ||| kindIf (decide (s.shaper.sources = 0)) .emergencyChanged := by
  exact ite_addFlag_eq_or s.raised s.shaper.calm .emergencyChanged

/-! ### A removal -/

/-- A removal of a source that is present, followed by changes of other channels of SOUND, is what the statements say of it. -/
theorem sourceRemoved_of {s t : State} {k : EmSource} {but : List Sounder} (h : s.shaper.has k = true)
    (hshaper : t.shaper = (s.removeSource k).shaper) (hnow : t.now = s.now)
    (hsound : soundKept (s.removeSource k).sound t.sound but) (hbut : .hazard ∉ but) : sourceRemoved s t k but := by
  obtain ⟨hsh, hhazard, hkept⟩ := sourceRemoved_removeSource h
  have hloop : t.driveBit 11 = (s.removeSource k).driveBit 11 := by rw [driveBit_loop, driveBit_loop, hshaper]
  have hch := hsound.1 .hazard hbut
  refine ⟨hshaper.trans hsh, ?_, soundKept_append hkept hsound⟩
  split at hhazard
  next hempties =>
    obtain ⟨hasked, hdrive⟩ := hhazard
    rw [if_pos hempties, hnow]
    exact ⟨channelAsked_then_kept hasked hch, hloop.trans hdrive⟩
  next hempties =>
    rw [if_neg hempties]
    exact channelKept_trans hhazard hch

/-! ### Several removals together

A set of sources removed at once: what one removal after another leaves. -/

/-- The sources of a set go, and none is left where there were some. -/
def emptiedBy (sh : ShaperRec) (m : BitVec 8) : Bool := decide (sh.sources ≠ 0) && decide (sh.sources &&& ~~~m = 0)

/-- SHAPER once the sources of a set are removed (R48, R59, R66), with the link UP or not. -/
def shedShaper (up : Bool) (m : BitVec 8) (sh : ShaperRec) : ShaperRec :=
  { sh with
    sources := if emptiedBy sh m && !up then addFlag 0 EmSource.loopDropped.idx else sh.sources &&& ~~~m
    zeroPass := if emptiedBy sh m && up then false else sh.zeroPass
    oPrev := if emptiedBy sh m && up then -1000 else sh.oPrev }

/-- The state once the sources of a set are removed. -/
def shed (m : BitVec 8) (s : State) : State :=
  { s with
    shaper := shedShaper s.outbank.linkUp m s.shaper
    sound := if emptiedBy s.shaper m && s.outbank.linkUp then s.sound.withdraw s.now .hazard else s.sound
    raised := if emptiedBy s.shaper m && s.outbank.linkUp then addFlag s.raised Notice.emergencyChanged.idx else s.raised }

/-- The set of one source, when a condition holds. -/
def sourceIf (b : Bool) (k : EmSource) : BitVec 8 := if b then addFlag 0 k.idx else 0

theorem dropFlag_eq_and_not (x : BitVec 8) (k : EmSource) : dropFlag x k.idx = x &&& ~~~(addFlag 0 k.idx) := by
  simp [dropFlag, addFlag]

theorem hasFlag_of_dropFlag_ne {n : Nat} {x : BitVec n} {i : Nat} (h : hasFlag x i = false) : dropFlag x i = x := by
  apply BitVec.eq_of_getLsbD_eq
  intro j _
  have hj := hasFlag_dropFlag x i j
  unfold hasFlag at hj h
  rw [hj]
  by_cases hi : i = j
  · simp [← hi, h]
  · simp [hi]

theorem empties_eq_emptiedBy (sh : ShaperRec) (k : EmSource) : sh.empties k = emptiedBy sh (addFlag 0 k.idx) := by
  have hdrop := dropFlag_eq_and_not sh.sources k
  cases hk : sh.has k with
  | true =>
    have hne : sh.sources ≠ 0 := by
      intro e
      simp [ShaperRec.has, e] at hk
    simp only [ShaperRec.empties, emptiedBy, hk, hdrop, Bool.true_and, decide_eq_true hne]
    rfl
  | false =>
    have hsame : sh.sources &&& ~~~(addFlag 0 k.idx) = sh.sources := hdrop ▸ hasFlag_of_dropFlag_ne hk
    simp only [ShaperRec.empties, emptiedBy, hk, hsame, Bool.false_and]
    by_cases h0 : sh.sources = 0 <;> simp [h0]

theorem removeSource_eq_shed (s : State) (k : EmSource) : s.removeSource k = shed (addFlag 0 k.idx) s := by
  simp only [State.removeSource, State.calms, shed, shedShaper, empties_eq_emptiedBy, dropFlag_eq_and_not]

theorem and_not_none (x : BitVec 8) : x &&& ~~~0#8 = x := BitVec.and_allOnes

@[simp] theorem emptiedBy_none (sh : ShaperRec) : emptiedBy sh 0#8 = false := by
  simp only [emptiedBy, and_not_none]
  by_cases h : sh.sources = 0 <;> simp [h]

@[simp] theorem shedShaper_none (up : Bool) (sh : ShaperRec) : shedShaper up 0#8 sh = sh := by
  simp only [shedShaper, emptiedBy_none, Bool.false_and, and_not_none]
  rfl

@[simp] theorem shed_none (s : State) : shed 0#8 s = s := by
  simp [shed]

theorem removeSourceIf_eq_shed (s : State) (b : Bool) (k : EmSource) : s.removeSourceIf b k = shed (sourceIf b k) s := by
  cases b with
  | true => exact removeSource_eq_shed s k
  | false => exact (shed_none s).symm

theorem and_not_or (x m m' : BitVec 8) : x &&& ~~~(m ||| m') = x &&& ~~~m &&& ~~~m' := by
  rw [BitVec.not_or, BitVec.and_assoc]

theorem loopDropped_and_not {m : BitVec 8} (h : hasFlag m EmSource.loopDropped.idx = false) :
    addFlag 0#8 EmSource.loopDropped.idx &&& ~~~m = addFlag 0#8 EmSource.loopDropped.idx := by
  have hbit : (~~~m).getLsbD 7 = true := by simpa [hasFlag, EmSource.idx] using h
  have hflag : addFlag 0#8 EmSource.loopDropped.idx = BitVec.twoPow 8 7 := BitVec.zero_or
  rw [hflag, BitVec.twoPow_and, hbit, if_pos rfl]

theorem loopDropped_ne_zero : addFlag 0#8 EmSource.loopDropped.idx ≠ 0#8 := by decide

/-- One set removed after another: together they empty the set exactly when the first or the second does. -/
theorem emptiedBy_or (up : Bool) {m m' : BitVec 8} (sh : ShaperRec) (h : up = true ∨ hasFlag m' EmSource.loopDropped.idx = false) :
    (emptiedBy sh (m ||| m') && up) = (emptiedBy sh m && up || emptiedBy (shedShaper up m sh) m' && up) := by
  cases up with
  | false => simp
  | true =>
    by_cases h0 : sh.sources = 0#8
    · simp [emptiedBy, shedShaper, h0]
    · by_cases h1 : sh.sources &&& ~~~m = 0#8
      · simp [emptiedBy, shedShaper, h0, h1, and_not_or]
      · simp [emptiedBy, shedShaper, h0, h1, and_not_or]

/-- One set removed after another leaves SHAPER as both removed at once; what waits on the link being LINK_LOST must not be
among the second. -/
theorem shedShaper_shedShaper (up : Bool) {m m' : BitVec 8} (sh : ShaperRec)
    (h : up = true ∨ hasFlag m' EmSource.loopDropped.idx = false) :
    shedShaper up m' (shedShaper up m sh) = shedShaper up (m ||| m') sh := by
  by_cases h0 : sh.sources = 0#8
  · cases up <;> simp [emptiedBy, shedShaper, h0]
  · by_cases h1 : sh.sources &&& ~~~m = 0#8
    · cases up with
      | true => simp [emptiedBy, shedShaper, h0, h1, and_not_or]
      | false =>
        have hm' : hasFlag m' EmSource.loopDropped.idx = false := h.resolve_left (by simp)
        have hkept := loopDropped_and_not hm'
        have hne := loopDropped_ne_zero
        simp [emptiedBy, shedShaper, h0, h1, and_not_or, hkept, hne]
    · cases up <;> simp [emptiedBy, shedShaper, h0, h1, and_not_or]

/-- The two sets are removed as one. -/
theorem shed_shed {m m' : BitVec 8} (s : State) (h : s.outbank.linkUp = true ∨ hasFlag m' EmSource.loopDropped.idx = false) :
    shed m' (shed m s) = shed (m ||| m') s := by
  have hshaper := shedShaper_shedShaper (m := m) (m' := m') s.outbank.linkUp s.shaper h
  have hempties := emptiedBy_or (m := m) (m' := m') s.outbank.linkUp s.shaper h
  have hexcl : (emptiedBy s.shaper m && s.outbank.linkUp) = true →
      emptiedBy (shedShaper s.outbank.linkUp m s.shaper) m' = false := by
    intro e
    obtain ⟨h1, h2⟩ : emptiedBy s.shaper m = true ∧ s.outbank.linkUp = true := by simpa using e
    have hrest : s.shaper.sources &&& ~~~m = 0 := by
      have : s.shaper.sources ≠ 0 ∧ s.shaper.sources &&& ~~~m = 0 := by simpa [emptiedBy] using h1
      exact this.2
    simp [emptiedBy, shedShaper, h2, hrest]
  simp only [shed, hshaper, hempties]
  cases e1 : (emptiedBy s.shaper m && s.outbank.linkUp) with
  | true => simp [hexcl e1]
  | false => simp

/-- What a removal of several sources leaves of the set: none, exactly when it empties it for good or there was none. -/
theorem shedShaper_sources_eq_zero (up : Bool) (m : BitVec 8) (sh : ShaperRec) :
    (shedShaper up m sh).sources = 0 ↔ sh.sources = 0 ∨ (emptiedBy sh m && up) = true := by
  have hne := loopDropped_ne_zero
  by_cases h0 : sh.sources = 0#8
  · simp [shedShaper, emptiedBy, h0]
  · by_cases h1 : sh.sources &&& ~~~m = 0#8
    · cases up <;> simp [shedShaper, emptiedBy, h0, h1, hne]
    · cases up <;> simp [shedShaper, emptiedBy, h0, h1]

/-- The set that goes from some to none is the one emptied for good. -/
theorem emptied_iff (up : Bool) (m : BitVec 8) (sh : ShaperRec) :
    (sh.sources ≠ 0 ∧ (shedShaper up m sh).sources = 0) ↔ (emptiedBy sh m && up) = true := by
  rw [shedShaper_sources_eq_zero]
  by_cases h0 : sh.sources = 0#8
  · simp [h0, emptiedBy]
  · simp [h0]

/-- What the set's going from some to none brings, in those terms (R48, R59). -/
theorem shedShaper_eq (up : Bool) (m : BitVec 8) (sh : ShaperRec) :
    shedShaper up m sh = { sh with
      sources := (shedShaper up m sh).sources
      zeroPass := if sh.sources ≠ 0 ∧ (shedShaper up m sh).sources = 0 then false else sh.zeroPass
      oPrev := if sh.sources ≠ 0 ∧ (shedShaper up m sh).sources = 0 then -1000 else sh.oPrev } := by
  rw [if_congr (emptied_iff up m sh) rfl rfl, if_congr (emptied_iff up m sh) rfl rfl]
  rfl

theorem shed_raised (m : BitVec 8) (s : State) :
    (shed m s).raised = s.raised ||| kindIf (emptiedBy s.shaper m && s.outbank.linkUp) .emergencyChanged := by
  simp only [shed, ite_addFlag_eq_or]

/-! What a removal leaves: all but SHAPER, SOUND and what waits to be routed. -/

@[simp] theorem shed_pending (m : BitVec 8) (s : State) : (shed m s).pending = s.pending := rfl
@[simp] theorem shed_now (m : BitVec 8) (s : State) : (shed m s).now = s.now := rfl
@[simp] theorem shed_epoch (m : BitVec 8) (s : State) : (shed m s).epoch = s.epoch := rfl
@[simp] theorem shed_held (m : BitVec 8) (s : State) : (shed m s).held = s.held := rfl
@[simp] theorem shed_lines (m : BitVec 8) (s : State) : (shed m s).lines = s.lines := rfl
@[simp] theorem shed_ports (m : BitVec 8) (s : State) : (shed m s).ports = s.ports := rfl
@[simp] theorem shed_auth (m : BitVec 8) (s : State) : (shed m s).auth = s.auth := rfl
@[simp] theorem shed_wheel (m : BitVec 8) (s : State) : (shed m s).wheel = s.wheel := rfl
@[simp] theorem shed_tlink (m : BitVec 8) (s : State) : (shed m s).tlink = s.tlink := rfl
@[simp] theorem shed_vigil (m : BitVec 8) (s : State) : (shed m s).vigil = s.vigil := rfl
@[simp] theorem shed_outbank (m : BitVec 8) (s : State) : (shed m s).outbank = s.outbank := rfl
@[simp] theorem shed_die (m : BitVec 8) (s : State) : (shed m s).die = s.die := rfl
@[simp] theorem shed_stop (m : BitVec 8) (s : State) : (shed m s).stop = s.stop := rfl
@[simp] theorem shed_junct (m : BitVec 8) (s : State) : (shed m s).junct = s.junct := rfl
@[simp] theorem shed_supply (m : BitVec 8) (s : State) : (shed m s).supply = s.supply := rfl
@[simp] theorem shed_settings (m : BitVec 8) (s : State) : (shed m s).settings = s.settings := rfl

theorem shed_soundKept (m : BitVec 8) (s : State) : soundKept s.sound (shed m s).sound [.hazard] := by
  unfold shed
  dsimp only
  split
  · exact withdraw_soundKept _ _ _
  · exact soundKept_refl _ _

/-- The hazard request is withdrawn exactly when the set empties for good. -/
theorem shed_hazard (m : BitVec 8) (s : State) :
    if (emptiedBy s.shaper m && s.outbank.linkUp) = true then channelAsked s.sound (shed m s).sound s.now .hazard false
    else channelKept s.sound (shed m s).sound .hazard := by
  unfold shed
  dsimp only
  split
  · exact withdraw_channelAsked _ _ _
  · exact channelKept_refl _ _

end Sys2Proof.Proofs
end

section
/-! SUPPORT. What the shared operations of JUNCT, VIGIL, STOPREQ and SOUND leave and raise, each as one record. -/

namespace Sys2Proof.Proofs

open Sys2Proof Sys2Proof.Machine

theorem raise_raised (s : State) (k : Notice) : (s.raise k).raised = s.raised ||| only k := addFlag_eq_or_only _ _

theorem raiseIf_raised (s : State) (b : Bool) (k : Notice) : (s.raiseIf b k).raised = s.raised ||| kindIf b k :=
  ite_addFlag_eq_or _ _ _

/-- Every transaction cancelled (R166). -/
theorem cancelAll_eq (s : State) :
    s.cancelAll = { s with
      junct := junctCancelled s, raised := s.raised ||| kindIf (!s.junct.list.isEmpty) .junctionChanged } := by
  have htelegrams : s.junct.list.map (cancelTelegram s) =
      s.junct.list.map fun x => .cancel x.id s.settings.tram s.settings.run x.seq := rfl
  cases h : s.junct.list.isEmpty with
  | true =>
    have hnil : s.junct.list = [] := List.isEmpty_iff.mp h
    have hsame : junctCancelled s = s.junct := by
      simp only [junctCancelled, hnil, List.map_nil, List.append_nil, ite_self, List.isEmpty_nil, Bool.and_true]
      rw [← hnil]
    simp [State.cancelAll, h, hsame]
  | false => simp [State.cancelAll, junctCancelled, JunctRec.send, h, addFlag_eq_or_only, htelegrams]

theorem cancelAll_junct (s : State) : s.cancelAll.junct = junctCancelled s := by rw [cancelAll_eq]

theorem cancelAll_raised (s : State) :
    s.cancelAll.raised = s.raised ||| kindIf (!s.junct.list.isEmpty) .junctionChanged := by rw [cancelAll_eq]

theorem cancelStop_raised (s : State) :
    s.cancelStop.raised = s.raised ||| kindIf s.stop.record.first.isSome .stopChanged := ite_addFlag_eq_or _ _ _

theorem refreshBuzzer_raised (s : State) :
    s.refreshBuzzer.raised = s.raised ||| kindIf (s.vigil.wantsBuzzer && !s.vigil.buzzer) .vigilWarn :=
  ite_addFlag_eq_or _ _ _

theorem sectionEnd_raised (s : State) :
    s.sectionEnd.raised = s.raised ||| kindIf s.stop.record.first.isSome .stopChanged := ite_addFlag_eq_or _ _ _

/-- A section end leaves STOPREQ as the statements say (R137, R141). -/
theorem sectionEnd_stop (s : State) : s.sectionEnd.stop = sectionEnded s s.now := rfl

theorem hornBell_not_hazard : .hazard ∉ hornBellChannels := by decide

theorem buzzOf_not_hornBell (e : Cab) : buzzOf e ∉ hornBellChannels := by cases e <;> decide

/-- A second withdrawing of a request finds nothing to do. -/
theorem channelKept_want_false {a b : SoundRec} {now now' : Nat} {c : Sounder} (h : channelAsked a b now c false) :
    channelKept b (b.want now' c false) c := by
  have hreq : b.req c = .notPlaced := by simpa using h.1
  simp [SoundRec.want, SoundRec.withdraw, hreq]

end Sys2Proof.Proofs
end

section
/-! SUPPORT. The entry to HELD and the synchronisation check (R7, R10). -/

namespace Sys2Proof.Proofs

open Sys2Proof Sys2Proof.Machine

/-! ### The entry -/

/-- The conditions of the check, as the statements list them (R7, R79). -/
theorem synchronises_iff (u : State) (x : Cab) (c : Claimant) :
    u.synchronises x c = true ↔
      u.wheel.stationary = true ∧ u.tlink.brk.answering = true ∧ (u.tlink.brk.last.map BrkReply.brakeApplied) = some true ∧
        emstopLevel u.lines x = false ∧ (-100 ≤ c.lever ∧ c.lever ≤ 0) ∧ c.direction = .neutral := by
  cases h : u.tlink.brk.last with
  | none => simp [State.synchronises, TlinkRec.brakeConfirmed, h]
  | some b => simp [State.synchronises, TlinkRec.brakeConfirmed, Claimant.ready, h, and_assoc]

/-- The sources that an entry to HELD removes (R10, R67). -/
def heldMask (u : State) : BitVec 8 :=
  addFlag 0 EmSource.startup.idx ||| sourceIf (u.wheel.stationary && u.outbank.linkUp) .loopDropped

/-- The state with AUTH, SHAPER and VIGIL as the entry begins, their notices raised. -/
def heldBegun (u : State) (x : Cab) (c : Claimant) : State :=
  State.refreshBuzzer <|
    State.raiseIf (decide (stageOfAge (u.now - c.frameTime) = .staleBrake)) .demandStale <|
      State.raise .authChanged
        { u with auth := .held x .neutral, shaper := u.shaper.seed u.now c, vigil := u.vigil.enterHeld c.lever c.handle }

theorem enterHeld_eq (u : State) (x : Cab) (c : Claimant) :
    u.enterHeld x c = (shed (heldMask u) (heldBegun u x c)).cancelStop.cancelAll.refreshHornBell := by
  have hloop : u.outbank.linkUp = true ∨
      hasFlag (sourceIf (u.wheel.stationary && u.outbank.linkUp) .loopDropped) EmSource.loopDropped.idx = false := by
    cases u.outbank.linkUp with
    | true => exact .inl rfl
    | false => exact .inr (by simp [sourceIf])
  have hsheds : (State.removeSource .startup (heldBegun u x c)).testLoopDropped = shed (heldMask u) (heldBegun u x c) := by
    unfold State.testLoopDropped
    rw [removeSourceIf_eq_shed, removeSource_eq_shed]
    exact shed_shed (heldBegun u x c) hloop
  rw [← hsheds]
  rfl

/-- The stages of a demand's age (R38). -/
theorem stageOfAge_eq (age : Nat) :
    stageOfAge age = if 1000 < age then .staleBrake else if 300 < age then .coasting else .fresh := rfl

section
variable (u : State) (x : Cab) (c : Claimant)

theorem dropFlag_startup_eq : dropFlag u.shaper.sources EmSource.startup.idx =
    u.shaper.sources &&& ~~~(addFlag 0 EmSource.startup.idx) := dropFlag_eq_and_not _ _

theorem emptiedBy_startup :
    emptiedBy u.shaper (addFlag 0 EmSource.startup.idx) = true ↔
      u.shaper.has .startup = true ∧ dropFlag u.shaper.sources EmSource.startup.idx = 0 := by
  rw [← empties_eq_emptiedBy]
  simp [ShaperRec.empties]

/-- What the entry leaves of the set, at standstill. -/
theorem heldSources_eq (h : u.wheel.stationary = true) :
    (shedShaper u.outbank.linkUp (heldMask u) u.shaper).sources = heldSources u := by
  cases hup : u.outbank.linkUp with
  | true =>
    have hmask : heldMask u = addFlag 0 EmSource.startup.idx ||| addFlag 0 EmSource.loopDropped.idx := by
      simp [heldMask, h, hup, sourceIf]
    simp only [shedShaper, heldSources, hup, hmask, and_not_or, dropFlag_eq_and_not, Bool.not_true, Bool.and_false]
    rfl
  | false =>
    have hmask : heldMask u = addFlag 0 EmSource.startup.idx := by simp [heldMask, hup, sourceIf]
    simp only [shedShaper, heldSources, hup, hmask, Bool.not_false, Bool.and_true, emptiedBy_startup, dropFlag_eq_and_not]
    rfl

theorem heldEntered_shaper (h : u.wheel.stationary = true) :
    (u.enterHeld x c).shaper = { u.shaper with
      demand := some
        { lever := c.lever, handle := c.handle, horn := c.horn, bell := c.bell, sand := c.sand, takenAt := c.frameTime }
      stage := stageOfAge (u.now - c.frameTime), zeroPass := false, sources := heldSources u
      oPrev := if u.shaper.sources ≠ 0 ∧ heldSources u = 0 then -1000 else u.shaper.oPrev } := by
  have hsources : (shedShaper u.outbank.linkUp (heldMask u) (u.shaper.seed u.now c)).sources = heldSources u := heldSources_eq u h
  have hshed : (u.enterHeld x c).shaper = shedShaper u.outbank.linkUp (heldMask u) (u.shaper.seed u.now c) := by
    rw [enterHeld_eq]
    rfl
  have hdisarmed : (if (u.shaper.seed u.now c).sources ≠ 0 ∧ heldSources u = 0 then false
      else (u.shaper.seed u.now c).zeroPass) = false := ite_self false
  rw [hshed, shedShaper_eq, hsources, hdisarmed]
  rfl

theorem heldEntered_vigil :
    (u.enterHeld x c).vigil =
      let rested : VigilRec :=
        if u.vigil.state = .penalty then u.vigil
        else { u.vigil with state := .idle, lastActivity := none, warnStart := none, releaseTime := none }
      { rested with leverRef := c.lever, handle := c.handle, buzzer := rested.releaseTime.isSome } := by
  rw [enterHeld_eq]
  have hv : (shed (heldMask u) (heldBegun u x c)).cancelStop.cancelAll.refreshHornBell.vigil =
      { u.vigil.enterHeld c.lever c.handle with buzzer := (u.vigil.enterHeld c.lever c.handle).wantsBuzzer } := rfl
  rw [hv]
  by_cases hp : u.vigil.state = .penalty <;>
    simp [VigilRec.enterHeld, VigilRec.wantsBuzzer, VigilRec.rest, hp]

theorem heldEntered_stop :
    (u.enterHeld x c).stop = { u.stop with
      record := if u.stop.record.first.isSome then { StopRec.empty with chime := u.stop.record.chime } else u.stop.record } := by
  rw [enterHeld_eq]
  rfl

theorem heldEntered_junct : (u.enterHeld x c).junct = junctCancelled u := by
  rw [enterHeld_eq]
  exact cancelAll_junct _

/-- SOUND after the entry: the buzzers, then the hazard request, then horn and bell. -/
theorem enterHeld_sound :
    (u.enterHeld x c).sound =
      (shed (heldMask u) (heldBegun u x c)).sound.refreshHornBell u.now (.held x .neutral) (u.enterHeld x c).shaper := by
  rw [enterHeld_eq]
  rfl

/-- The buttons ask for horn and bell at the new holder's end while FRESH (R103). -/
theorem wantsAt_enterHeld (h : u.wheel.stationary = true) (pressed : DemandBody → Bool) (e : Cab) :
    wantsAt (.held x .neutral) (u.enterHeld x c).shaper pressed e =
      (decide (stageOfAge (u.now - c.frameTime) = .fresh) &&
        pressed { lever := c.lever, handle := c.handle, horn := c.horn, bell := c.bell, sand := c.sand, takenAt := c.frameTime }
        && decide (e = x)) := by
  rw [heldEntered_shaper u x c h]
  by_cases hf : stageOfAge (u.now - c.frameTime) = .fresh
  · by_cases he : e = x
    · simp [wantsAt, soundingEnd, Auth.isHeld, Auth.leading, hf, he]
    · simp [wantsAt, soundingEnd, Auth.isHeld, Auth.leading, hf, he, Ne.symm he]
  · simp [wantsAt, soundingEnd, Auth.isHeld, hf]

theorem heldBegun_soundKept : soundKept u.sound (heldBegun u x c).sound [.buzzA, .buzzB] :=
  refreshBuzzer_soundKept _ _ _ _

theorem heldBuzzer_soundKept : soundKept u.sound (shed (heldMask u) (heldBegun u x c)).sound [.buzzA, .buzzB, .hazard] :=
  soundKept_append (heldBegun_soundKept u x c) (shed_soundKept (heldMask u) (heldBegun u x c))

/-- What the entry to HELD at standstill leaves is what the statements say of it, the notices apart. -/
theorem heldEntered_enterHeld (h : u.wheel.stationary = true) :
    HeldEntered { u with raised := 0 } (u.enterHeld x c).deliver x c := by
  have hshaper := heldEntered_shaper u x c h
  have hsound := enterHeld_sound u x c
  have hhb : soundKept _ (u.enterHeld x c).sound hornBellChannels :=
    hsound ▸ refreshHornBell_soundKept (shed (heldMask u) (heldBegun u x c)).sound u.now (.held x .neutral)
      (u.enterHeld x c).shaper
  have hbuzzer := heldBuzzer_soundKept u x c
  have hhorn (e : Cab) (ch : Sounder) (hch : ch ∈ hornBellChannels) :
      channelAsked u.sound (u.enterHeld x c).sound u.now ch (hornBellOn (.held x .neutral) (u.enterHeld x c).shaper ch) := by
    have hother : ch ∉ [Sounder.buzzA, .buzzB, .hazard] := by
      revert hch
      cases ch <;> decide
    exact channelAsked_of_soundKept hbuzzer hother (hsound ▸ refreshHornBell_channelAsked _ _ _ _ hch)
  have hvigil := heldEntered_vigil u x c
  refine ⟨?auth, hshaper, hvigil, heldEntered_stop u x c, heldEntered_junct u x c, fun e => ⟨?horn, ?bell, ?buzz⟩, ?lamps, ?sound,
    ?frame⟩
  case auth => rw [enterHeld_eq]; rfl
  case horn =>
    have := hhorn e (hornOf e) (hornOf_mem e)
    rwa [hornBellOn_hornOf, wantsAt_enterHeld u x c h] at this
  case bell =>
    have := hhorn e (bellOf e) (bellOf_mem e)
    rwa [hornBellOn_bellOf, wantsAt_enterHeld u x c h] at this
  case buzz =>
    have hb : (u.enterHeld x c).vigil.buzzer = (u.vigil.enterHeld c.lever c.handle).wantsBuzzer := by
      rw [enterHeld_eq]; rfl
    have hcab : decide ((Auth.held x .neutral).cab = some e) = decide (e = x) := by simp [Auth.cab, eq_comm]
    have hasked : channelAsked u.sound (heldBegun u x c).sound u.now (buzzOf e)
        ((u.enterHeld x c).vigil.buzzer && decide (e = x)) := by
      rw [hb, ← hcab]
      exact refreshBuzzer_channelAsked u.sound u.now _ _ e
    have hother : buzzOf e ∉ [Sounder.hazard] := by cases e <;> decide
    exact channelAsked_then_kept hasked (channelKept_trans ((shed_soundKept (heldMask u) (heldBegun u x c)).1 _ hother)
      (hhb.1 _ (buzzOf_not_hornBell e)))
  case lamps =>
    have hshed := shed_hazard (heldMask u) (heldBegun u x c)
    have hkeep := hhb.1 .hazard hornBell_not_hazard
    have hempties := emptied_iff u.outbank.linkUp (heldMask u) u.shaper
    have hsame : (u.enterHeld x c).deliver.shaper.sources = heldSources u := congrArg ShaperRec.sources hshaper
    have hbegun : channelKept u.sound (heldBegun u x c).sound .hazard := (heldBegun_soundKept u x c).1 _ (by decide)
    rw [heldSources_eq u h] at hempties
    rw [hsame]
    rw [show (emptiedBy (heldBegun u x c).shaper (heldMask u) && (heldBegun u x c).outbank.linkUp) =
      (emptiedBy u.shaper (heldMask u) && u.outbank.linkUp) from rfl] at hshed
    by_cases hc : (emptiedBy u.shaper (heldMask u) && u.outbank.linkUp) = true
    · rw [if_pos hc] at hshed
      rw [if_pos (hempties.mpr hc)]
      exact channelAsked_then_kept (channelAsked_of_kept (soundKept_patterns (heldBegun_soundKept u x c)) hbegun hshed) hkeep
    · rw [if_neg hc] at hshed
      rw [if_neg fun e => hc (hempties.mp e)]
      exact channelKept_trans hbegun (channelKept_trans hshed hkeep)
  case sound =>
    have hall := soundKept_append hbuzzer hhb
    exact soundKept_mono hall (by simp [hornBellChannels])
  case frame => simp [enterHeld_eq, heldBegun]

/-- The notices an entry to HELD raises. -/
theorem enterHeld_raised :
    (u.enterHeld x c).raised =
      u.raised ||| only .authChanged ||| kindIf (decide (stageOfAge (u.now - c.frameTime) = .staleBrake)) .demandStale |||
        kindIf ((u.enterHeld x c).vigil.buzzer && !u.vigil.buzzer) .vigilWarn |||
        kindIf (emptiedBy u.shaper (heldMask u) && u.outbank.linkUp) .emergencyChanged |||
        kindIf u.stop.record.first.isSome .stopChanged ||| kindIf (!u.junct.list.isEmpty) .junctionChanged := by
  rw [enterHeld_eq]
  have hbegun : (heldBegun u x c).raised =
      u.raised ||| only .authChanged ||| kindIf (decide (stageOfAge (u.now - c.frameTime) = .staleBrake)) .demandStale |||
        kindIf ((heldBegun u x c).vigil.buzzer && !u.vigil.buzzer) .vigilWarn := by
    have hbuzzer : (u.vigil.enterHeld c.lever c.handle).buzzer = u.vigil.buzzer := by
      unfold VigilRec.enterHeld
      split <;> rfl
    rw [← hbuzzer]
    unfold heldBegun
    rw [refreshBuzzer_raised, raiseIf_raised, raise_raised]
    rfl
  have hall : (shed (heldMask u) (heldBegun u x c)).cancelStop.cancelAll.refreshHornBell.raised =
      (shed (heldMask u) (heldBegun u x c)).cancelStop.cancelAll.raised := rfl
  rw [hall, cancelAll_raised, cancelStop_raised, shed_raised, hbegun]
  rfl

/-- What an entry to HELD tells each port is what was raised before and the notices the statements list for it. -/
theorem enterHeld_told (h : u.wheel.stationary = true) (p : Port) :
    noticesFor (.held x .neutral) (u.enterHeld x c).raised p =
      noticesFor (.held x .neutral) u.raised p ||| heldKinds u (u.enterHeld x c) p := by
  have hauth : (u.enterHeld x c).auth = .held x .neutral := by rw [enterHeld_eq]; rfl
  have hstage : (u.enterHeld x c).shaper.stage = stageOfAge (u.now - c.frameTime) := by rw [heldEntered_shaper u x c h]
  have hempties := emptied_iff u.outbank.linkUp (heldMask u) u.shaper
  have hsources : (u.enterHeld x c).shaper.sources = (shedShaper u.outbank.linkUp (heldMask u) u.shaper).sources := by
    rw [heldEntered_shaper u x c h, heldSources_eq u h]
  have hemergency : (if u.shaper.sources ≠ 0 ∧ (u.enterHeld x c).shaper.sources = 0 then only .emergencyChanged else 0) =
      toldIf (emptiedBy u.shaper (heldMask u) && u.outbank.linkUp) .emergencyChanged (.held x .neutral) p := by
    rw [toldIf_emergencyChanged, hsources, kindIf]
    exact if_congr hempties rfl rfl
  have honly : noticesFor (.held x .neutral) (only .authChanged) p = only .authChanged := by
    rw [noticesFor_only]; rfl
  rw [enterHeld_raised]
  simp only [noticesFor_or, noticesFor_kindIf, heldKinds, hauth, hstage, hemergency, honly, BitVec.or_assoc]

end

/-! ### The check -/

section
variable {w : State} {x : Cab} {start : Nat} {c : Claimant} (ha : w.auth = .claiming x start (some c))
include ha

theorem syncCheck_of_claiming : w.syncCheck = if w.synchronises x c then w.enterHeld x c else w := by
  simp [State.syncCheck, ha]

/-- The check of a claim with claimant fields is what the statements say of it. -/
theorem syncTaken_syncCheck : syncTaken { w with raised := 0 } w.syncCheck.deliver x c := by
  have hiff := synchronises_iff w x c
  unfold syncTaken
  split_ifs with h
  · have hsync : w.synchronises x c = true := hiff.mpr h
    rw [syncCheck_of_claiming ha, if_pos hsync]
    exact heldEntered_enterHeld w x c h.1
  · have hsync : ¬w.synchronises x c = true := fun e => h (hiff.mp e)
    rw [syncCheck_of_claiming ha, if_neg hsync]
    rfl

/-- What an event and the check after it tell each port. -/
theorem syncCheck_notified {s : State} (hports : w.ports = s.ports) {kinds : Port → BitVec 20}
    (hkinds : ∀ p, noticesFor w.syncCheck.auth w.raised p = kinds p) :
    Notified s w.syncCheck.deliver (withHeldKinds { w with raised := 0 } w.syncCheck.deliver kinds) := by
  by_cases hsync : w.synchronises x c = true
  · have hcheck : w.syncCheck = w.enterHeld x c := by rw [syncCheck_of_claiming ha, if_pos hsync]
    have hst : w.wheel.stationary = true := ((synchronises_iff w x c).mp hsync).1
    have hauth : (w.enterHeld x c).auth = .held x .neutral := by rw [enterHeld_eq]; rfl
    have heports : (w.enterHeld x c).ports = s.ports := by rw [← hports, enterHeld_eq]; rfl
    rw [hcheck] at hkinds ⊢
    have htold := deliver_notified heports
    intro p
    rw [hauth] at hkinds
    rw [htold p, hauth, enterHeld_told w x c hst p, hkinds p]
    have hheld : (w.enterHeld x c).deliver.auth.isHeld = true := congrArg Auth.isHeld hauth
    simp only [withHeldKinds, hheld, if_true]
    rfl
  · have hcheck : w.syncCheck = w := by rw [syncCheck_of_claiming ha, if_neg hsync]
    rw [hcheck] at hkinds ⊢
    have htold := deliver_notified hports
    intro p
    rw [htold p, hkinds p]
    have hheld : w.auth.isHeld = false := congrArg Auth.isHeld ha
    simp [withHeldKinds, hheld]

end

/-- Outside a claim with claimant fields the check does nothing. -/
theorem syncCheck_of_no_claimant {s : State} (h : s.auth.claimant = none) : s.syncCheck = s := by
  unfold State.syncCheck
  split
  next hauth => simp [hauth, Auth.claimant] at h
  next => rfl

end Sys2Proof.Proofs
end

section
/-! SUPPORT. The entries to VACANT and LOST and the end of a claim (R8, R9, R13, R15). -/

namespace Sys2Proof.Proofs

open Sys2Proof Sys2Proof.Machine

/-! ### SOUND and the sources, when other channels have changed before a removal -/

/-- The same request on two records that differ on other channels leaves them differing there alone. -/
theorem soundKept_want {a b : SoundRec} {l : List Sounder} (h : soundKept a b l) (now : Nat) {c : Sounder} (hc : c ∉ l)
    (on : Bool) : soundKept (a.want now c on) (b.want now c on) l := by
  have ha := want_soundKept a now c on
  have hb := want_soundKept b now c on
  refine ⟨fun e he => ?_, ?_⟩
  · by_cases hec : e = c
    · rw [hec]
      exact want_local (soundKept_patterns h) (h.1 c hc) now on
    · obtain ⟨ha1, ha2⟩ := ha.1 e (by simpa using hec)
      obtain ⟨hb1, hb2⟩ := hb.1 e (by simpa using hec)
      obtain ⟨h1, h2⟩ := h.1 e he
      exact ⟨hb1.trans (h1.trans ha1.symm), hb2.trans (h2.trans ha2.symm)⟩
  · have h2 := h.2
    have ha2 := ha.2
    have hb2 := hb.2
    rw [← hb2, ← ha2] at h2
    simp only [SoundRec.mk.injEq] at h2 ⊢
    cases hx : a.want now c on
    simp_all

theorem soundKept_shed {s w : State} {l : List Sounder} (m : BitVec 8) (hshaper : w.shaper = s.shaper)
    (hup : w.outbank.linkUp = s.outbank.linkUp) (hnow : w.now = s.now) (hsound : soundKept s.sound w.sound l)
    (hl : .hazard ∉ l) : soundKept (shed m s).sound (shed m w).sound l := by
  simp only [shed, hshaper, hup, hnow]
  split
  · exact soundKept_want hsound s.now hl false
  · exact hsound

/-- A removal of a source that is present, after changes of other channels of SOUND. -/
theorem sourceRemoved_shed {s w : State} {k : EmSource} {but : List Sounder} (h : s.shaper.has k = true)
    (hshaper : w.shaper = s.shaper) (hup : w.outbank.linkUp = s.outbank.linkUp) (hnow : w.now = s.now)
    (hsound : soundKept s.sound w.sound but) (hbut : .hazard ∉ but) :
    sourceRemoved s (shed (addFlag 0 k.idx) w) k but := by
  refine sourceRemoved_of h ?_ hnow ?_ hbut
  · rw [removeSource_eq_shed]
    simp only [shed, hshaper, hup]
  · rw [removeSource_eq_shed]
    exact soundKept_shed _ hshaper hup hnow hsound hbut

theorem shed_absent {s : State} {k : EmSource} (h : s.shaper.has k = false) : shed (addFlag 0 k.idx) s = s := by
  rw [← removeSource_eq_shed, State.removeSource_absent h]

/-! ### The entry to VACANT -/

/-- The six channels of horn, bell and buzzer. -/
def cabChannels : List Sounder := [.hornA, .hornB, .bellA, .bellB, .buzzA, .buzzB]

/-- The state with AUTH, SHAPER, SOUND, JUNCT and VIGIL as the entry to VACANT has them, LEVER not yet tested. -/
def vacantBegun (s : State) : State :=
  State.vigilVacant <|
    State.cancelAll <|
      State.raise .authChanged
        { s with auth := .vacant, shaper := s.shaper.leaveHeld, sound := s.sound.silenceHornBell s.now }

theorem enterVacant_eq (s : State) : s.enterVacant = shed (sourceIf s.wheel.stationary .lever) (vacantBegun s) := by
  have hback : (s.wheel.stationary && (vacantBegun s).shaper.leverBack) = s.wheel.stationary := Bool.and_true _
  rw [← removeSourceIf_eq_shed]
  conv_rhs => rw [← hback]
  rfl

section
variable (s : State)

theorem vacantBegun_sound :
    (vacantBegun s).sound =
      (s.sound.silenceHornBell s.now).refreshBuzzer s.now .vacant (vacantBegun s).vigil.wantsBuzzer := rfl

theorem vacantBegun_soundKept : soundKept s.sound (vacantBegun s).sound cabChannels :=
  soundKept_append (silenceHornBell_soundKept s.sound s.now)
    (refreshBuzzer_soundKept _ s.now .vacant (vacantBegun s).vigil.wantsBuzzer)

theorem vacantBegun_hornBell {c : Sounder} (hc : c ∈ hornBellChannels) :
    (vacantBegun s).sound.req c = .notPlaced ∧
      (vacantBegun s).sound.slot c = (s.sound.slot c).filter fun i => decide (3 ≤ i.pattern.val) := by
  have hother : c ∉ [Sounder.buzzA, .buzzB] := by
    revert hc
    cases c <;> decide
  obtain ⟨hslot, hreq⟩ :=
    (refreshBuzzer_soundKept (s.sound.silenceHornBell s.now) s.now .vacant (vacantBegun s).vigil.wantsBuzzer).1 c hother
  obtain ⟨hr, hs⟩ := silenceHornBell_self s.sound s.now hc
  exact ⟨hreq.trans hr, hslot.trans hs⟩

theorem vacantBegun_buzzers {c : Sounder} (hc : c ∈ [Sounder.buzzA, .buzzB]) :
    channelAsked s.sound (vacantBegun s).sound s.now c false := by
  obtain ⟨e, rfl⟩ : ∃ e, c = buzzOf e := by
    rcases List.mem_cons.mp hc with rfl | hc
    · exact ⟨.A, rfl⟩
    · exact ⟨.B, by simpa [buzzOf] using hc⟩
  have hasked := refreshBuzzer_channelAsked (s.sound.silenceHornBell s.now) s.now .vacant
    (vacantBegun s).vigil.wantsBuzzer e
  have hno : ((vacantBegun s).vigil.wantsBuzzer && decide (Auth.vacant.cab = some e)) = false := by simp [Auth.cab]
  rw [hno] at hasked
  exact channelAsked_of_soundKept (silenceHornBell_soundKept s.sound s.now) (buzzOf_not_hornBell e) hasked

/-- VIGIL after the entry to VACANT (R15, R83, R92). -/
theorem vacantBegun_vigil :
    (vacantBegun s).vigil =
      if s.vigil.state = .penalty then { s.vigil with handle := true, buzzer := s.vigil.wantsBuzzer }
      else { s.vigil with
        state := .idle, lastActivity := none, warnStart := none, releaseTime := none, buzzer := false, handle := true } := by
  have hv : (vacantBegun s).vigil =
      { (if s.vigil.state = .penalty then s.vigil else s.vigil.rest) with
        handle := true
        buzzer := VigilRec.wantsBuzzer { (if s.vigil.state = .penalty then s.vigil else s.vigil.rest) with handle := true } } := rfl
  rw [hv]
  split <;> rfl

theorem vacantBegun_raised :
    (vacantBegun s).raised =
      s.raised ||| only .authChanged ||| kindIf (!s.junct.list.isEmpty) .junctionChanged |||
        kindIf ((vacantBegun s).vigil.buzzer && !s.vigil.buzzer) .vigilWarn := by
  have hkept : ({ (if s.vigil.state = .penalty then s.vigil else s.vigil.rest) with handle := true } : VigilRec).buzzer =
      s.vigil.buzzer := by
    split <;> rfl
  rw [← hkept]
  unfold vacantBegun State.vigilVacant
  rw [refreshBuzzer_raised, cancelAll_raised, raise_raised]
  rfl

theorem vacantBegun_junct : (vacantBegun s).junct = junctCancelled s := cancelAll_junct _

/-- In its invariant form the record of VIGIL in PENALTY holds no time, so that no buzzer request is called for. -/
theorem vigil_penalty_form {s : State} (hv : VigilInv s) (h : s.vigil.state = .penalty) :
    s.vigil.lastActivity = none ∧ s.vigil.warnStart = none ∧ s.vigil.releaseTime = none ∧ s.vigil.wantsBuzzer = false := by
  obtain ⟨hlast, hwarn, hrelease, -, -, -⟩ := hv
  simp only [h, VigilState.watching, reduceCtorEq, decide_false, Option.isSome_eq_false_iff, Option.isNone_iff_eq_none,
    Bool.false_eq_true, imp_false, Bool.not_eq_true] at hlast hwarn hrelease
  exact ⟨hlast, hwarn, hrelease, by simp [VigilRec.wantsBuzzer, h, hrelease]⟩

theorem vacantBegun_vigil_of_inv (hv : VigilInv s) :
    (vacantBegun s).vigil = { s.vigil with
      state := if s.vigil.state = .penalty then .penalty else .idle
      lastActivity := none, warnStart := none, releaseTime := none, handle := true, buzzer := false } := by
  rw [vacantBegun_vigil]
  split
  next h =>
    obtain ⟨hlast, hwarn, hrelease, hbuzzer⟩ := vigil_penalty_form hv h
    rw [← hlast, hbuzzer, ← h]
    simp [hlast, hwarn, hrelease]
  next => rfl

/-- What the entry to VACANT at standstill leaves is what the statements say of it. -/
theorem vacated_enterVacant (hv : VigilInv s) (hst : s.wheel.stationary = true) (hquiet : s.raised = 0) :
    Vacated s s.enterVacant.deliver := by
  have hmask : sourceIf s.wheel.stationary .lever = addFlag 0 EmSource.lever.idx := by rw [hst]; rfl
  have hbuzzer : (vacantBegun s).vigil.buzzer = false := by rw [vacantBegun_vigil_of_inv s hv]
  have hcab : .hazard ∉ cabChannels := by decide
  have hshed := shed_soundKept (addFlag 0 EmSource.lever.idx) (vacantBegun s)
  rw [enterVacant_eq, hmask]
  refine ⟨rfl, fun hlever => ?removed, fun hlever => ?kept, vacantBegun_junct s, vacantBegun_vigil_of_inv s hv, fun c hc => ?hornBell,
    fun c hc => ?buzzers, ?told, ?frame⟩
  case removed =>
    exact sourceRemoved_shed (s := { s with shaper := s.shaper.leaveHeld }) (w := vacantBegun s) hlever rfl rfl rfl
      (vacantBegun_soundKept s) hcab
  case kept =>
    rw [shed_absent (s := vacantBegun s) hlever]
    exact ⟨rfl, vacantBegun_soundKept s⟩
  case hornBell =>
    have hother : c ∉ [Sounder.hazard] := by
      revert hc
      cases c <;> decide
    obtain ⟨hslot, hreq⟩ := hshed.1 c hother
    obtain ⟨hr, hs⟩ := vacantBegun_hornBell s hc
    exact ⟨hreq.trans hr, hslot.trans hs⟩
  case buzzers =>
    have hother : c ∉ [Sounder.hazard] := by
      revert hc
      cases c <;> decide
    exact channelAsked_then_kept (vacantBegun_buzzers s hc) (hshed.1 c hother)
  case told =>
    intro p
    have hsources := emptied_iff s.outbank.linkUp (addFlag 0 EmSource.lever.idx) s.shaper
    have honly : noticesFor .vacant (only .authChanged) p = only .authChanged := by rw [noticesFor_only]; rfl
    have hnone : s.raised = 0#20 := hquiet
    rw [deliver_notified (u := shed (addFlag 0 EmSource.lever.idx) (vacantBegun s)) (s := s) rfl p, shed_raised,
      vacantBegun_raised, hnone, hbuzzer]
    have hauth : (shed (addFlag 0 EmSource.lever.idx) (vacantBegun s)).auth = .vacant := rfl
    have hemergency : toldIf (emptiedBy (vacantBegun s).shaper (addFlag 0 EmSource.lever.idx) && (vacantBegun s).outbank.linkUp)
        .emergencyChanged .vacant p =
        if s.shaper.sources ≠ 0 ∧ (shedShaper s.outbank.linkUp (addFlag 0 EmSource.lever.idx) s.shaper).sources = 0
        then only .emergencyChanged else 0 := by
      rw [toldIf_emergencyChanged]
      exact if_congr hsources.symm rfl rfl
    simp only [hauth, noticesFor_or, noticesFor_kindIf, honly, hemergency, Bool.false_and, toldIf_false, BitVec.or_zero,
      BitVec.zero_or]
    rw [or_right_comm (only .authChanged)]
    rfl
  case frame => simpa [vacantBegun, State.vigilVacant] using with_raised_none hquiet

end

/-! ### The entry to LOST -/

/-- What the entry to LOST leaves is what the statements say of it. -/
theorem lost_entered (s : State) (x : Cab) (d : Direction) (hquiet : s.raised = 0) :
    let t := (s.enterLost x d).deliver
    sourceAdded { s with shaper := { s.shaper with demand := none, stage := .coasting, zeroPass := false } } t .authLost
        hornBellChannels ∧
      (∀ c ∈ hornBellChannels, channelAsked s.sound t.sound s.now c false) ∧ t.junct = junctCancelled s ∧
      Notified s t (fun p => only .authChanged ||| (if s.shaper.sources = 0 then only .emergencyChanged else 0) |||
        toldIf (!s.junct.list.isEmpty) .junctionChanged (.lost x d) p) ∧
      { t with ports := s.ports, auth := s.auth, shaper := s.shaper, junct := s.junct, sound := s.sound } = s := by
  have hhb (u : State) : soundKept u.sound (u.sound.refreshHornBell u.now u.auth u.shaper) hornBellChannels :=
    refreshHornBell_soundKept _ _ _ _
  refine ⟨sourceAdded_of rfl rfl (hhb _) (by decide), fun c hc => ?hornBell, cancelAll_junct _, fun p => ?told, ?frame⟩
  case hornBell =>
    -- No end may sound outside HELD.
    have hoff (sh : ShaperRec) : hornBellOn (.lost x d) sh c = false := by
      revert hc
      cases c <;> simp [hornBellOn, wantsAt, soundingEnd, Auth.isHeld]
    have hother : c ∉ [Sounder.hazard] := by
      revert hc
      cases c <;> decide
    have hadd : soundKept s.sound (State.addSource .authLost { s with shaper := s.shaper.leaveHeld }).sound [.hazard] := by
      simp only [State.addSource]
      split
      · exact place_soundKept _ _ _
      · exact soundKept_refl _ _
    have hasked := refreshHornBell_channelAsked (State.addSource .authLost { s with shaper := s.shaper.leaveHeld }).sound s.now
      (.lost x d) (s.shaper.leaveHeld.addSource .authLost) hc
    rw [hoff] at hasked
    exact channelAsked_of_soundKept hadd hother hasked
  case told =>
    have honly : noticesFor (.lost x d) (only .authChanged) p = only .authChanged := by rw [noticesFor_only]; rfl
    have hraised : (s.enterLost x d).raised =
        s.raised ||| only .authChanged ||| kindIf (decide (s.shaper.sources = 0)) .emergencyChanged |||
          kindIf (!s.junct.list.isEmpty) .junctionChanged := by
      unfold State.enterLost
      rw [State.refreshHornBell_raised, cancelAll_raised, addSource_raised, raise_raised]
      rfl
    have hemergency : kindIf (decide (s.shaper.sources = 0)) .emergencyChanged =
        if s.shaper.sources = 0 then only .emergencyChanged else 0 := by simp [kindIf]
    have hnone : s.raised = 0#20 := hquiet
    rw [deliver_notified (u := s.enterLost x d) (s := s) rfl p, hraised, hnone]
    have hauth : (s.enterLost x d).auth = .lost x d := rfl
    simp only [hauth, noticesFor_or, noticesFor_kindIf, honly, toldIf_emergencyChanged, BitVec.zero_or]
    rw [hemergency]
  case frame => simpa [State.enterLost] using with_raised_none hquiet

/-! ### The end of a claim -/

/-- The end of a claim tells AUTH_CHANGED to all and CLAIM_LAPSED to the cab's port and V, and empties the record alone. -/
theorem claim_ended (s : State) (x : Cab) (hquiet : s.raised = 0) :
    let t := (s.endClaim x).deliver
    t.auth = .vacant ∧ Notified s t (claimEndNotices x) ∧ { t with ports := s.ports, auth := s.auth } = s := by
  refine ⟨rfl, fun p => ?told, ?frame⟩
  case told =>
    have hraised : (s.endClaim x).raised = only .authChanged := by
      simp [State.endClaim, raise_raised, State.claimLapsed, hquiet]
    have honly : noticesFor .vacant (only .authChanged) p = only .authChanged := by rw [noticesFor_only]; rfl
    have hports : (s.endClaim x).ports.get p =
        { s.ports.get p with notices := (s.ports.get p).notices ||| if p = portOf x ∨ p = .V then only .claimLapsed else 0 } := by
      cases p <;> cases x <;>
        simp [State.endClaim, State.claimLapsed, ByPort.notifyOne, ByPort.get, PortRec.notify, portOf, only]
    have hauth : (s.endClaim x).auth = .vacant := rfl
    rw [State.deliver_get, hports, hraised, hauth, honly]
    simp only [PortRec.notify, claimEndNotices, BitVec.or_assoc, BitVec.or_comm (only .authChanged)]
  case frame => simpa [State.endClaim] using with_raised_none hquiet

/-- A reply made pending before or after the end of a claim is the same. -/
theorem endClaim_reply (s : State) (x : Cab) (p : Port) (r : Reply) : (s.endClaim x).reply p r = (s.reply p r).endClaim x := by
  have hports : ((s.endClaim x).reply p r).ports = ((s.reply p r).endClaim x).ports := by
    cases p <;> cases x <;>
      simp [State.endClaim, State.claimLapsed, ByPort.notifyOne, State.reply, ByPort.get, ByPort.put, PortRec.notify,
        PortRec.answered, portOf]
  simp only [State.endClaim, State.claimLapsed, State.raise, State.reply] at hports ⊢
  rw [hports]

/-- A reply made pending before or after the entry to VACANT is the same. -/
theorem enterVacant_reply (s : State) (p : Port) (r : Reply) : s.enterVacant.reply p r = (s.reply p r).enterVacant := by
  rw [enterVacant_eq, enterVacant_eq]
  rfl

end Sys2Proof.Proofs
end

/-! ## Proofs: the transitions of driving authority (01) -/

section
/-! The end of a claim, DESK RELEASE and VACATE, the holder's key, a claimant's frame (R5 to R13, R15). -/

namespace Sys2Proof.Proofs

open Sys2Proof Sys2Proof.Machine

/-! ### Events and commands of the running die -/

theorem running_of_taking {p : Port} {s : State} (h : Taking p s) : Running s := ⟨h.1, h.2.2⟩

/-- An event of the running die that changes nothing. -/
theorem event_idle {s : State} {f : State → State} (h : Running s) (hf : f s = s) : s.event f = s := by
  rw [State.event_of h.1, hf, State.deliver_quiet h.2]

/-- A line event of the running die whose effect raises no notice. -/
theorem lineEvent_quiet {s : State} {l f : State → State} (h : Running s) (hf : (f s).raised = s.raised) :
    s.lineEvent l f = f s := by
  rw [State.lineEvent_of h.1, State.deliver_quiet (hf.trans h.2)]

/-- A port's record other than its notices is that of the state before. -/
theorem notified_reply {s t : State} {kinds : Port → BitVec 20} {p : Port} {r : Reply}
    (h : Notified (s.reply p r) t kinds) : t.replyOf p = r := by
  have hp := congrArg PortRec.reply (h p)
  simpa [State.replyOf, State.reply, PortRec.answered] using hp

/-! ### The end of a claim -/

section
variable {s : State} {x : Cab} {start : Nat} {c : Option Claimant} (hrun : Running s) (ha : s.auth = .claiming x start c)
include hrun ha

theorem exec_claimWindowExpiry : exec .claimWindowExpiry s = .next ((s.reach (start + 5000)).endClaim x).deliver := by
  have hexpiry : s.claimExpiry = (s.reach (start + 5000)).endClaim x := by simp [State.claimExpiry, ha]
  exact congrArg Host.Outcome.next ((State.event_of hrun.1).trans (congrArg State.deliver hexpiry))

theorem exec_keyOff_claiming : exec (.keyOff x) s = .next ((s.keyTo x false).endClaim x).deliver := by
  have hkey : (s.keyTo x false).keyGoesOff x = (s.keyTo x false).endClaim x := by simp [State.keyGoesOff, ha]
  exact congrArg Host.Outcome.next ((State.lineEvent_of hrun.1).trans (congrArg State.deliver hkey))

theorem exec_keyOff_other : exec (.keyOff (otherEnd x)) s = .next (s.keyTo (otherEnd x) false) := by
  have hkey : (s.keyTo (otherEnd x) false).keyGoesOff (otherEnd x) = s.keyTo (otherEnd x) false := by
    cases x <;> simp [State.keyGoesOff, ha, otherEnd]
  have hevent := lineEvent_quiet (l := State.keyTo (otherEnd x) false)
    (f := fun s => (s.keyTo (otherEnd x) false).keyGoesOff (otherEnd x)) hrun (by rw [hkey]; rfl)
  exact congrArg Host.Outcome.next (hevent.trans hkey)

end

/-- The catalogue takes VACATE from VEHICLE alone (R172). -/
theorem permitOf_vacate : permitOf 0x14 = some permitVehicle := rfl

theorem exec_vacate_vehicle {s : State} (h : Taking .V s) :
    exec (.vacate .V) s = .next (State.conclude .V 0x14 s.vacateRule) :=
  congrArg Host.Outcome.next (State.command_taken h permitOf_vacate rfl)

/-- VACATE that the rule refuses changes port V's reply alone. -/
theorem exec_vacate_refused {s : State} {r : Reason} (h : Taking .V s) (hr : s.vacateRule = (s, .refused r)) :
    exec (.vacate .V) s = .next (s.refuse .V 0x14 r) := by
  rw [exec_vacate_vehicle h, hr, State.conclude_refusal h.2.2]

/-- VACATE of a claim. -/
theorem vacate_claiming {s : State} {x : Cab} {start : Nat} {c : Option Claimant} (ha : s.auth = .claiming x start c)
    (h : Taking .V s) :
    ∃ t, exec (.vacate .V) s = .next t ∧ t.auth = .vacant ∧ t.replyOf .V = doneReply 0x14 0 ∧
      Notified (s.reply .V (doneReply 0x14 0)) t (claimEndNotices x) ∧ { t with ports := s.ports, auth := s.auth } = s := by
  have hrule : s.vacateRule = (s.endClaim x, .done 0) := by simp [State.vacateRule, ha]
  have hconclude : State.conclude .V 0x14 (s.endClaim x, .done 0) = ((s.reply .V (doneReply 0x14 0)).endClaim x).deliver :=
    congrArg State.deliver (endClaim_reply s x .V (doneReply 0x14 0))
  obtain ⟨hauth, htold, hframe⟩ := claim_ended (s.reply .V (doneReply 0x14 0)) x h.2.2
  refine ⟨_, ?_, hauth, notified_reply htold, htold, congrArg (fun u : State => { u with ports := s.ports }) hframe⟩
  rw [exec_vacate_vehicle h, hrule, hconclude]

/-- Settles O4: each way a claim ends is the end of the claim, on the clock, the line or the reply as the event leaves them. -/
theorem claimEndsWithoutHeld : Obligations.ClaimEndsWithoutHeld := by
  intro s x start c hrun ha
  refine ⟨?expiry, ?key, exec_keyOff_other hrun ha, vacate_claiming ha, fun u hu hno => ?idle⟩
  case expiry =>
    obtain ⟨hauth, htold, hframe⟩ := claim_ended (s.reach (start + 5000)) x hrun.2
    exact ⟨_, exec_claimWindowExpiry hrun ha, hauth, rfl, htold, congrArg (fun u : State => { u with now := s.now }) hframe⟩
  case key =>
    obtain ⟨hauth, htold, hframe⟩ := claim_ended (s.keyTo x false) x hrun.2
    exact ⟨_, exec_keyOff_claiming hrun ha, hauth, rfl, htold, congrArg (fun u : State => { u with lines := s.lines }) hframe⟩
  case idle =>
    have hexpiry : u.claimExpiry = u := by
      unfold State.claimExpiry
      split
      next hclaim => exact absurd hclaim (hno _ _ _)
      next => rfl
    exact congrArg Host.Outcome.next (event_idle hu hexpiry)

/-! ### A claimant's frame -/

/-- The catalogue takes DEMAND from DRIVING and CLAIMING (R172). -/
theorem permitOf_demand : permitOf 0x10 = some permitDesk := rfl

theorem exec_demand_taken {s : State} {x : Cab} (f : DemandFrame) (h : Taking (portOf x) s)
    (hs : permitDesk (s.auth.standing (portOf x)) = true) :
    exec (.demand (portOf x) f) s = .next (State.conclude (portOf x) 0x10 (s.demandRule f)) :=
  congrArg Host.Outcome.next (State.command_taken h permitOf_demand hs)

/-- Direction code 3 names no direction, and the frame is refused whole (R36). -/
theorem exec_demand_code3 {s : State} {x : Cab} {f : DemandFrame} (h : Taking (portOf x) s)
    (hs : permitDesk (s.auth.standing (portOf x)) = true) (h3 : f.direction = 3) :
    exec (.demand (portOf x) f) s = .next (s.refuse (portOf x) 0x10 .outOfRange) := by
  have hrule : s.demandRule f = (s, .refused .outOfRange) := by simp [State.demandRule, directionOf, h3]
  rw [exec_demand_taken f h hs, hrule, State.conclude_refusal h.2.2]

/-- The claim with the fields of its latest frame. -/
def claimFilled (s : State) (x : Cab) (start : Nat) (c : Claimant) : State := { s with auth := .claiming x start (some c) }

/-- A reply made pending before or after the check is the same. -/
theorem syncCheck_reply {w : State} {x : Cab} {start : Nat} {c : Claimant} (ha : w.auth = .claiming x start (some c)) (p : Port)
    (r : Reply) : w.syncCheck.reply p r = (w.reply p r).syncCheck := by
  have har : (w.reply p r).auth = .claiming x start (some c) := ha
  have hsame : (w.reply p r).synchronises x c = w.synchronises x c := rfl
  rw [syncCheck_of_claiming ha, syncCheck_of_claiming har, hsame]
  split
  · rw [enterHeld_eq, enterHeld_eq]; rfl
  · rfl

theorem claimantFrame_eq {s : State} {x : Cab} {start : Nat} {old : Option Claimant} (ha : s.auth = .claiming x start old)
    (d : Direction) (f : DemandFrame) :
    s.claimantFrame d f = (claimFilled s x start (claimantOf f d s.now)).syncCheck := by
  simp [State.claimantFrame, ha, claimFilled, claimantOf]

theorem demandRule_claiming {s : State} {x : Cab} {start : Nat} {old : Option Claimant} {f : DemandFrame} {d : Direction}
    (ha : s.auth = .claiming x start old) (hd : directionOf f.direction = some d) :
    s.demandRule f = (s.claimantFrame d f, .taken (leverClamped f.lever) (s.claimantFrame d f).demandData) := by
  simp [State.demandRule, ha, hd]

theorem taken_status (b : Bool) (data : BitVec 40) (code : BitVec 8) :
    ((Answer.taken b data).reply code).status = if b then .doneClamped else .done := rfl

/-- Whether DEMAND's reply says that the lever was clamped. -/
theorem leverClamped_status (raw : BitVec 8) :
    (if leverClamped raw then Status.doneClamped else .done) = if clampLever raw = raw.toInt then .done else .doneClamped := by
  by_cases h : clampLever raw = raw.toInt <;> simp [leverClamped, h]

/-- What is said of an entry to HELD does not depend on the authority record before it. -/
theorem heldEntered_of_auth {u t : State} {x : Cab} {c : Claimant} (a : Auth) (h : HeldEntered { u with auth := a } t x c) :
    HeldEntered u t x c := by
  obtain ⟨hauth, hshaper, hvigil, hstop, hjunct, hchannels, hhazard, hsound, hframe⟩ := h
  exact ⟨hauth, hshaper, hvigil, hstop, hjunct, hchannels, hhazard, hsound,
    congrArg (fun w : State => { w with auth := u.auth }) hframe⟩

theorem heldSources_startup (u : State) : hasFlag (heldSources u) EmSource.startup.idx = false := by
  have hdrop : hasFlag (dropFlag u.shaper.sources EmSource.startup.idx) EmSource.startup.idx = false := by
    simp [hasFlag_dropFlag]
  unfold heldSources
  dsimp only
  split_ifs
  · rw [hasFlag_dropFlag, hdrop]
    rfl
  · decide
  · exact hdrop

/-- Settles O5: the fields written, then the check on them; the answer's port apart, both are as in every claim. -/
theorem claimantFrameSynchronises : Obligations.ClaimantFrameSynchronises := by
  intro s x start old f h ha
  have hperm : permitDesk (s.auth.standing (portOf x)) = true := by simp [permitDesk, ha]
  refine ⟨exec_demand_code3 h hperm, fun d hd => ?_⟩
  obtain ⟨hheld, hwait, hquiet⟩ := h
  let c := claimantOf f d s.now
  let r : Reply := (Answer.taken (leverClamped f.lever) (s.claimantFrame d f).demandData).reply 0x10
  let answered := s.reply (portOf x) r
  let w := claimFilled answered x start c
  have hw : w.auth = .claiming x start (some c) := rfl
  have hconclude : State.conclude (portOf x) 0x10 (s.demandRule f) = w.syncCheck.deliver := by
    rw [demandRule_claiming ha hd]
    change ((s.claimantFrame d f).reply (portOf x) r).deliver = _
    rw [claimantFrame_eq ha, syncCheck_reply (w := claimFilled s x start c) rfl]
    rfl
  have hreply : w.syncCheck.deliver.replyOf (portOf x) = r := by
    rw [← hconclude, conclude_replyOf, demandRule_claiming ha hd]
  refine ⟨w.syncCheck.deliver, ?_, congrArg Reply.code hreply, ?_, ?_⟩
  · rw [exec_demand_taken f ⟨hheld, hwait, hquiet⟩ hperm, hconclude]
  · rw [hreply, taken_status, leverClamped_status]
  rw [hreply]
  have hnone : { w with raised := 0 } = w := with_raised_none hquiet
  by_cases hready : s.wheel.stationary = true ∧ s.tlink.brk.answering = true ∧
      (s.tlink.brk.last.map BrkReply.brakeApplied) = some true ∧ emstopLevel s.lines x = false ∧
      (-100 ≤ clampLever f.lever ∧ clampLever f.lever ≤ 0) ∧ d = .neutral
  · have hsync : w.synchronises x c = true := (synchronises_iff w x c).mpr hready
    have hcheck : w.syncCheck = w.enterHeld x c := by rw [syncCheck_of_claiming hw, if_pos hsync]
    have hentered : HeldEntered w w.syncCheck.deliver x c := by
      have := heldEntered_enterHeld w x c hready.1
      rwa [hnone, ← hcheck] at this
    obtain ⟨hauth, hshaper, -⟩ := id hentered
    have hage : w.now - c.frameTime = 0 := Nat.sub_self _
    have hstartup : w.syncCheck.deliver.shaper.has .startup = false := by
      rw [hshaper]
      exact heldSources_startup w
    have hkinds (p : Port) : noticesFor w.syncCheck.auth w.raised p = 0#20 := by
      rw [show w.raised = 0#20 from hquiet]
      exact noticesFor_zero _ _
    have htold := syncCheck_notified hw (s := answered) rfl hkinds
    have hisHeld : w.syncCheck.deliver.auth.isHeld = true := congrArg Auth.isHeld hauth
    rw [if_pos hready]
    refine ⟨hauth, ?_, ?_, hstartup, heldEntered_of_auth _ hentered, ?_⟩
    · rw [hshaper]; rfl
    · rw [hshaper]
      simp [hage]
    · intro p
      have hp := htold p
      simp only [withHeldKinds, hisHeld, if_true, BitVec.zero_or, hnone] at hp
      exact hp
  · have hsync : ¬w.synchronises x c = true := fun e => hready ((synchronises_iff w x c).mp e)
    have hcheck : w.syncCheck = w := by rw [syncCheck_of_claiming hw, if_neg hsync]
    rw [if_neg hready, hcheck, State.deliver_quiet (s := w) hquiet]
    exact ⟨rfl, rfl⟩

/-! ### DESK RELEASE and VACATE -/

/-- The catalogue takes DESK RELEASE from DRIVING alone (R172). -/
theorem permitOf_deskRelease : permitOf 0x12 = some permitDriving := rfl

theorem exec_deskRelease_held {s : State} {x : Cab} {d : Direction} (h : Taking (portOf x) s) (ha : s.auth = .held x d) :
    exec (.deskRelease (portOf x)) s = .next (State.conclude (portOf x) 0x12 s.releaseRule) := by
  have hperm : permitDriving (s.auth.standing (portOf x)) = true := by simp [permitDriving, ha]
  exact congrArg Host.Outcome.next (State.command_taken h permitOf_deskRelease hperm)

/-- An entry to VACANT by a command, its answer pending. -/
theorem vacated_concluded {s : State} {p : Port} (code : BitVec 8) (h : Taking p s) (hv : VigilInv s)
    (hst : s.wheel.stationary = true) :
    Vacated (s.reply p (doneReply code 0)) (State.conclude p code (s.enterVacant, .done 0)) := by
  have hconclude : State.conclude p code (s.enterVacant, .done 0) = (s.reply p (doneReply code 0)).enterVacant.deliver :=
    congrArg State.deliver (enterVacant_reply s p (doneReply code 0))
  rw [hconclude]
  exact vacated_enterVacant (s.reply p (doneReply code 0)) hv hst h.2.2

/-- Settles O6: each command is its rule behind its gate, by the authority state, standstill and O. -/
theorem releaseAndVacate : Obligations.ReleaseAndVacate := by
  intro s hv
  refine ⟨fun p h hs => ?gate, fun x h => ?cab, fun x d h ha => ?release, fun h => ⟨fun ha => ?vacant, fun x b c ha =>
    vacate_claiming ha h, fun x d ha => ?held, fun x d ha => ?lost⟩⟩
  case gate => exact congrArg Host.Outcome.next (State.command_refused h permitOf_deskRelease (decide_eq_false hs))
  case cab =>
    have hs : permitVehicle (s.auth.standing (portOf x)) = false := decide_eq_false (standing_portOf_ne_vehicle _ x)
    exact congrArg Host.Outcome.next (State.command_refused h permitOf_vacate hs)
  case release =>
    split
    next hrest =>
      have hrule : s.releaseRule = (s.enterVacant, .done 0) := if_pos hrest
      refine ⟨_, exec_deskRelease_held h ha, ?_, ?_⟩
      · rw [hrule]
        exact conclude_replyOf _ _ _
      · rw [hrule]
        exact vacated_concluded 0x12 h hv hrest.1
    next hrest =>
      have hrule : s.releaseRule = (s, .refused .moving) := if_neg hrest
      rw [exec_deskRelease_held h ha, hrule, State.conclude_refusal h.2.2]
  case vacant =>
    have hrule : s.vacateRule = (s, .done 0) := by simp [State.vacateRule, ha]
    rw [exec_vacate_vehicle h, hrule, State.conclude_quiet h.2.2]
    rfl
  case held =>
    split
    next hst =>
      have hrule : s.vacateRule = (s.enterVacant, .done 0) := by simp [State.vacateRule, ha, hst]
      refine ⟨_, exec_vacate_vehicle h, ?_, ?_⟩
      · rw [hrule]
        exact conclude_replyOf _ _ _
      · rw [hrule]
        exact vacated_concluded 0x14 h hv hst
    next hst => exact exec_vacate_refused h (by simp [State.vacateRule, ha, hst])
  case lost => exact exec_vacate_refused h (by simp [State.vacateRule, ha])

/-! ### The holder's key -/

/-- Settles O7: the key's line, then the entry to VACANT at rest or to LOST in motion. -/
theorem keyOffWhileHeld : Obligations.KeyOffWhileHeld := by
  intro s x d hrun hv ha
  obtain ⟨hheld, hquiet⟩ := hrun
  have hexec : exec (.keyOff x) s = .next ((s.keyTo x false).keyGoesOff x).deliver :=
    congrArg Host.Outcome.next (State.lineEvent_of hheld)
  by_cases hst : s.wheel.stationary = true
  · have hkey : (s.keyTo x false).keyGoesOff x = (s.keyTo x false).enterVacant := by simp [State.keyGoesOff, ha, hst]
    have hvacated := vacated_enterVacant (s.keyTo x false) hv hst hquiet
    have hlines : (s.keyTo x false).enterVacant.deliver.lines = setKey s.lines x false := by
      rw [enterVacant_eq]; rfl
    refine ⟨_, hexec, ?_, ?_⟩
    · rw [hkey, hlines]
    · rw [if_pos hst, hkey, hlines]
      exact hvacated
  · have hkey : (s.keyTo x false).keyGoesOff x = (s.keyTo x false).enterLost x d := by simp [State.keyGoesOff, ha, hst]
    obtain ⟨hadded, hsilent, hjunct, htold, hframe⟩ := lost_entered (s.keyTo x false) x d hquiet
    refine ⟨_, hexec, by rw [hkey]; rfl, ?_⟩
    rw [if_neg hst, hkey]
    exact ⟨rfl, by cases x <;> rfl, hadded, hsilent, hjunct, htold,
      congrArg (fun u : State => { u with lines := s.lines }) hframe⟩

end Sys2Proof.Proofs
end

section
/-! The emergency-stop lines outside a claim with claimant fields (R58, R59, R61, R66). -/

namespace Sys2Proof.Proofs

open Sys2Proof Sys2Proof.Machine

theorem noticesFor_emergencyIf (a : Auth) (b : Bool) : noticesFor a (kindIf b .emergencyChanged) = fun _ => kindIf b .emergencyChanged := by
  funext p
  rw [noticesFor_kindIf, toldIf_emergencyChanged]

/-- What a pressed stop leaves, on the line as pressed. -/
theorem emstop_pressed (s : State) (c : Cab) (hquiet : s.raised = 0) :
    let t := ((s.emstopTo c true).addSource (.emstop c)).deliver
    sourceAdded s t (.emstop c) ∧ Notified s t (fun _ => if s.shaper.sources = 0 then only .emergencyChanged else 0) ∧
      { t with ports := s.ports, lines := s.lines, shaper := s.shaper, sound := s.sound } = s := by
  refine ⟨sourceAdded_addSource (s.emstopTo c true) _, fun p => ?_, ?_⟩
  · have hraised : ((s.emstopTo c true).addSource (.emstop c)).raised =
        kindIf (decide (s.shaper.sources = 0)) .emergencyChanged := by
      have hnone : (s.emstopTo c true).raised = 0#20 := hquiet
      rw [addSource_raised, hnone, BitVec.zero_or]
      rfl
    rw [deliver_notified (u := (s.emstopTo c true).addSource (.emstop c)) (s := s) rfl p, hraised, noticesFor_emergencyIf]
    simp [kindIf]
  · simpa using with_raised_none hquiet

/-- What a released stop leaves at standstill when its source is in the set. -/
theorem emstop_released {s : State} {c : Cab} (hquiet : s.raised = 0) (hhas : s.shaper.has (.emstop c) = true) :
    let t := ((s.emstopTo c false).removeSource (.emstop c)).deliver
    sourceRemoved s t (.emstop c) ∧ Notified s t (fun _ => if t.shaper.sources = 0 then only .emergencyChanged else 0) ∧
      { t with ports := s.ports, lines := s.lines, shaper := s.shaper, sound := s.sound } = s := by
  refine ⟨sourceRemoved_removeSource (s := s.emstopTo c false) hhas, fun p => ?_, ?_⟩
  · have hraised := removeSource_raised_of_has (s := s.emstopTo c false) hhas hquiet
    rw [deliver_notified (u := (s.emstopTo c false).removeSource (.emstop c)) (s := s) rfl p, hraised,
      noticesFor_emergencyChanged]
    rfl
  · simpa using with_raised_none hquiet

/-- A released stop without its source, or in motion, changes its line alone. -/
theorem testEmstop_idle {s : State} {c : Cab} (h : s.wheel.stationary = false ∨ s.shaper.has (.emstop c) = false) :
    (s.emstopTo c false).testEmstop c = s.emstopTo c false := by
  rcases h with hst | hhas
  · simp [State.testEmstop, State.removeSourceIf, hst]
  · have habsent : (s.emstopTo c false).removeSource (.emstop c) = s.emstopTo c false := State.removeSource_absent hhas
    simp [State.testEmstop, State.removeSourceIf, habsent]

theorem emstopLevel_released (l : Lines) (c : Cab) : emstopLevel (setEmstop l c false) c = false := by
  cases c <;> simp [emstopLevel, setEmstop]

/-- A released stop whose source is in the set loses it at standstill. -/
theorem testEmstop_removes {s : State} {c : Cab} (hst : s.wheel.stationary = true) :
    (s.emstopTo c false).testEmstop c = (s.emstopTo c false).removeSource (.emstop c) := by
  have hlevel : emstopLevel (s.emstopTo c false).lines c = false := emstopLevel_released s.lines c
  simp [State.testEmstop, State.removeSourceIf, hlevel, hst]

/-- Settles O25: outside a claim with claimant fields the check does nothing, so that a line's event is the source added or
removed. -/
theorem emergencyStopLines : Obligations.EmergencyStopLines := by
  refine ⟨fun s c hrun hclaim => ?press, fun s c hrun hclaim => ⟨fun hidle => ?idle, fun hst hhas => ?release⟩⟩
  case press =>
    obtain ⟨hadded, htold, hframe⟩ := emstop_pressed s c hrun.2
    have hcheck : ((s.emstopTo c true).addSource (.emstop c)).syncCheck = (s.emstopTo c true).addSource (.emstop c) :=
      syncCheck_of_no_claimant hclaim
    refine ⟨_, ?_, rfl, hadded, htold, hframe⟩
    exact congrArg Host.Outcome.next ((State.lineEvent_of hrun.1).trans (congrArg State.deliver hcheck))
  case idle =>
    have hcheck : ((s.emstopTo c false).testEmstop c).syncCheck = s.emstopTo c false := by
      rw [testEmstop_idle hidle]
      exact syncCheck_of_no_claimant (s := s.emstopTo c false) hclaim
    have hevent := lineEvent_quiet (l := State.emstopTo c false) (f := fun s => ((s.emstopTo c false).testEmstop c).syncCheck)
      hrun (by rw [hcheck]; rfl)
    exact congrArg Host.Outcome.next (hevent.trans hcheck)
  case release =>
    obtain ⟨hremoved, htold, hframe⟩ := emstop_released (c := c) hrun.2 hhas
    have hcheck : ((s.emstopTo c false).testEmstop c).syncCheck = (s.emstopTo c false).removeSource (.emstop c) := by
      rw [testEmstop_removes hst]
      exact syncCheck_of_no_claimant hclaim
    refine ⟨_, ?_, rfl, hremoved, htold, hframe⟩
    exact congrArg Host.Outcome.next ((State.lineEvent_of hrun.1).trans (congrArg State.deliver hcheck))

end Sys2Proof.Proofs
end

/-! ## Proofs: wheel sensing, speed and distance (02) -/

section
/-! SUPPORT. What a window end leaves of WHEEL, stage by stage (R21 to R29). -/

namespace Sys2Proof.Proofs

open Sys2Proof Sys2Proof.Machine

section
variable (r other : SensorRec)

@[simp] theorem health_count : (r.health other).count = r.count := by
  unfold SensorRec.health
  split_ifs <;> rfl

@[simp] theorem health_speed : (r.health other).speed = r.speed := by
  unfold SensorRec.health
  split_ifs <;> rfl

theorem apart_eq (a b : Nat) : apart a b = max a b - min a b := by
  unfold apart
  omega

/-- A FAILED sensor is judged by its recovery run (R25). -/
theorem health_failed (h : r.failed = true) :
    ((r.health other).failed, (r.health other).recoverRun) = judgedFailed r.count r.recoverRun r.speed other.speed := by
  unfold SensorRec.health judgedFailed
  simp only [h, if_true, apart_eq, ge_iff_le]
  split_ifs <;> simp

/-- A sensor that is OK beside an OK partner is judged by its failure run (R24). -/
theorem health_ok (h : r.failed = false) (ho : other.failed = false) :
    ((r.health other).failed, (r.health other).failRun) = judgedOk r.count r.failRun other.speed := by
  unfold SensorRec.health judgedOk
  simp only [h, ho, Bool.false_eq_true, if_false, ge_iff_le]
  split_ifs <;> simp

/-- A sensor that is OK beside a FAILED partner stays so (R24). -/
theorem health_ok_beside_failed (h : r.failed = false) (ho : other.failed = true) :
    (r.health other).failed = false ∧ (r.health other).failRun = 0 := by
  unfold SensorRec.health
  simp [h, ho]

end

section
variable (w : WheelRec) (now c : Nat) (o : Int) (tuSlip : Bool)

/-- The record as the sensors have been judged (stages 1 to 3). -/
def judgedWheel : WheelRec := ((w.stage1 c).stage2).stage3 o

/-- Stage 4 changes the adhesion record alone. -/
theorem stage4_frame :
    w.stage4 now o tuSlip = { w with
      adhesion := (w.stage4 now o tuSlip).adhesion, disagree := (w.stage4 now o tuSlip).disagree
      agree := (w.stage4 now o tuSlip).agree, runOn := (w.stage4 now o tuSlip).runOn } := by
  unfold WheelRec.stage4 WheelRec.adhesionState WheelRec.adhesionRuns
  split <;> split_ifs <;> rfl

/-- A window end beyond the adhesion record: the sensors as judged with their counts restarted, the reference speed, STATIONARY
and what it clears. -/
theorem windowEnd_eq :
    w.windowEnd now c o tuSlip =
      let j := judgedWheel w c o
      let a := j.stage4 now o tuSlip
      { w with
        s1 := { j.s1 with count := 0 }, s2 := { j.s2 with count := 0 }, v := j.v
        adhesion := a.adhesion, disagree := a.disagree, agree := a.agree, runOn := a.runOn
        emptyRun := w.nextEmptyRun, stationary := w.nextStationary
        reverse := if w.nextStationary && !w.stationary then 0 else w.reverse
        rollback := if w.nextStationary && !w.stationary then false else w.rollback
        windowAt := now } := by
  have hframe := stage4_frame (judgedWheel w c o) now o tuSlip
  have hs1 : ((judgedWheel w c o).stage4 now o tuSlip).s1 = (judgedWheel w c o).s1 := (congrArg WheelRec.s1 hframe :)
  have hs2 : ((judgedWheel w c o).stage4 now o tuSlip).s2 = (judgedWheel w c o).s2 := (congrArg WheelRec.s2 hframe :)
  have hrun : ((judgedWheel w c o).stage4 now o tuSlip).emptyRun = w.emptyRun := (congrArg WheelRec.emptyRun hframe :)
  have hst : ((judgedWheel w c o).stage4 now o tuSlip).stationary = w.stationary := (congrArg WheelRec.stationary hframe :)
  have hcount1 : (judgedWheel w c o).s1.count = w.s1.count := health_count _ _
  have hcount2 : (judgedWheel w c o).s2.count = w.s2.count := health_count _ _
  have hempty : ((judgedWheel w c o).stage4 now o tuSlip).nextEmptyRun = w.nextEmptyRun := by
    simp only [WheelRec.nextEmptyRun, hs1, hs2, hrun, hcount1, hcount2]
  have hnext : ((judgedWheel w c o).stage4 now o tuSlip).nextStationary = w.nextStationary := by
    simp only [WheelRec.nextStationary, hempty, hs1, hs2, hst, hcount1, hcount2]
  have hv : ((judgedWheel w c o).stage4 now o tuSlip).v = (judgedWheel w c o).v := (congrArg WheelRec.v hframe :)
  have hodo : ((judgedWheel w c o).stage4 now o tuSlip).odometer = w.odometer := (congrArg WheelRec.odometer hframe :)
  have hrem : ((judgedWheel w c o).stage4 now o tuSlip).remainder = w.remainder := (congrArg WheelRec.remainder hframe :)
  have hrev : ((judgedWheel w c o).stage4 now o tuSlip).reverse = w.reverse := (congrArg WheelRec.reverse hframe :)
  have hroll : ((judgedWheel w c o).stage4 now o tuSlip).rollback = w.rollback := (congrArg WheelRec.rollback hframe :)
  have hwend : w.windowEnd now c o tuSlip = (((judgedWheel w c o).stage4 now o tuSlip).stage5).stage6 now := rfl
  rw [hwend]
  simp only [WheelRec.stage6, WheelRec.stage5, hempty, hnext, hs1, hs2, hv, hst, hodo, hrem, hrev, hroll]

/-- The adhesion record after a window end (R26, R28), from the speeds and statuses as judged. -/
theorem stage4_adhesion :
    let differs := w.s1.failed = false ∧ w.s2.failed = false ∧ 30 < apart w.s1.speed w.s2.speed ∧
      max w.s1.speed w.s2.speed < apart w.s1.speed w.s2.speed * 5
    let dis := if differs then min 4 (w.disagree + 1) else 0
    let agr := if differs then 0 else min 2 (w.agree + 1)
    let a := w.stage4 now o tuSlip
    (w.adhesion = .normal → (a.adhesion, a.disagree, a.agree, a.runOn) =
      if dis = 4 then if 0 < o then (.slip, 0, 0, none) else (.slide, 0, 0, w.runOn) else (.normal, dis, agr, w.runOn)) ∧
    (w.adhesion = .slip → (a.adhesion, a.disagree, a.agree, a.runOn) =
      if agr = 2 ∧ tuSlip = false then (.normal, 0, 0, some (now + 2000)) else (.slip, dis, agr, w.runOn)) ∧
    (w.adhesion = .slide → (a.adhesion, a.disagree, a.agree, a.runOn) =
      if agr = 2 ∧ tuSlip = false then (.normal, 0, 0, w.runOn) else (.slide, dis, agr, w.runOn)) := by
  intro differs dis agr a
  have hiff : w.disagrees = true ↔ differs := by simp [WheelRec.disagrees, differs, and_assoc]
  have hruns : w.adhesionRuns = { w with disagree := dis, agree := agr } := by
    unfold WheelRec.adhesionRuns
    by_cases h : differs
    · simp [hiff.mpr h, dis, agr, h]
    · have hno : w.disagrees = false := Bool.eq_false_iff.mpr fun e => h (hiff.mp e)
      simp [hno, dis, agr, h]
  have ha : a = { w with disagree := dis, agree := agr }.adhesionState now o tuSlip := congrArg (fun x => WheelRec.adhesionState x now o tuSlip) hruns
  refine ⟨fun hs => ?_, fun hs => ?_, fun hs => ?_⟩ <;> rw [ha] <;> simp only [WheelRec.adhesionState, hs]
  · by_cases hd : dis = 4
    · by_cases ho : 0 < o <;> simp [hd, ho]
    · simp [hd]
  · by_cases hd : agr = 2 ∧ tuSlip = false
    · simp [hd]
    · simp [hd]
  · by_cases hd : agr = 2 ∧ tuSlip = false
    · simp [hd]
    · simp [hd]

end

end Sys2Proof.Proofs
end

section
/-! SUPPORT. What the window end that sets STATIONARY brings to the other blocks (R14, R39, R68, R83, R137). -/

namespace Sys2Proof.Proofs

open Sys2Proof Sys2Proof.Machine

/-- A request withdrawn twice is withdrawn once. -/
theorem channelAsked_false_again {a b d : SoundRec} {now now' : Nat} {c : Sounder} (h : channelAsked a b now c false)
    (h' : channelAsked b d now' c false) : channelAsked a d now c false := by
  have hkept : channelKept b (b.want now' c false) c := channelKept_want_false h
  exact channelAsked_then_kept h ⟨h'.2.1.trans hkept.1, h'.2.2.trans hkept.2⟩

/-! ### The sources -/

/-- The sources that standstill ends of themselves (R68). -/
def standMask (v : State) : BitVec 8 :=
  sourceIf v.shaper.leverBack .lever ||| sourceIf (!v.lines.emstopA) .emstopA ||| sourceIf (!v.lines.emstopB) .emstopB |||
    sourceIf v.tlink.brk.answering .brakeLink ||| sourceIf v.outbank.linkUp .loopDropped

/-- The sources that go as LOST ends (R14, R60). -/
def lostMask (lost : Bool) : BitVec 8 := sourceIf lost .lever ||| sourceIf lost .authLost

theorem sourceIf_no_loop {b : Bool} {k : EmSource} (h : k ≠ .loopDropped) :
    hasFlag (sourceIf b k) EmSource.loopDropped.idx = false := by
  cases b
  · simp [sourceIf]
  · revert h
    cases k <;> decide

/-- The two sets together are those of the statements. -/
theorem standMask_or_lostMask (v : State) : standMask v ||| lostMask v.auth.isLost = endAtRest v := by
  have hall : ∀ a b c d e l : Bool,
      (sourceIf a .lever ||| sourceIf b .emstopA ||| sourceIf c .emstopB ||| sourceIf d .brakeLink ||| sourceIf e .loopDropped) |||
        lostMask l =
      (sourceIf (a || l) .lever ||| sourceIf b .emstopA ||| sourceIf c .emstopB ||| sourceIf d .brakeLink |||
        sourceIf e .loopDropped ||| sourceIf l .authLost) := by decide
  exact hall _ _ _ _ _ _

theorem testStandstill_eq {v : State} (hst : v.wheel.stationary = true) : v.testStandstill = shed (standMask v) v := by
  have hlast : v.outbank.linkUp = true ∨ hasFlag (sourceIf v.outbank.linkUp .loopDropped) EmSource.loopDropped.idx = false := by
    cases v.outbank.linkUp with
    | true => exact .inl rfl
    | false => exact .inr rfl
  simp only [State.testStandstill, State.testLever, State.testEmstop, State.testBrakeLink, State.testLoopDropped,
    removeSourceIf_eq_shed, shed_wheel, shed_lines, shed_tlink, shed_outbank, hst, Bool.true_and, EmSource.emstop, emstopLevel]
  rw [shed_shed v (.inr (sourceIf_no_loop (by simp))), shed_shed v (.inr (sourceIf_no_loop (by simp))),
    shed_shed v (.inr (sourceIf_no_loop (by simp))), shed_shed v hlast]
  rfl

/-! ### The blocks, one after the other -/

/-- VIGIL at a window end that sets STATIONARY. -/
theorem vigilStands_vigil (v : State) :
    v.vigilStands.vigil = if v.vigil.state.watching then { v.vigil.rest with buzzer := false } else v.vigil := by
  unfold State.vigilStands
  split <;> rfl

theorem vigilStands_sound (v : State) :
    v.vigilStands.sound = if v.vigil.state.watching then v.sound.refreshBuzzer v.now v.auth false else v.sound := by
  unfold State.vigilStands
  split <;> rfl

theorem vigilStands_raised (v : State) : v.vigilStands.raised = v.raised := by
  unfold State.vigilStands
  split <;> rfl

theorem vigilStands_eq (v : State) : v.vigilStands = { v with vigil := v.vigilStands.vigil, sound := v.vigilStands.sound } := by
  unfold State.vigilStands
  split <;> rfl

theorem testSectionEnd_stop (v : State) :
    v.testSectionEnd.stop = if v.stop.sect = .running ∧ v.lines.dcl = false then sectionEnded v v.now else v.stop := by
  unfold State.testSectionEnd
  split
  · exact sectionEnd_stop v
  · rfl

/-- Whether the section ends with a request to report (R137). -/
def sectionTold (v : State) : Bool :=
  decide (v.stop.sect = .running ∧ v.lines.dcl = false) && v.stop.record.first.isSome

theorem testSectionEnd_raised (v : State) : v.testSectionEnd.raised = v.raised ||| kindIf (sectionTold v) .stopChanged := by
  unfold State.testSectionEnd sectionTold
  split
  next h => rw [sectionEnd_raised, decide_eq_true h, Bool.true_and]
  next h => rw [decide_eq_false h, Bool.false_and, kindIf_false, BitVec.or_zero]

theorem testSectionEnd_eq (v : State) : v.testSectionEnd = { v with stop := v.testSectionEnd.stop, raised := v.testSectionEnd.raised } := by
  unfold State.testSectionEnd
  split <;> rfl

/-- The state at standstill before LOST ends: the sources that standstill ends gone, VIGIL at rest, a running section ended. -/
def restBegun (v : State) : State := (shed (standMask v) v.handleAtRest).vigilStands.testSectionEnd

theorem comesToRest_eq {v : State} (hst : v.wheel.stationary = true) : v.comesToRest = (restBegun v).endLost := by
  have h := testStandstill_eq (v := v.handleAtRest) hst
  unfold State.comesToRest
  rw [h]
  rfl

section
variable (v : State)

theorem restBegun_eq :
    restBegun v = { v with
      shaper := shedShaper v.outbank.linkUp (standMask v) v.handleAtRest.shaper
      stop := (restBegun v).stop, vigil := (restBegun v).vigil, sound := (restBegun v).sound, raised := (restBegun v).raised } := by
  unfold restBegun
  rw [testSectionEnd_eq, vigilStands_eq]
  rfl

theorem restBegun_stop :
    (restBegun v).stop = if v.stop.sect = .running ∧ v.lines.dcl = false then sectionEnded v v.now else v.stop := by
  unfold restBegun
  rw [testSectionEnd_stop, vigilStands_eq]
  rfl

theorem restBegun_vigil :
    (restBegun v).vigil = if v.vigil.state.watching then { v.vigil.rest with buzzer := false } else v.vigil := by
  unfold restBegun
  rw [testSectionEnd_eq]
  exact vigilStands_vigil _

theorem restBegun_sound :
    (restBegun v).sound =
      if v.vigil.state.watching then (shed (standMask v) v.handleAtRest).sound.refreshBuzzer v.now v.auth false
      else (shed (standMask v) v.handleAtRest).sound := by
  unfold restBegun
  rw [testSectionEnd_eq]
  exact vigilStands_sound _

theorem restBegun_raised :
    (restBegun v).raised =
      v.raised ||| kindIf (emptiedBy v.shaper (standMask v) && v.outbank.linkUp) .emergencyChanged |||
        kindIf (sectionTold v) .stopChanged := by
  unfold restBegun
  rw [testSectionEnd_raised, vigilStands_raised, shed_raised]
  have htold : sectionTold (shed (standMask v) v.handleAtRest).vigilStands = sectionTold v := by rw [vigilStands_eq]; rfl
  rw [htold]
  rfl

theorem restBegun_soundKept : soundKept v.sound (restBegun v).sound [.buzzA, .buzzB, .hazard] := by
  have hshed := shed_soundKept (standMask v) v.handleAtRest
  rw [restBegun_sound]
  split
  · exact soundKept_mono (soundKept_append hshed (refreshBuzzer_soundKept _ _ _ _)) (by simp)
  · exact soundKept_mono hshed (by simp)

theorem restBegun_buzzers (e : Cab) :
    if v.vigil.state.watching = true then channelAsked v.sound (restBegun v).sound v.now (buzzOf e) false
    else channelKept v.sound (restBegun v).sound (buzzOf e) := by
  have hshed := shed_soundKept (standMask v) v.handleAtRest
  have hother : buzzOf e ∉ [Sounder.hazard] := by cases e <;> decide
  rw [restBegun_sound]
  split
  · have hasked := refreshBuzzer_channelAsked (shed (standMask v) v.handleAtRest).sound v.now v.auth false e
    rw [Bool.false_and] at hasked
    exact channelAsked_of_soundKept hshed hother hasked
  · exact hshed.1 _ hother

theorem restBegun_hazard :
    if (emptiedBy v.shaper (standMask v) && v.outbank.linkUp) = true then channelAsked v.sound (restBegun v).sound v.now .hazard false
    else channelKept v.sound (restBegun v).sound .hazard := by
  have hshed := shed_hazard (standMask v) v.handleAtRest
  have hkept : channelKept (shed (standMask v) v.handleAtRest).sound (restBegun v).sound .hazard := by
    rw [restBegun_sound]
    split
    · exact (refreshBuzzer_soundKept _ _ _ _).1 _ (by decide)
    · exact channelKept_refl _ _
  have hsame : (emptiedBy v.handleAtRest.shaper (standMask v) && v.handleAtRest.outbank.linkUp) =
      (emptiedBy v.shaper (standMask v) && v.outbank.linkUp) := rfl
  rw [hsame] at hshed
  split at hshed
  next h =>
    rw [if_pos h]
    exact channelAsked_then_kept hshed hkept
  next h =>
    rw [if_neg h]
    exact channelKept_trans hshed hkept

end

end Sys2Proof.Proofs
end

section
/-! SUPPORT. The whole of the window end that sets STATIONARY, in LOST and outside it (R14, R68). -/

namespace Sys2Proof.Proofs

open Sys2Proof Sys2Proof.Machine

/-- A removal of several sources in the terms of the statements. -/
theorem shedShaper_cases (up : Bool) (m : BitVec 8) (sh : ShaperRec) :
    let rest := sh.sources &&& ~~~m
    let empties := sh.sources ≠ 0 ∧ rest = 0 ∧ up = true
    shedShaper up m sh = { sh with
      sources := if sh.sources ≠ 0 ∧ rest = 0 ∧ up = false then addFlag 0 EmSource.loopDropped.idx else rest
      zeroPass := if empties then false else sh.zeroPass
      oPrev := if empties then -1000 else sh.oPrev } := by
  cases up <;> simp [shedShaper, emptiedBy]

theorem emptiedBy_and_iff (up : Bool) (m : BitVec 8) (sh : ShaperRec) :
    (emptiedBy sh m && up) = true ↔ sh.sources ≠ 0 ∧ sh.sources &&& ~~~m = 0 ∧ up = true := by
  simp [emptiedBy, and_assoc]

/-- Leaving HELD or LOST and losing sources are changes of different fields, but for zero-pass, which both disarm. -/
theorem leaveHeld_shedShaper (up : Bool) (m : BitVec 8) (sh : ShaperRec) :
    (shedShaper up m sh).leaveHeld = shedShaper up m sh.leaveHeld := by
  have hz : (shedShaper up m sh.leaveHeld).zeroPass = false := ite_self false
  calc (shedShaper up m sh).leaveHeld = { shedShaper up m sh.leaveHeld with zeroPass := false } := rfl
    _ = shedShaper up m sh.leaveHeld := by rw [← hz]

theorem leaveHeld_handleAtRest (v : State) : v.handleAtRest.shaper.leaveHeld = v.shaper.leaveHeld := rfl

theorem kindIf_or (a b : Bool) (k : Notice) : kindIf (a || b) k = kindIf a k ||| kindIf b k := by
  cases a <;> cases b <;> simp

/-! ### Outside LOST -/

section
variable {v : State} (hst : v.wheel.stationary = true) (hlost : v.auth.isLost = false)
include hlost

theorem endAtRest_of_not_lost : endAtRest v = standMask v := by
  rw [← standMask_or_lostMask, hlost]
  exact BitVec.or_zero

theorem endLost_of_not_lost {w : State} (hw : w.auth = v.auth) : w.endLost = w := by
  unfold State.endLost
  split
  next h =>
    rw [← hw, h] at hlost
    exact absurd hlost (by simp [Auth.isLost])
  next => rfl

include hst

theorem comesToRest_of_not_lost : v.comesToRest = restBegun v := by
  rw [comesToRest_eq hst]
  exact endLost_of_not_lost hlost (by rw [restBegun_eq])

/-- A handle released at rest and an emptied set both disarm zero-pass (R39, R59). -/
theorem comesToRest_shaper_of_not_lost :
    v.comesToRest.shaper =
      let released := (v.shaper.demand.map DemandBody.handle) = some false
      let rest := v.shaper.sources &&& ~~~(endAtRest v)
      let empties := v.shaper.sources ≠ 0 ∧ rest = 0 ∧ v.outbank.linkUp = true
      { v.shaper with
        zeroPass := if released ∨ empties then false else v.shaper.zeroPass
        oPrev := if empties then -1000 else v.shaper.oPrev
        sources := if v.shaper.sources ≠ 0 ∧ rest = 0 ∧ v.outbank.linkUp = false then addFlag 0 EmSource.loopDropped.idx
          else rest } := by
  have hreleased : v.handleAtRest.shaper.zeroPass =
      if (v.shaper.demand.map DemandBody.handle) = some false then false else v.shaper.zeroPass := by
    cases hd : v.shaper.demand with
    | none => simp [State.handleAtRest, hd]
    | some d => cases hh : d.handle <;> simp [State.handleAtRest, hd, hh]
  rw [comesToRest_of_not_lost hst hlost, restBegun_eq, endAtRest_of_not_lost hlost]
  dsimp only
  rw [shedShaper_cases, hreleased]
  by_cases h : (v.shaper.demand.map DemandBody.handle) = some false
  · simp only [h, if_true, ite_self, true_or]
    rfl
  · simp only [h, if_false, false_or]
    rfl

end

/-! ### LOST -/

section
variable {v : State} (hst : v.wheel.stationary = true) (hlost : v.auth.isLost = true)
include hlost

theorem endLost_of_lost {w : State} (hw : w.auth = v.auth) (hwst : w.wheel.stationary = true) :
    w.endLost = shed (lostMask true) (vacantBegun w) := by
  have hmask : hasFlag (sourceIf true .authLost) EmSource.loopDropped.idx = false := sourceIf_no_loop (by simp)
  have hsheds : w.enterVacant.removeSource .authLost = shed (lostMask true) (vacantBegun w) := by
    rw [enterVacant_eq, hwst, removeSource_eq_shed]
    exact shed_shed (vacantBegun w) (.inr hmask)
  unfold State.endLost
  rw [hw]
  cases ha : v.auth with
  | lost x d => exact hsheds
  | vacant => simp [ha, Auth.isLost] at hlost
  | claiming x start c => simp [ha, Auth.isLost] at hlost
  | held x d => simp [ha, Auth.isLost] at hlost

include hst

theorem comesToRest_of_lost : v.comesToRest = shed (lostMask true) (vacantBegun (restBegun v)) := by
  rw [comesToRest_eq hst]
  exact endLost_of_lost hlost (by rw [restBegun_eq]) (by rw [restBegun_eq]; exact hst)

theorem comesToRest_shaper_of_lost :
    v.comesToRest.shaper = shedShaper v.outbank.linkUp (endAtRest v) v.shaper.leaveHeld := by
  have hflag : hasFlag (lostMask true) EmSource.loopDropped.idx = false := by decide
  have hbegun : (vacantBegun (restBegun v)).shaper = (shedShaper v.outbank.linkUp (standMask v) v.handleAtRest.shaper).leaveHeld := by
    rw [restBegun_eq]
    rfl
  have hup : (vacantBegun (restBegun v)).outbank.linkUp = v.outbank.linkUp := by
    rw [restBegun_eq]
    rfl
  have hsheds : v.comesToRest.shaper =
      shedShaper (vacantBegun (restBegun v)).outbank.linkUp (lostMask true) (vacantBegun (restBegun v)).shaper := by
    rw [comesToRest_of_lost hst hlost]
    rfl
  rw [hsheds, hup, hbegun, leaveHeld_shedShaper, shedShaper_shedShaper _ _ (.inr hflag), leaveHeld_handleAtRest,
    ← standMask_or_lostMask, hlost]

end

/-! ### Both -/

theorem watching_iff (s : VigilState) : s.watching = true ↔ s = .watch ∨ s = .warn := by
  cases s <;> simp [VigilState.watching]

section
variable {v : State} (hst : v.wheel.stationary = true)
include hst

theorem comesToRest_auth : v.comesToRest.auth = if v.auth.isLost then .vacant else v.auth := by
  cases hlost : v.auth.isLost with
  | false =>
    rw [comesToRest_of_not_lost hst hlost, restBegun_eq]
    rfl
  | true =>
    rw [comesToRest_of_lost hst hlost]
    rfl

/-- SHAPER as the statements say it. -/
theorem comesToRest_shaper :
    let lost := v.auth.isLost
    let released := (v.shaper.demand.map DemandBody.handle) = some false
    let rest := v.shaper.sources &&& ~~~(endAtRest v)
    let empties := v.shaper.sources ≠ 0 ∧ rest = 0 ∧ v.outbank.linkUp = true
    v.comesToRest.shaper = { v.shaper with
      demand := if lost then none else v.shaper.demand
      stage := if lost then .coasting else v.shaper.stage
      zeroPass := if released ∨ empties ∨ lost = true then false else v.shaper.zeroPass
      oPrev := if empties then -1000 else v.shaper.oPrev
      sources := if v.shaper.sources ≠ 0 ∧ rest = 0 ∧ v.outbank.linkUp = false then addFlag 0 EmSource.loopDropped.idx else rest } := by
  intro lost released rest empties
  cases hlost : v.auth.isLost with
  | false =>
    have hno : lost = false := hlost
    rw [comesToRest_shaper_of_not_lost hst hlost]
    simp only [hno, Bool.false_eq_true, if_false, or_false]
    rfl
  | true =>
    have hyes : lost = true := hlost
    have hdisarmed : (if empties then false else v.shaper.leaveHeld.zeroPass) = false := ite_self false
    have hcases : v.comesToRest.shaper = { v.shaper.leaveHeld with
        sources := if v.shaper.sources ≠ 0 ∧ rest = 0 ∧ v.outbank.linkUp = false then addFlag 0 EmSource.loopDropped.idx
          else rest
        zeroPass := if empties then false else v.shaper.leaveHeld.zeroPass
        oPrev := if empties then -1000 else v.shaper.oPrev } := by
      rw [comesToRest_shaper_of_lost hst hlost]
      exact shedShaper_cases _ _ _
    rw [hcases, hdisarmed]
    simp only [hyes, if_true, or_true]
    rfl

theorem comesToRest_stop :
    v.comesToRest.stop = if v.stop.sect = .running ∧ v.lines.dcl = false then sectionEnded v v.now else v.stop := by
  cases hlost : v.auth.isLost with
  | false => rw [comesToRest_of_not_lost hst hlost, restBegun_stop]
  | true =>
    rw [comesToRest_of_lost hst hlost]
    exact restBegun_stop v

theorem comesToRest_junct : v.comesToRest.junct = if v.auth.isLost then junctCancelled v else v.junct := by
  cases hlost : v.auth.isLost with
  | false =>
    rw [comesToRest_of_not_lost hst hlost, restBegun_eq]
    rfl
  | true =>
    rw [comesToRest_of_lost hst hlost]
    have hjunct := vacantBegun_junct (restBegun v)
    rw [show junctCancelled (restBegun v) = junctCancelled v by rw [restBegun_eq]; rfl] at hjunct
    exact hjunct

theorem comesToRest_vigil :
    let idled : VigilRec := { v.vigil with state := .idle, lastActivity := none, warnStart := none, releaseTime := none, buzzer := false }
    v.comesToRest.vigil =
      (if v.auth.isLost then
        if v.vigil.state = .penalty then { v.vigil with handle := true, buzzer := v.vigil.wantsBuzzer }
        else { idled with handle := true }
      else if v.vigil.state = .watch ∨ v.vigil.state = .warn then idled
      else v.vigil) := by
  intro idled
  have hw := watching_iff v.vigil.state
  have hrest := restBegun_vigil v
  cases hlost : v.auth.isLost with
  | false =>
    rw [comesToRest_of_not_lost hst hlost, hrest, if_neg Bool.false_ne_true]
    exact if_congr hw rfl rfl
  | true =>
    have hvacant : v.comesToRest.vigil = (vacantBegun (restBegun v)).vigil := by
      rw [comesToRest_of_lost hst hlost]
      rfl
    rw [hvacant, vacantBegun_vigil, hrest]
    cases hs : v.vigil.state <;> simp [VigilState.watching, VigilRec.rest, hs, idled]

/-! ### SOUND -/

theorem comesToRest_soundKept :
    soundKept v.sound v.comesToRest.sound [.hornA, .hornB, .bellA, .bellB, .buzzA, .buzzB, .hazard] := by
  have hrest := restBegun_soundKept v
  cases hlost : v.auth.isLost with
  | false =>
    rw [comesToRest_of_not_lost hst hlost]
    exact soundKept_mono hrest (by simp)
  | true =>
    rw [comesToRest_of_lost hst hlost]
    have hvacant := soundKept_append hrest (vacantBegun_soundKept (restBegun v))
    exact soundKept_mono (soundKept_append hvacant (shed_soundKept (lostMask true) _)) (by simp [cabChannels])

theorem comesToRest_hornBell {c : Sounder} (hc : c ∈ hornBellChannels) :
    if v.auth.isLost then
      v.comesToRest.sound.req c = .notPlaced ∧
        v.comesToRest.sound.slot c = (v.sound.slot c).filter fun i => decide (3 ≤ i.pattern.val)
    else channelKept v.sound v.comesToRest.sound c := by
  have hother : c ∉ [Sounder.buzzA, .buzzB, .hazard] := by
    revert hc
    cases c <;> decide
  have hrest := (restBegun_soundKept v).1 c hother
  cases hlost : v.auth.isLost with
  | false =>
    rw [comesToRest_of_not_lost hst hlost]
    exact hrest
  | true =>
    rw [comesToRest_of_lost hst hlost]
    have hhazard : c ∉ [Sounder.hazard] := fun h => hother (by simpa using Or.inr (Or.inr (List.mem_singleton.mp h)))
    obtain ⟨hslot, hreq⟩ := (shed_soundKept (lostMask true) (vacantBegun (restBegun v))).1 c hhazard
    obtain ⟨hr, hs⟩ := vacantBegun_hornBell (restBegun v) hc
    rw [hrest.1] at hs
    exact ⟨hreq.trans hr, hslot.trans hs⟩

theorem comesToRest_buzzers {c : Sounder} (hc : c ∈ [Sounder.buzzA, .buzzB]) :
    if v.auth.isLost = true ∨ v.vigil.state = .watch ∨ v.vigil.state = .warn then
      channelAsked v.sound v.comesToRest.sound v.now c false
    else channelKept v.sound v.comesToRest.sound c := by
  obtain ⟨e, rfl⟩ : ∃ e, c = buzzOf e := by
    rcases List.mem_cons.mp hc with rfl | hc
    · exact ⟨.A, rfl⟩
    · exact ⟨.B, by simpa [buzzOf] using hc⟩
  have hrest := restBegun_buzzers v e
  rw [if_congr (watching_iff v.vigil.state) rfl rfl] at hrest
  cases hlost : v.auth.isLost with
  | false =>
    rw [comesToRest_of_not_lost hst hlost]
    simpa using hrest
  | true =>
    rw [if_pos (.inl rfl), comesToRest_of_lost hst hlost]
    have hother : buzzOf e ∉ [Sounder.hazard] := by cases e <;> decide
    have hvacant := vacantBegun_buzzers (restBegun v) hc
    have hnow : (restBegun v).now = v.now := by rw [restBegun_eq]
    rw [hnow] at hvacant
    refine channelAsked_then_kept ?_ ((shed_soundKept (lostMask true) _).1 _ hother)
    split at hrest
    · exact channelAsked_false_again hrest hvacant
    · exact channelAsked_of_kept (soundKept_patterns (restBegun_soundKept v)) hrest hvacant

omit hst in
/-- The set is emptied for good exactly when one of the two removals does it. -/
theorem comesToRest_emptied (hlost : v.auth.isLost = true) :
    (emptiedBy v.shaper (endAtRest v) && v.outbank.linkUp) =
      (emptiedBy v.shaper (standMask v) && v.outbank.linkUp ||
        emptiedBy (vacantBegun (restBegun v)).shaper (lostMask true) && (vacantBegun (restBegun v)).outbank.linkUp) := by
  have hflag : hasFlag (lostMask true) EmSource.loopDropped.idx = false := by decide
  have hbegun : (vacantBegun (restBegun v)).shaper.sources = (shedShaper v.outbank.linkUp (standMask v) v.shaper).sources := by
    rw [restBegun_eq]
    rfl
  have hup : (vacantBegun (restBegun v)).outbank.linkUp = v.outbank.linkUp := by
    rw [restBegun_eq]
    rfl
  have hsame : emptiedBy (vacantBegun (restBegun v)).shaper (lostMask true) =
      emptiedBy (shedShaper v.outbank.linkUp (standMask v) v.shaper) (lostMask true) := by
    simp only [emptiedBy, hbegun]
  rw [hup, hsame, ← standMask_or_lostMask, hlost]
  exact emptiedBy_or v.outbank.linkUp v.shaper (.inr hflag)

theorem comesToRest_hazard :
    if (emptiedBy v.shaper (endAtRest v) && v.outbank.linkUp) = true then
      channelAsked v.sound v.comesToRest.sound v.now .hazard false
    else channelKept v.sound v.comesToRest.sound .hazard := by
  have hrest := restBegun_hazard v
  cases hlost : v.auth.isLost with
  | false =>
    rw [comesToRest_of_not_lost hst hlost, endAtRest_of_not_lost hlost]
    exact hrest
  | true =>
    rw [comesToRest_of_lost hst hlost, comesToRest_emptied hlost]
    have hshed := shed_hazard (lostMask true) (vacantBegun (restBegun v))
    have hcab := (vacantBegun_soundKept (restBegun v)).1 .hazard (by decide)
    have hpat := soundKept_patterns (soundKept_append (restBegun_soundKept v) (vacantBegun_soundKept (restBegun v)))
    have hnow : (vacantBegun (restBegun v)).now = v.now := by
      rw [restBegun_eq]
      rfl
    rw [hnow] at hshed
    cases h1 : (emptiedBy v.shaper (standMask v) && v.outbank.linkUp) with
    | true =>
      rw [if_pos h1] at hrest
      have hasked := channelAsked_then_kept hrest hcab
      rw [Bool.true_or, if_pos rfl]
      split at hshed
      · exact channelAsked_false_again hasked hshed
      · exact channelAsked_then_kept hasked hshed
    | false =>
      rw [if_neg (by simp [h1])] at hrest
      have hkept := channelKept_trans hrest hcab
      rw [Bool.false_or]
      split
      next h2 =>
        rw [if_pos h2] at hshed
        exact channelAsked_of_kept hpat hkept hshed
      next h2 =>
        rw [if_neg h2] at hshed
        exact channelKept_trans hkept hshed

/-! ### The rest, and all of it -/

theorem comesToRest_frame :
    v.comesToRest = { v with
      auth := v.comesToRest.auth, shaper := v.comesToRest.shaper, vigil := v.comesToRest.vigil, sound := v.comesToRest.sound
      stop := v.comesToRest.stop, junct := v.comesToRest.junct, raised := v.comesToRest.raised } := by
  cases hlost : v.auth.isLost with
  | false =>
    rw [comesToRest_of_not_lost hst hlost]
    conv_lhs => rw [restBegun_eq]
    rw [restBegun_eq]
  | true =>
    rw [comesToRest_of_lost hst hlost, restBegun_eq]
    simp [shed, vacantBegun, State.vigilVacant]

theorem comesToRest_now : v.comesToRest.now = v.now := by rw [comesToRest_frame hst]

/-- What the window end that sets STATIONARY leaves is what the statements say of it. -/
theorem comesToRest_state : comesToRest v v.comesToRest := by
  have hhazard := comesToRest_hazard hst
  have hnow := comesToRest_now hst
  rw [if_congr (emptiedBy_and_iff _ _ _) rfl rfl] at hhazard
  refine ⟨comesToRest_auth hst, comesToRest_shaper hst, ?_, comesToRest_vigil hst, comesToRest_junct hst,
    fun c hc => comesToRest_hornBell hst hc, fun c hc => ?_, ?_, comesToRest_soundKept hst⟩
  · rw [hnow]
    exact comesToRest_stop hst
  · rw [hnow]
    exact comesToRest_buzzers hst hc
  · rw [hnow]
    exact hhazard

/-- The notices it raises. -/
theorem comesToRest_raised :
    v.comesToRest.raised =
      v.raised ||| kindIf (emptiedBy v.shaper (endAtRest v) && v.outbank.linkUp) .emergencyChanged |||
        kindIf (v.auth.isLost && v.comesToRest.vigil.buzzer && !v.vigil.buzzer) .vigilWarn |||
        kindIf (sectionTold v) .stopChanged ||| kindIf (v.auth.isLost && !v.junct.list.isEmpty) .junctionChanged |||
        kindIf v.auth.isLost .authChanged := by
  cases hlost : v.auth.isLost with
  | false =>
    rw [comesToRest_of_not_lost hst hlost, restBegun_raised, endAtRest_of_not_lost hlost]
    simp
  | true =>
    have hbuzzer : v.comesToRest.vigil.buzzer = (vacantBegun (restBegun v)).vigil.buzzer := by
      rw [comesToRest_of_lost hst hlost]
      rfl
    have hjunct : (restBegun v).junct = v.junct := by rw [restBegun_eq]
    rw [hbuzzer, comesToRest_of_lost hst hlost, shed_raised, vacantBegun_raised, restBegun_raised,
      comesToRest_emptied hlost, hjunct]
    have hwarn : ((vacantBegun (restBegun v)).vigil.buzzer && !(restBegun v).vigil.buzzer) =
        (true && (vacantBegun (restBegun v)).vigil.buzzer && !v.vigil.buzzer) := by
      rw [vacantBegun_vigil, restBegun_vigil]
      cases hs : v.vigil.state <;> simp [VigilState.watching, VigilRec.rest, hs]
    rw [hwarn]
    simp only [kindIf_or, Bool.true_and, kindIf_true]
    ac_rfl

end

end Sys2Proof.Proofs
end

section
/-! SUPPORT. The window end that clears STATIONARY, and the window end as a whole (R22, R55, R64, R83). -/

namespace Sys2Proof.Proofs

open Sys2Proof Sys2Proof.Machine

theorem addSourceIf_eq (s : State) (b : Bool) (k : EmSource) :
    s.addSourceIf b k = { s with
      shaper := (s.addSourceIf b k).shaper, sound := (s.addSourceIf b k).sound, raised := (s.addSourceIf b k).raised } := by
  cases b <;> rfl

theorem addSourceIf_shaper (s : State) (b : Bool) (k : EmSource) :
    (s.addSourceIf b k).shaper = { s.shaper with
      sources := if b = true then addFlag s.shaper.sources k.idx else s.shaper.sources
      o := if b = true ∧ s.shaper.sources = 0 then -1000 else s.shaper.o
      oPrev := if b = true ∧ s.shaper.sources = 0 then -1000 else s.shaper.oPrev } := by
  cases b with
  | false => simp [State.addSourceIf]
  | true => simp [State.addSourceIf, State.addSource, ShaperRec.addSource, calm_eq_decide]

theorem addSourceIf_raised (s : State) (b : Bool) (k : EmSource) :
    (s.addSourceIf b k).raised = s.raised ||| kindIf (b && decide (s.shaper.sources = 0)) .emergencyChanged := by
  cases b with
  | false => simp [State.addSourceIf]
  | true => exact addSource_raised s k

theorem addSourceIf_soundKept (s : State) (b : Bool) (k : EmSource) : soundKept s.sound (s.addSourceIf b k).sound [.hazard] := by
  cases b with
  | false => exact soundKept_refl _ _
  | true =>
    change soundKept s.sound (if s.shaper.calm then s.sound.place s.now .hazard else s.sound) _
    split
    · exact place_soundKept _ _ _
    · exact soundKept_refl _ _

theorem addSourceIf_hazard (s : State) (b : Bool) (k : EmSource) :
    if b = true ∧ s.shaper.sources = 0 then channelAsked s.sound (s.addSourceIf b k).sound s.now .hazard true
    else channelKept s.sound (s.addSourceIf b k).sound .hazard := by
  cases b with
  | false => simp [State.addSourceIf]
  | true =>
    by_cases h : s.shaper.sources = 0#8
    · rw [if_pos ⟨rfl, h⟩]
      have hplace : (s.addSourceIf true k).sound = s.sound.place s.now .hazard := by
        simp [State.addSourceIf, State.addSource, calm_eq_decide, h]
      rw [hplace]
      exact want_channelAsked s.sound s.now .hazard true
    · rw [if_neg fun e => h e.2]
      have hsame : (s.addSourceIf true k).sound = s.sound := by
        simp [State.addSourceIf, State.addSource, calm_eq_decide, h]
      rw [hsame]
      exact channelKept_refl _ _

/-! ### Moving off -/

/-- The state as STATIONARY is cleared, VIGIL's watch not yet begun. -/
def moveBegun (v : State) : State := (v.addSourceIf (!v.tlink.brk.answering) .brakeLink).doorMoving

section
variable (v : State)

theorem moveBegun_eq :
    moveBegun v = { v with shaper := (moveBegun v).shaper, sound := (moveBegun v).sound, raised := (moveBegun v).raised } := by
  unfold moveBegun
  rw [addSourceIf_eq]
  rfl

theorem moveBegun_shaper :
    (moveBegun v).shaper =
      let adds := v.tlink.brk.answering = false
      let first := adds ∧ v.shaper.sources = 0
      { v.shaper with
        sources := if adds then addFlag v.shaper.sources EmSource.brakeLink.idx else v.shaper.sources
        o := if first then -1000 else v.shaper.o
        oPrev := if first then -1000 else v.shaper.oPrev
        doorReported := v.shaper.doorReported || !v.lines.dcl } := by
  have hs : (moveBegun v).shaper = { (v.addSourceIf (!v.tlink.brk.answering) .brakeLink).shaper with
      doorReported := (v.addSourceIf (!v.tlink.brk.answering) .brakeLink).shaper.doorReported || !v.lines.dcl } := by
    unfold moveBegun
    rw [addSourceIf_eq]
    rfl
  rw [hs, addSourceIf_shaper]
  simp

theorem moveBegun_sound : (moveBegun v).sound = (v.addSourceIf (!v.tlink.brk.answering) .brakeLink).sound := rfl

theorem moveBegun_raised :
    (moveBegun v).raised =
      v.raised ||| kindIf (!v.tlink.brk.answering && decide (v.shaper.sources = 0)) .emergencyChanged |||
        kindIf (!v.lines.dcl && !v.shaper.doorReported) .doorOpenMoving := by
  have hdoor : (v.addSourceIf (!v.tlink.brk.answering) .brakeLink).shaper.doorReported = v.shaper.doorReported := by
    rw [addSourceIf_shaper]
  have hlines : (v.addSourceIf (!v.tlink.brk.answering) .brakeLink).lines = v.lines := by rw [addSourceIf_eq]
  unfold moveBegun State.doorMoving
  dsimp only
  rw [ite_addFlag_eq_or, addSourceIf_raised, hdoor, hlines]

/-! VIGIL's watch begins under HELD from IDLE (R83). -/

theorem beginsToMove_eq : v.beginsToMove = (moveBegun v).vigilMoves := rfl

theorem vigilMoves_idle {w : State} (h : ¬(w.auth.isHeld = true ∧ w.vigil.state = .idle)) : w.vigilMoves = w := if_neg h

/-- The record of VIGIL as its watch begins, the buzzer request aside. -/
def watchBegun (w : State) : VigilRec := w.vigil.startWatch w.now ((w.shaper.demand.map DemandBody.lever).getD 0)

theorem vigilMoves_watch {w : State} (h : w.auth.isHeld = true ∧ w.vigil.state = .idle) :
    w.vigilMoves = State.refreshBuzzer { w with vigil := watchBegun w } := if_pos h

theorem watchBegun_wantsBuzzer (w : State) : (watchBegun w).wantsBuzzer = !w.vigil.handle := by
  cases h : w.vigil.handle <;> simp [watchBegun, VigilRec.startWatch, VigilRec.wantsBuzzer, h]

theorem vigilMoves_frame (w : State) :
    w.vigilMoves = { w with vigil := w.vigilMoves.vigil, sound := w.vigilMoves.sound, raised := w.vigilMoves.raised } := by
  unfold State.vigilMoves
  split <;> rfl

theorem vigilMoves_soundKept (w : State) : soundKept w.sound w.vigilMoves.sound [.buzzA, .buzzB] := by
  unfold State.vigilMoves
  split
  · exact refreshBuzzer_soundKept _ _ _ _
  · exact soundKept_refl _ _

theorem vigilMoves_raised (w : State) :
    w.vigilMoves.raised = w.raised ||| kindIf (!w.vigil.buzzer && w.vigilMoves.vigil.buzzer) .vigilWarn := by
  unfold State.vigilMoves
  split
  · rw [refreshBuzzer_raised, Bool.and_comm]
    rfl
  · simp

theorem beginsToMove_frame :
    v.beginsToMove = { v with
      shaper := v.beginsToMove.shaper, vigil := v.beginsToMove.vigil, sound := v.beginsToMove.sound
      raised := v.beginsToMove.raised } := by
  have hshaper : v.beginsToMove.shaper = (moveBegun v).shaper := (congrArg State.shaper (vigilMoves_frame (moveBegun v)) :)
  have hwatch : v.beginsToMove = { moveBegun v with
      vigil := v.beginsToMove.vigil, sound := v.beginsToMove.sound, raised := v.beginsToMove.raised } :=
    vigilMoves_frame (moveBegun v)
  have hmove := congrArg (fun w : State => { w with
    vigil := v.beginsToMove.vigil, sound := v.beginsToMove.sound, raised := v.beginsToMove.raised }) (moveBegun_eq v)
  rw [hshaper]
  exact hwatch.trans hmove

theorem beginsToMove_raised :
    v.beginsToMove.raised =
      v.raised ||| kindIf (!v.tlink.brk.answering && decide (v.shaper.sources = 0)) .emergencyChanged |||
        kindIf (!v.lines.dcl && !v.shaper.doorReported) .doorOpenMoving |||
        kindIf (!v.vigil.buzzer && v.beginsToMove.vigil.buzzer) .vigilWarn := by
  have hvigil : (moveBegun v).vigil = v.vigil := by rw [moveBegun_eq]
  rw [beginsToMove_eq, vigilMoves_raised, moveBegun_raised, hvigil]

/-- What the window end that clears STATIONARY leaves is what the statements say of it. -/
theorem beginsToMove_state : beginsToMove v v.beginsToMove := by
  have hframe := beginsToMove_frame v
  have hauth : (moveBegun v).auth = v.auth := by rw [moveBegun_eq]
  have hvigil : (moveBegun v).vigil = v.vigil := by rw [moveBegun_eq]
  have hnow : v.beginsToMove.now = v.now := by rw [hframe]
  have hmnow : (moveBegun v).now = v.now := by rw [moveBegun_eq]
  have hdemand : (moveBegun v).shaper.demand = v.shaper.demand := by rw [moveBegun_shaper]
  have hcond : (moveBegun v).auth.isHeld = true ∧ (moveBegun v).vigil.state = .idle ↔
      v.auth.isHeld = true ∧ v.vigil.state = .idle := by rw [hauth, hvigil]
  have hadd := addSourceIf_soundKept v (!v.tlink.brk.answering) .brakeLink
  have hadds : ((!v.tlink.brk.answering) = true ∧ v.shaper.sources = 0) ↔ (v.tlink.brk.answering = false ∧ v.shaper.sources = 0) := by
    simp
  refine ⟨by rw [hframe], by rw [hframe], by rw [hframe], ?shaper, fun h => ?watches, fun h => ?idle, ?lamps, ?sound⟩
  case shaper =>
    have hs : v.beginsToMove.shaper = (moveBegun v).shaper := by rw [beginsToMove_eq, vigilMoves_frame]
    rw [hs]
    exact moveBegun_shaper v
  case watches =>
    have hmove : v.beginsToMove = State.refreshBuzzer { moveBegun v with vigil := watchBegun (moveBegun v) } :=
      vigilMoves_watch (hcond.mpr h)
    have hv : v.beginsToMove.vigil = { watchBegun (moveBegun v) with buzzer := !v.vigil.handle } := by
      rw [hmove, ← hvigil, ← watchBegun_wantsBuzzer]
      rfl
    refine ⟨?_, fun d hd => ?_, fun e => ?_⟩
    · rw [hv, hnow]
      simp [watchBegun, VigilRec.startWatch, hvigil, hmnow]
    · rw [hv]
      simp [watchBegun, VigilRec.startWatch, hdemand, hd]
    · have hother : buzzOf e ∉ [Sounder.hazard] := by cases e <;> decide
      have hasked := refreshBuzzer_channelAsked (moveBegun v).sound (moveBegun v).now (moveBegun v).auth
        (watchBegun (moveBegun v)).wantsBuzzer e
      rw [watchBegun_wantsBuzzer, hmnow, hauth, hvigil] at hasked
      have hb : v.beginsToMove.vigil.buzzer = !v.vigil.handle := by rw [hv]
      rw [hnow, hb]
      have hsound : v.beginsToMove.sound = (moveBegun v).sound.refreshBuzzer v.now v.auth (!v.vigil.handle) := by
        rw [hmove, ← hmnow, ← hauth, ← hvigil, ← watchBegun_wantsBuzzer]
        rfl
      rw [hsound]
      exact channelAsked_of_soundKept hadd hother hasked
  case idle =>
    have hmove : v.beginsToMove = moveBegun v := vigilMoves_idle fun e => h (hcond.mp e)
    refine ⟨by rw [hmove, hvigil], fun e => ?_⟩
    have hother : buzzOf e ∉ [Sounder.hazard] := by cases e <;> decide
    rw [hmove]
    exact hadd.1 _ hother
  case lamps =>
    have hhazard := addSourceIf_hazard v (!v.tlink.brk.answering) .brakeLink
    have hkept : channelKept (moveBegun v).sound v.beginsToMove.sound .hazard :=
      (vigilMoves_soundKept (moveBegun v)).1 _ (by decide)
    rw [if_congr hadds rfl rfl] at hhazard
    rw [hnow]
    split at hhazard
    next h =>
      rw [if_pos h]
      exact channelAsked_then_kept hhazard hkept
    next h =>
      rw [if_neg h]
      exact channelKept_trans hhazard hkept
  case sound =>
    exact soundKept_mono (soundKept_append hadd (vigilMoves_soundKept (moveBegun v))) (by simp)

end

end Sys2Proof.Proofs
end

section
/-! SUPPORT. The window end as a whole, and the notices it tells (R22, R174). -/

namespace Sys2Proof.Proofs

open Sys2Proof Sys2Proof.Machine

/-! ### Its parts -/

/-- WHEEL after a window end. -/
def wheelAfter (s : State) : WheelRec :=
  s.wheel.windowEnd (max s.now (s.wheel.windowAt + 250)) s.settings.circumference s.shaper.o s.tlink.slipping

/-- The state as WHEEL's results are windowPublished. -/
def windowPublished (s : State) : State := (s.reach (s.wheel.windowAt + 250)).publishWindow

/-- The state as a change of STATIONARY leaves it, a claim not yet checked. -/
def settled (s : State) : State :=
  if (wheelAfter s).stationary && !s.wheel.stationary then (windowPublished s).comesToRest
  else if !(wheelAfter s).stationary && s.wheel.stationary then (windowPublished s).beginsToMove
  else windowPublished s

theorem windowEnd_eq_settled (s : State) : s.windowEnd = (settled s).syncCheck := rfl

/-- The notices of WHEEL's own results. -/
def wheelRaised (s : State) : BitVec 20 :=
  kindIf (statusChanged s.wheel (wheelAfter s)) .sensorChanged ||| kindIf (decide (s.wheel.adhesion ≠ (wheelAfter s).adhesion)) .adhesion

theorem windowPublished_eq {s : State} (hquiet : s.raised = 0) :
    windowPublished s = { s with now := max s.now (s.wheel.windowAt + 250), wheel := wheelAfter s, raised := wheelRaised s } := by
  have hraised : (windowPublished s).raised = s.raised ||| kindIf (statusChanged s.wheel (wheelAfter s)) .sensorChanged |||
      kindIf (decide (s.wheel.adhesion ≠ (wheelAfter s).adhesion)) .adhesion := by
    unfold windowPublished State.publishWindow
    rw [raiseIf_raised, raiseIf_raised]
    rfl
  rw [show s.raised = 0#20 from hquiet, BitVec.zero_or] at hraised
  have hframe : windowPublished s =
      { s with now := max s.now (s.wheel.windowAt + 250), wheel := wheelAfter s, raised := (windowPublished s).raised } := rfl
  rw [hframe, hraised]
  rfl

theorem enterHeld_frame (u : State) (x : Cab) (c : Claimant) :
    u.enterHeld x c = { u with
      auth := (u.enterHeld x c).auth, shaper := (u.enterHeld x c).shaper, vigil := (u.enterHeld x c).vigil
      sound := (u.enterHeld x c).sound, stop := (u.enterHeld x c).stop, junct := (u.enterHeld x c).junct
      raised := (u.enterHeld x c).raised } := by
  have hkept : { u.enterHeld x c with
      auth := u.auth, shaper := u.shaper, vigil := u.vigil, sound := u.sound, stop := u.stop, junct := u.junct
      raised := u.raised } = u := by simp [enterHeld_eq, heldBegun]
  exact (congrArg (fun w : State => { w with
    auth := (u.enterHeld x c).auth, shaper := (u.enterHeld x c).shaper, vigil := (u.enterHeld x c).vigil
    sound := (u.enterHeld x c).sound, stop := (u.enterHeld x c).stop, junct := (u.enterHeld x c).junct
    raised := (u.enterHeld x c).raised }) hkept :)

/-- The check leaves all but the records of the authority, what follows from it, and what waits to be routed. -/
theorem syncCheck_frame (w : State) :
    w.syncCheck = { w with
      auth := w.syncCheck.auth, shaper := w.syncCheck.shaper, vigil := w.syncCheck.vigil, sound := w.syncCheck.sound
      stop := w.syncCheck.stop, junct := w.syncCheck.junct, raised := w.syncCheck.raised } := by
  unfold State.syncCheck
  split
  · split
    · exact enterHeld_frame _ _ _
    · rfl
  · rfl

section
variable {s : State} (hquiet : s.raised = 0)
include hquiet

theorem windowPublished_stationary : (windowPublished s).wheel.stationary = (wheelAfter s).stationary := by rw [windowPublished_eq hquiet]

/-- What a window end leaves besides its own records, the check of a claim apart. -/
theorem settled_frame :
    settled s = { s with
      now := max s.now (s.wheel.windowAt + 250), wheel := wheelAfter s
      auth := (settled s).auth, shaper := (settled s).shaper, vigil := (settled s).vigil, sound := (settled s).sound
      stop := (settled s).stop, junct := (settled s).junct, raised := (settled s).raised } := by
  unfold settled
  split
  next h =>
    have hst : (windowPublished s).wheel.stationary = true := by
      rw [windowPublished_stationary hquiet]
      simp_all
    conv_lhs => rw [comesToRest_frame hst]
    rw [windowPublished_eq hquiet]
  next =>
    split
    · conv_lhs => rw [beginsToMove_frame]
      rw [beginsToMove_frame]
      rw [windowPublished_eq hquiet]
    · rw [windowPublished_eq hquiet]

theorem windowEnd_frame :
    s.windowEnd = { s with
      now := max s.now (s.wheel.windowAt + 250), wheel := wheelAfter s
      auth := s.windowEnd.auth, shaper := s.windowEnd.shaper, vigil := s.windowEnd.vigil, sound := s.windowEnd.sound
      stop := s.windowEnd.stop, junct := s.windowEnd.junct, raised := s.windowEnd.raised } := by
  have hcheck := syncCheck_frame (settled s)
  have hsettled := congrArg (fun w : State => { w with
    auth := s.windowEnd.auth, shaper := s.windowEnd.shaper, vigil := s.windowEnd.vigil, sound := s.windowEnd.sound
    stop := s.windowEnd.stop, junct := s.windowEnd.junct, raised := s.windowEnd.raised }) (settled_frame hquiet)
  exact hcheck.trans hsettled

end

/-! ### Its notices -/

/-- The notices of a window end, by what it changed, before they are routed. -/
def windowRaised (s t : State) : BitVec 20 :=
  kindIf (s.wheel.s1.failed != t.wheel.s1.failed || s.wheel.s2.failed != t.wheel.s2.failed) .sensorChanged |||
    kindIf (decide (s.wheel.adhesion ≠ t.wheel.adhesion)) .adhesion |||
    kindIf (!s.shaper.doorReported && t.shaper.doorReported) .doorOpenMoving |||
    kindIf (decide ¬(s.shaper.sources = 0 ↔ t.shaper.sources = 0)) .emergencyChanged |||
    kindIf (!s.vigil.buzzer && t.vigil.buzzer) .vigilWarn |||
    kindIf (s.stop.record.first.isSome && t.stop.record.first.isNone) .stopChanged |||
    kindIf (!s.junct.list.isEmpty && t.junct.list.isEmpty) .junctionChanged |||
    kindIf (decide (s.auth ≠ t.auth)) .authChanged |||
    kindIf (!s.auth.isHeld && t.auth.isHeld && decide (t.shaper.stage = .staleBrake)) .demandStale

theorem noticesFor_windowRaised (s t : State) (p : Port) : noticesFor t.auth (windowRaised s t) p = windowKinds s t p := by
  have hemergency : toldIf (decide ¬(s.shaper.sources = 0 ↔ t.shaper.sources = 0)) .emergencyChanged t.auth p =
      if s.shaper.sources = 0 ↔ t.shaper.sources = 0 then 0 else only .emergencyChanged := by
    rw [toldIf_emergencyChanged]
    by_cases h : s.shaper.sources = 0 ↔ t.shaper.sources = 0
    · rw [if_pos h, decide_eq_false (not_not_intro h)]
      rfl
    · rw [if_neg h, decide_eq_true h]
      rfl
  have hauth : toldIf (decide (s.auth ≠ t.auth)) .authChanged t.auth p = if s.auth = t.auth then 0 else only .authChanged := by
    rw [toldIf_authChanged]
    by_cases h : s.auth = t.auth
    · rw [if_pos h, decide_eq_false (not_not_intro h)]
      rfl
    · rw [if_neg h, decide_eq_true h]
      rfl
  simp only [windowRaised, windowKinds, noticesFor_or, noticesFor_kindIf, hemergency, hauth]

theorem wheelRaised_eq (s : State) :
    wheelRaised s = kindIf (s.wheel.s1.failed != (wheelAfter s).s1.failed || s.wheel.s2.failed != (wheelAfter s).s2.failed)
      .sensorChanged ||| kindIf (decide (s.wheel.adhesion ≠ (wheelAfter s).adhesion)) .adhesion := by
  have hne (a b : Bool) : decide (a ≠ b) = (a != b) := by cases a <;> cases b <;> rfl
  simp only [wheelRaised, statusChanged, hne]

theorem isSome_and_isNone {α : Type} (o : Option α) : (o.isSome && o.isNone) = false := by cases o <;> rfl

/-- A set that loses sources goes from some to none exactly when it is emptied for good. -/
theorem emptied_decide (up : Bool) (m : BitVec 8) (sh sh' : ShaperRec) (h : sh'.sources = (shedShaper up m sh).sources) :
    (emptiedBy sh m && up) = decide ¬(sh.sources = 0 ↔ sh'.sources = 0) := by
  have hiff := emptied_iff up m sh
  have hzero := shedShaper_sources_eq_zero up m sh
  rw [Bool.eq_iff_iff, decide_eq_true_iff, ← hiff, h, hzero]
  tauto

/-- A set that gains a source goes from none to some exactly when it was empty. -/
theorem added_decide {adds : Bool} {k : EmSource} {sh sh' : ShaperRec}
    (h : sh'.sources = if adds = true then addFlag sh.sources k.idx else sh.sources) :
    (adds && decide (sh.sources = 0)) = decide ¬(sh.sources = 0 ↔ sh'.sources = 0) := by
  have hne : addFlag sh.sources k.idx ≠ 0 := addFlag_ne_zero _ k.idx_lt
  cases adds with
  | false => simp [h]
  | true =>
    rw [if_pos rfl] at h
    rw [h]
    rw [Bool.true_and, decide_eq_decide]
    tauto

section
variable {v : State} (hst : v.wheel.stationary = true)
include hst

theorem comesToRest_sources : v.comesToRest.shaper.sources = (shedShaper v.outbank.linkUp (endAtRest v) v.shaper).sources := by
  rw [comesToRest_shaper hst, shedShaper_cases]

theorem comesToRest_told :
    v.comesToRest.raised = v.raised ||| windowRaised { v with raised := 0 } v.comesToRest := by
  have hwheel : v.comesToRest.wheel = v.wheel := by rw [comesToRest_frame hst]
  have hdoor : v.comesToRest.shaper.doorReported = v.shaper.doorReported := by rw [comesToRest_shaper hst]
  have hemergency := emptied_decide v.outbank.linkUp (endAtRest v) v.shaper v.comesToRest.shaper (comesToRest_sources hst)
  have hwarn : (v.auth.isLost && v.comesToRest.vigil.buzzer && !v.vigil.buzzer) =
      (!v.vigil.buzzer && v.comesToRest.vigil.buzzer) := by
    rw [comesToRest_vigil hst]
    cases v.auth.isLost with
    | true => rw [Bool.true_and, Bool.and_comm]
    | false => split_ifs <;> simp_all
  have hstop : sectionTold v = (v.stop.record.first.isSome && v.comesToRest.stop.record.first.isNone) := by
    rw [comesToRest_stop hst, sectionTold]
    split_ifs with h
    · simp [h, sectionEnded, StopRec.empty]
    · cases v.stop.record.first <;> simp [h]
  have hjunct : (v.auth.isLost && !v.junct.list.isEmpty) = (!v.junct.list.isEmpty && v.comesToRest.junct.list.isEmpty) := by
    rw [comesToRest_junct hst]
    cases v.auth.isLost with
    | true => simp [junctCancelled]
    | false => simp
  have hauth : v.auth.isLost = decide (v.auth ≠ v.comesToRest.auth) := by
    rw [comesToRest_auth hst]
    cases ha : v.auth <;> simp [Auth.isLost]
  have hheld : (!v.auth.isHeld && v.comesToRest.auth.isHeld) = false := by
    rw [comesToRest_auth hst]
    split_ifs <;> simp [Auth.isHeld]
  rw [comesToRest_raised hst, hemergency, hwarn, hstop, hjunct]
  conv_lhs => rw [hauth]
  simp only [windowRaised, hwheel, hdoor, hheld]
  simp
  ac_rfl

end

theorem beginsToMove_told (v : State) : v.beginsToMove.raised = v.raised ||| windowRaised { v with raised := 0 } v.beginsToMove := by
  have hframe := beginsToMove_frame v
  have hwheel : v.beginsToMove.wheel = v.wheel := by rw [hframe]
  have hauth : v.beginsToMove.auth = v.auth := by rw [hframe]
  have hstop : v.beginsToMove.stop = v.stop := by rw [hframe]
  have hjunct : v.beginsToMove.junct = v.junct := by rw [hframe]
  have hshaper : v.beginsToMove.shaper = (moveBegun v).shaper := (congrArg State.shaper (vigilMoves_frame (moveBegun v)) :)
  have hsources : v.beginsToMove.shaper.sources =
      if (!v.tlink.brk.answering) = true then addFlag v.shaper.sources EmSource.brakeLink.idx else v.shaper.sources := by
    rw [hshaper, moveBegun_shaper]
    simp
  have hdoor : (!v.lines.dcl && !v.shaper.doorReported) = (!v.shaper.doorReported && v.beginsToMove.shaper.doorReported) := by
    rw [hshaper, moveBegun_shaper]
    cases v.lines.dcl <;> cases v.shaper.doorReported <;> rfl
  rw [beginsToMove_raised, added_decide hsources, hdoor]
  simp only [windowRaised, hwheel, hauth, hstop, hjunct, isSome_and_isNone]
  simp
  ac_rfl

/-- A window end's own notices are those of what it changed. -/
theorem settled_told {s : State} (hquiet : s.raised = 0) : (settled s).raised = windowRaised s (settled s) := by
  have hbase := wheelRaised_eq s
  have hwheel : (settled s).wheel = wheelAfter s := by rw [settled_frame hquiet]
  -- What follows from a change of STATIONARY is told beside what WHEEL tells.
  have hbeside (t : State) (ht : t.wheel = wheelAfter s) :
      wheelRaised s ||| windowRaised { windowPublished s with raised := 0 } t = windowRaised s t := by
    rw [windowPublished_eq hquiet, wheelRaised_eq]
    simp only [windowRaised, ht]
    simp
    ac_rfl
  have hquietly : windowRaised { windowPublished s with raised := 0 } (windowPublished s) = 0#20 := by
    simp [windowRaised, isSome_and_isNone]
  have hraised : (windowPublished s).raised = wheelRaised s := by rw [windowPublished_eq hquiet]
  rw [← hbeside (settled s) hwheel, ← hraised]
  unfold settled
  split
  next h =>
    have hst : (windowPublished s).wheel.stationary = true := by
      rw [windowPublished_stationary hquiet]
      simp_all
    exact comesToRest_told hst
  next =>
    split
    · exact beginsToMove_told _
    · rw [hquietly, BitVec.or_zero]

/-! ### The check of a claim after it -/

/-- What a window end leaves of a claim before its check: an entry to HELD can only follow a standstill. -/
theorem settled_of_claim {s : State} {x : Cab} {start : Nat} {c : Claimant} (hquiet : s.raised = 0)
    (ha : (settled s).auth = .claiming x start (some c)) (hst : (settled s).wheel.stationary = true) :
    s.auth = (settled s).auth ∧ (settled s).junct = s.junct ∧ (settled s).shaper.doorReported = s.shaper.doorReported ∧
      (s.shaper.sources = 0 → (settled s).shaper.sources = 0) ∧
      ((settled s).stop.record.first.isSome = true → s.stop.record.first.isSome = true) ∧
      ((settled s).vigil.releaseTime.isSome = true → (settled s).vigil = s.vigil) ∧
      ((settled s).vigil.buzzer = true → s.vigil.buzzer = true) := by
  have hwheel : (settled s).wheel = wheelAfter s := by rw [settled_frame hquiet]
  rw [hwheel] at hst
  unfold settled at ha ⊢
  simp only [hst, Bool.true_and, Bool.not_true, Bool.false_and, Bool.false_eq_true, if_false] at ha ⊢
  have hpub := windowPublished_eq hquiet
  split at ha
  next h =>
    have hpst : (windowPublished s).wheel.stationary = true := (windowPublished_stationary hquiet).trans hst
    have hlost : (windowPublished s).auth.isLost = false := by
      rw [comesToRest_auth hpst] at ha
      split_ifs at ha with hl
      · simpa using hl
    simp only [comesToRest_auth hpst, comesToRest_junct hpst, comesToRest_shaper hpst, comesToRest_stop hpst,
      comesToRest_vigil hpst, hlost, h, if_true, Bool.false_eq_true, if_false]
    refine ⟨by rw [hpub], by rw [hpub], by rw [hpub], fun h0 => ?_, fun h1 => ?_, fun h1 => ?_, fun h1 => ?_⟩
    · have : (windowPublished s).shaper.sources = 0#8 := by rw [hpub]; exact h0
      simp [this]
    · split_ifs at h1
      · simp [sectionEnded, StopRec.empty] at h1
      · rw [hpub] at h1
        exact h1
    · split_ifs at h1 ⊢
      · simp at h1
      · rw [hpub]
    · split_ifs at h1
      · rw [hpub] at h1
        exact h1
  next h =>
    simp only [h, Bool.false_eq_true, if_false]
    rw [hpub]
    exact ⟨rfl, rfl, rfl, id, id, fun _ => rfl, id⟩

/-- The notices of a window end, those of an entry to HELD among them, are those of what it changed. -/
theorem windowEnd_told {s : State} (hquiet : s.raised = 0) : s.windowEnd.raised = windowRaised s s.windowEnd := by
  have hbase := settled_told hquiet
  rw [windowEnd_eq_settled]
  by_cases hclaim : ∃ x start c, (settled s).auth = .claiming x start (some c) ∧ (settled s).synchronises x c = true
  · obtain ⟨x, start, c, ha, hsync⟩ := hclaim
    have hst : (settled s).wheel.stationary = true := ((synchronises_iff _ _ _).mp hsync).1
    obtain ⟨hauth, hjunct, hdoor, hsources, hrequest, hrest, hplaced⟩ := settled_of_claim hquiet ha hst
    have hcheck : (settled s).syncCheck = (settled s).enterHeld x c := by rw [syncCheck_of_claiming ha, if_pos hsync]
    have hheld : ((settled s).enterHeld x c).auth = .held x .neutral := by rw [enterHeld_eq]; rfl
    have hshaper := heldEntered_shaper (settled s) x c hst
    have hstage : ((settled s).enterHeld x c).shaper.stage = stageOfAge ((settled s).now - c.frameTime) := by rw [hshaper]
    have hreported : ((settled s).enterHeld x c).shaper.doorReported = s.shaper.doorReported := by rw [hshaper]; exact hdoor
    have hleft : ((settled s).enterHeld x c).shaper.sources =
        (shedShaper (settled s).outbank.linkUp (heldMask (settled s)) (settled s).shaper).sources := by
      rw [hshaper]
      exact (heldSources_eq (settled s) hst).symm
    have hemptied := emptied_decide (settled s).outbank.linkUp (heldMask (settled s)) (settled s).shaper
      ((settled s).enterHeld x c).shaper hleft
    have hnone : (settled s).shaper.sources = 0 → ((settled s).enterHeld x c).shaper.sources = 0 := by
      intro h
      rw [hleft, shedShaper_sources_eq_zero]
      exact .inl h
    have hlist : ((settled s).enterHeld x c).junct.list = [] := by rw [heldEntered_junct]; rfl
    have hrecord : ((settled s).enterHeld x c).stop.record.first = none := by
      rw [heldEntered_stop]
      cases h : (settled s).stop.record.first <;> simp [StopRec.empty, h]
    have hwheel : ((settled s).enterHeld x c).wheel = (settled s).wheel := by rw [enterHeld_frame]
    -- An entry to HELD in PENALTY alone can leave the buzzer request placed, and the window end has then left VIGIL as it was.
    have hbuzzer : ((settled s).enterHeld x c).vigil.buzzer = true → (settled s).vigil.buzzer = s.vigil.buzzer := by
      intro h
      rw [heldEntered_vigil] at h
      split_ifs at h
      · rw [hrest h]
      · simp at h
    rw [hcheck, enterHeld_raised, hemptied, hbase, hjunct]
    have hemergency (a b d : Prop) [Decidable a] [Decidable b] [Decidable d] (hab : a → b) (hbd : b → d) :
        (decide ¬(a ↔ d)) = ((decide ¬(a ↔ b)) || (decide ¬(b ↔ d))) := by
      by_cases a <;> by_cases b <;> by_cases d <;> simp_all
    have hwarn : (!s.vigil.buzzer && ((settled s).enterHeld x c).vigil.buzzer) =
        (!s.vigil.buzzer && (settled s).vigil.buzzer || ((settled s).enterHeld x c).vigil.buzzer && !(settled s).vigil.buzzer) := by
      cases h1 : ((settled s).enterHeld x c).vigil.buzzer <;> cases h2 : (settled s).vigil.buzzer <;> simp_all
    have hstop : (s.stop.record.first.isSome && Option.isNone (none : Option FirstRequest)) =
        (s.stop.record.first.isSome && (settled s).stop.record.first.isNone || (settled s).stop.record.first.isSome) := by
      cases h1 : s.stop.record.first <;> cases h2 : (settled s).stop.record.first <;> simp_all
    have hne : s.auth ≠ .held x .neutral := by simp [hauth, ha]
    have hnot : (settled s).auth.isHeld = false := by simp [ha, Auth.isHeld]
    simp only [windowRaised, hwheel, hreported, hheld, hlist, hrecord, hwarn, hstop, hjunct, hdoor, ← hauth, hstage,
      hemergency _ _ _ hsources hnone, kindIf_or, decide_eq_true hne]
    rw [hauth, hnot]
    simp [Auth.isHeld]
    ac_rfl
  · have hcheck : (settled s).syncCheck = settled s := by
      unfold State.syncCheck
      split
      next x start c ha =>
        exact if_neg fun hsync => hclaim ⟨x, start, c, ha, hsync⟩
      next => rfl
    rw [hcheck, hbase]

end Sys2Proof.Proofs
end

section
/-! The obligations about a window end (O8, O15, O16, O17, O26). -/

namespace Sys2Proof.Proofs

open Sys2Proof Sys2Proof.Machine

theorem exec_windowEnd {s : State} (h : Running s) : exec .windowEnd s = .next s.windowEnd.deliver :=
  congrArg Host.Outcome.next (State.event_of h.1)

theorem windowEnd_notified {s : State} (h : Running s) :
    Notified s s.windowEnd.deliver (windowKinds s s.windowEnd.deliver) := by
  have hports : s.windowEnd.ports = s.ports := by rw [windowEnd_frame h.2]
  intro p
  rw [deliver_notified hports p, windowEnd_told h.2, noticesFor_windowRaised]
  rfl

theorem windowEnd_wheel {s : State} (h : Running s) : s.windowEnd.wheel = wheelAfter s := by rw [windowEnd_frame h.2]

theorem windowEnd_now {s : State} (h : Running s) : s.windowEnd.now = max s.now (s.wheel.windowAt + 250) := by
  rw [windowEnd_frame h.2]

/-! ### Speeds and statuses -/

/-- A sensor as its speed is taken (R21). -/
def measured (r : SensorRec) (c : Nat) : SensorRec := { r with speed := sensorSpeed r.count c }

theorem wheelAfter_sensor (s : State) (i : Sensor) :
    sensorOf (wheelAfter s) i =
      { (measured (sensorOf s.wheel i) s.settings.circumference).health
          (measured (sensorOf s.wheel (otherSensor i)) s.settings.circumference) with count := 0 } := by
  unfold wheelAfter
  rw [windowEnd_eq]
  cases i <;> rfl

/-- What a window end leaves of one sensor (R21, R24, R25). -/
theorem sensor_measured (s : State) (i : Sensor) :
    let c := s.settings.circumference
    let speed (i : Sensor) := min 1200 ((sensorOf s.wheel i).count * c * 9 / 4000)
    let r := sensorOf s.wheel i
    let r' := sensorOf (wheelAfter s) i
    let o := otherSensor i
    r'.speed = speed i ∧ r'.count = 0 ∧
      (r.failed = true → (r'.failed, r'.recoverRun) = judgedFailed r.count r.recoverRun (speed i) (speed o)) ∧
      (r.failed = false → (sensorOf s.wheel o).failed = false →
        (r'.failed, r'.failRun) = judgedOk r.count r.failRun (speed o)) ∧
      (r.failed = false → (sensorOf s.wheel o).failed = true → r'.failed = false ∧ r'.failRun = 0) := by
  intro c speed r r' o
  have hr : r' = { (measured r c).health (measured (sensorOf s.wheel o) c) with count := 0 } := wheelAfter_sensor s i
  rw [hr]
  exact ⟨health_speed _ _, rfl, health_failed (measured r c) (measured (sensorOf s.wheel o) c),
    health_ok (measured r c) (measured (sensorOf s.wheel o) c),
    health_ok_beside_failed (measured r c) (measured (sensorOf s.wheel o) c)⟩

/-- The reference speed after a window end (R23). -/
theorem wheelAfter_v (s : State) :
    (wheelAfter s).v = referenceSpeed (wheelAfter s).s1 (wheelAfter s).s2 s.shaper.o := by
  unfold wheelAfter
  rw [windowEnd_eq]
  rfl

/-- Settles O15. -/
theorem windowMeasuresSpeed : Obligations.WindowMeasuresSpeed := by
  intro s hrun _
  refine ⟨_, exec_windowEnd hrun, ?_⟩
  have hwheel : s.windowEnd.deliver.wheel = wheelAfter s := windowEnd_wheel hrun
  have hone := (sensor_measured s .one).1
  have htwo := (sensor_measured s .two).1
  refine ⟨fun i _ => ?_, ?_, fun p _ hchanged hto => ?_⟩
  · rw [hwheel]
    exact sensor_measured s i
  · rw [hwheel, wheelAfter_v, ← hone, ← htwo]
    rfl
  · refine told_of_notified (windowEnd_notified hrun) ?_
    have hdiff : (s.wheel.s1.failed != s.windowEnd.deliver.wheel.s1.failed ||
        s.wheel.s2.failed != s.windowEnd.deliver.wheel.s2.failed) = true := by
      rw [Bool.or_eq_true]
      exact hchanged.imp (fun h => bne_iff_ne.mpr h.symm) (fun h => bne_iff_ne.mpr h.symm)
    simp only [windowKinds, toldIf, hdiff, hto, Bool.and_true, if_true, hasFlag_or, hasFlag_only, Bool.true_or]

/-! ### Adhesion -/

/-- The adhesion record after a window end (R26, R28). -/
theorem wheelAfter_adhesion (s : State) :
    let j := judgedWheel s.wheel s.settings.circumference s.shaper.o
    let a := j.stage4 (max s.now (s.wheel.windowAt + 250)) s.shaper.o s.tlink.slipping
    ((wheelAfter s).adhesion, (wheelAfter s).disagree, (wheelAfter s).agree, (wheelAfter s).runOn) =
      (a.adhesion, a.disagree, a.agree, a.runOn) := by
  unfold wheelAfter
  rw [windowEnd_eq]

/-- Settles O17: the record as its stage leaves it, judged by the speeds and statuses of the stages before. -/
theorem adhesionJudged : Obligations.AdhesionJudged := by
  refine ⟨fun s hrun => ⟨_, exec_windowEnd hrun, ?_, fun p _ hchanged hto => ?_⟩, fun s hrun => ?_⟩
  · have hwheel : s.windowEnd.deliver.wheel = wheelAfter s := windowEnd_wheel hrun
    have hnow : s.windowEnd.deliver.now = max s.now (s.wheel.windowAt + 250) := windowEnd_now hrun
    have hone : (wheelAfter s).s1.speed = (judgedWheel s.wheel s.settings.circumference s.shaper.o).s1.speed ∧
        (wheelAfter s).s1.failed = (judgedWheel s.wheel s.settings.circumference s.shaper.o).s1.failed := by
      unfold wheelAfter
      rw [windowEnd_eq]
      exact ⟨rfl, rfl⟩
    have htwo : (wheelAfter s).s2.speed = (judgedWheel s.wheel s.settings.circumference s.shaper.o).s2.speed ∧
        (wheelAfter s).s2.failed = (judgedWheel s.wheel s.settings.circumference s.shaper.o).s2.failed := by
      unfold wheelAfter
      rw [windowEnd_eq]
      exact ⟨rfl, rfl⟩
    have hstages := stage4_adhesion (judgedWheel s.wheel s.settings.circumference s.shaper.o)
      (max s.now (s.wheel.windowAt + 250)) s.shaper.o s.tlink.slipping
    simp only [apart_eq] at hstages
    obtain ⟨hnormal, hslip, hslide⟩ := hstages
    rw [hwheel, hnow, hone.1, hone.2, htwo.1, htwo.2, wheelAfter_adhesion s]
    cases ha : s.wheel.adhesion with
    | normal => exact hnormal ha
    | slip => exact hslip ha
    | slide => exact hslide ha
  · refine told_of_notified (windowEnd_notified hrun) ?_
    have hdiff : decide (s.wheel.adhesion ≠ s.windowEnd.deliver.wheel.adhesion) = true := decide_eq_true hchanged.symm
    simp only [windowKinds, toldIf, hdiff, hto, Bool.and_true, if_true, hasFlag_or, hasFlag_only, Bool.or_true, Bool.true_or]
  · refine congrArg Host.Outcome.next ((State.event_of hrun.1).trans ?_)
    cases hr : s.wheel.runOn with
    | none =>
      have hidle : s.runOnExpiry = s := by simp [State.runOnExpiry, hr]
      rw [hidle]
      exact State.deliver_quiet hrun.2
    | some due =>
      have hends : s.runOnExpiry = { s.reach due with wheel := { s.wheel with runOn := none } } := by
        simp [State.runOnExpiry, hr]
      rw [hends]
      exact State.deliver_quiet (s := { s.reach due with wheel := { s.wheel with runOn := none } }) hrun.2

/-! ### STATIONARY -/

section
variable (s : State)

theorem wheelAfter_stationary :
    (wheelAfter s).stationary =
      if s.wheel.s1.count = 0 ∧ s.wheel.s2.count = 0 then s.wheel.stationary || decide ((wheelAfter s).emptyRun = 4) else false := by
  unfold wheelAfter
  rw [windowEnd_eq]
  rfl

theorem wheelAfter_emptyRun :
    (wheelAfter s).emptyRun =
      if s.wheel.s1.count = 0 ∧ s.wheel.s2.count = 0 then min 4 (s.wheel.emptyRun + 1) else 0 := by
  unfold wheelAfter
  rw [windowEnd_eq]
  rfl

theorem wheelAfter_reverse :
    ((wheelAfter s).reverse, (wheelAfter s).rollback) =
      if (wheelAfter s).stationary = true ∧ s.wheel.stationary = false then (0, false) else (s.wheel.reverse, s.wheel.rollback) := by
  have hst : (wheelAfter s).stationary = s.wheel.nextStationary := by
    unfold wheelAfter
    rw [windowEnd_eq]
  rw [hst]
  unfold wheelAfter
  rw [windowEnd_eq]
  cases s.wheel.nextStationary <;> cases s.wheel.stationary <;> rfl

theorem wheelAfter_odometer : ((wheelAfter s).odometer, (wheelAfter s).remainder) = (s.wheel.odometer, s.wheel.remainder) := by
  unfold wheelAfter
  rw [windowEnd_eq]

theorem wheelAfter_windowAt : (wheelAfter s).windowAt = max s.now (s.wheel.windowAt + 250) := by
  unfold wheelAfter
  rw [windowEnd_eq]

end

/-- The fourth empty window in a row sets STATIONARY (R29). -/
theorem wheelAfter_fourth {s : State} (hrun : s.wheel.emptyRun = 3) (h1 : s.wheel.s1.count = 0) (h2 : s.wheel.s2.count = 0) :
    (wheelAfter s).stationary = true := by
  rw [wheelAfter_stationary, wheelAfter_emptyRun]
  simp [h1, h2, hrun]

section
variable {s : State} (hrun : Running s)
include hrun

/-- At the window end that sets STATIONARY. -/
theorem settled_enters (h : (wheelAfter s).stationary = true) (hs : s.wheel.stationary = false) :
    settled s = (windowPublished s).comesToRest ∧ (windowPublished s).wheel.stationary = true := by
  refine ⟨?_, (windowPublished_stationary hrun.2).trans h⟩
  unfold settled
  simp [h, hs]

omit hrun in
theorem settled_leaves (h : (wheelAfter s).stationary = false) (hs : s.wheel.stationary = true) :
    settled s = (windowPublished s).beginsToMove := by
  unfold settled
  simp [h, hs]

omit hrun in
theorem settled_neither (h : (wheelAfter s).stationary = s.wheel.stationary) : settled s = windowPublished s := by
  unfold settled
  cases hs : s.wheel.stationary <;> simp [h, hs]

/-- Without claimant fields the window end is over as STATIONARY's change is. -/
theorem windowEnd_of_no_claimant (h : s.auth.claimant = none) : s.windowEnd = settled s := by
  have hauth : (windowPublished s).auth = s.auth := by rw [windowPublished_eq hrun.2]
  rw [windowEnd_eq_settled]
  apply syncCheck_of_no_claimant
  by_cases henters : (wheelAfter s).stationary = true ∧ s.wheel.stationary = false
  · obtain ⟨hsettled, hst⟩ := settled_enters hrun henters.1 henters.2
    rw [hsettled, comesToRest_auth hst, hauth]
    split_ifs
    · rfl
    · exact h
  · by_cases hleaves : (wheelAfter s).stationary = false ∧ s.wheel.stationary = true
    · rw [settled_leaves hleaves.1 hleaves.2, beginsToMove_frame]
      exact (congrArg Auth.claimant hauth).trans h
    · have hsame : (wheelAfter s).stationary = s.wheel.stationary := by
        cases h1 : (wheelAfter s).stationary <;> cases h2 : s.wheel.stationary <;> simp_all
      rw [settled_neither hsame, hauth, h]

/-- What standstill brings does not depend on the clock, nor on WHEEL but for the odometer. -/
theorem comesToRest_of_published {t : State} (h : comesToRest (windowPublished s) t) : comesToRest s t := by
  rw [windowPublished_eq hrun.2] at h
  obtain ⟨hauth, hshaper, hstop, hvigil, hjunct, hhornBell, hbuzzers, hhazard, hsound⟩ := h
  have hodometer : (wheelAfter s).odometer = s.wheel.odometer := congrArg Prod.fst (wheelAfter_odometer s)
  refine ⟨hauth, hshaper, ?_, hvigil, hjunct, hhornBell, hbuzzers, hhazard, hsound⟩
  rw [hstop]
  simp only [sectionEnded, hodometer]

theorem beginsToMove_of_published {t : State} (h : beginsToMove (windowPublished s) t) : beginsToMove s t := by
  rw [windowPublished_eq hrun.2] at h
  exact h

end

/-! ### The set after a removal -/

theorem hasFlag_and_not {n : Nat} (x m : BitVec n) {i : Nat} (hi : i < n) :
    hasFlag (x &&& ~~~m) i = (hasFlag x i && !hasFlag m i) := by
  simp [hasFlag, hi]

theorem hasFlag_sourceIf (b : Bool) (k k' : EmSource) : hasFlag (sourceIf b k) k'.idx = (b && decide (k = k')) := by
  revert b
  cases k <;> cases k' <;> decide

/-- A source other than LOOP_DROPPED is in the set after a removal when it was and is not among those removed. -/
theorem shedShaper_has {k : EmSource} (hk : k ≠ .loopDropped) (up : Bool) (m : BitVec 8) (sh : ShaperRec) :
    (shedShaper up m sh).has k = (sh.has k && !hasFlag m k.idx) := by
  have hloop : hasFlag (addFlag (0 : BitVec 8) EmSource.loopDropped.idx) k.idx = false := by
    revert hk
    cases k <;> decide
  have hrest := hasFlag_and_not sh.sources m k.idx_lt
  unfold ShaperRec.has
  rw [← hrest]
  by_cases he : (emptiedBy sh m && !up) = true
  · have h0 : sh.sources &&& ~~~m = 0 := by
      have : (sh.sources ≠ 0 ∧ sh.sources &&& ~~~m = 0) ∧ up = false := by simpa [emptiedBy] using he
      exact this.1.2
    simp only [shedShaper, he, if_true, hloop, h0]
    simp
  · simp only [shedShaper, he, Bool.false_eq_true, if_false]

/-- The set of the statements as one of conditions and sources. -/
theorem endAtRest_eq (s : State) :
    endAtRest s = sourceIf (s.shaper.leverBack || s.auth.isLost) .lever ||| sourceIf (!s.lines.emstopA) .emstopA |||
      sourceIf (!s.lines.emstopB) .emstopB ||| sourceIf s.tlink.brk.answering .brakeLink |||
      sourceIf s.outbank.linkUp .loopDropped ||| sourceIf s.auth.isLost .authLost := rfl

/-! ### What the check of a claim keeps -/

theorem syncCheck_section (w : State) : w.syncCheck.stop.sect = w.stop.sect := by
  unfold State.syncCheck
  split
  · split
    · rw [heldEntered_stop]
    · rfl
  · rfl

theorem syncCheck_vigil_idle {w : State} (h : w.vigil.state = .idle) : w.syncCheck.vigil.state = .idle := by
  unfold State.syncCheck
  split
  · split
    · rw [heldEntered_vigil]
      simp [h]
    · exact h
  · exact h

theorem syncCheck_source_gone {w : State} {k : EmSource} (hk : k ≠ .loopDropped) (h : w.shaper.has k = false) :
    w.syncCheck.shaper.has k = false := by
  unfold State.syncCheck
  split
  next x start c _ =>
    split
    next hsync =>
      have hst := ((synchronises_iff _ _ _).mp hsync).1
      have hleft : (w.enterHeld x c).shaper.has k = (shedShaper w.outbank.linkUp (heldMask w) w.shaper).has k := by
        unfold ShaperRec.has
        rw [heldEntered_shaper w x c hst, heldSources_eq w hst]
      rw [hleft, shedShaper_has hk, h, Bool.false_and]
    next => exact h
  next => exact h

/-- A tram in motion does not synchronise. -/
theorem syncCheck_moving {w : State} (h : w.wheel.stationary = false) : w.syncCheck = w := by
  unfold State.syncCheck
  split
  · exact if_neg (by simp [State.synchronises, h])
  · rfl

/-! ### The obligations -/

/-- Settles O16: the change of STATIONARY as its own lemmas say it, then the check of a claim. -/
theorem windowSetsStandstill : Obligations.WindowSetsStandstill := by
  intro s hrun
  refine ⟨_, exec_windowEnd hrun, ?_⟩
  have hwheel : s.windowEnd.deliver.wheel = wheelAfter s := windowEnd_wheel hrun
  have hnow : s.windowEnd.deliver.now = max s.now (s.wheel.windowAt + 250) := windowEnd_now hrun
  have hpub := windowPublished_eq hrun.2
  unfold windowStandstill
  intro empty enters leaves
  have hrest (h : enters) : settled s = (windowPublished s).comesToRest ∧ (windowPublished s).wheel.stationary = true :=
    settled_enters hrun (hwheel ▸ h.1) h.2
  have hmove (h : leaves) : s.windowEnd = (windowPublished s).beginsToMove := by
    have hst : (wheelAfter s).stationary = false := hwheel ▸ h.1
    have hstill : (settled s).wheel.stationary = false := by
      rw [settled_frame hrun.2]
      exact hst
    rw [windowEnd_eq_settled, syncCheck_moving hstill, settled_leaves hst h.2]
  have hmoved (h : leaves) : beginsToMove s s.windowEnd.deliver := by
    rw [hmove h]
    exact beginsToMove_of_published hrun (beginsToMove_state (windowPublished s))
  refine ⟨hnow, ?windowAt, ?run, ?stationary, ?reverse, ?odometer, fun h hlost hw => ?idle, fun h _ hbrk => ?brake, fun h hr hd => ?sect,
    fun h hc => ?rest, hmoved, fun h hbrk hinv => ?link, windowEnd_notified hrun, ?frame, fun hne hnl hc => ?same⟩
  case windowAt => rw [hwheel, hnow, wheelAfter_windowAt]
  case run => rw [hwheel, wheelAfter_emptyRun]
  case stationary => rw [hwheel, wheelAfter_stationary]
  case reverse =>
    have hif : enters ↔ (wheelAfter s).stationary = true ∧ s.wheel.stationary = false := by rw [← hwheel]
    have hpair := congrArg (fun w : WheelRec => (w.reverse, w.rollback)) hwheel
    exact hpair.trans ((wheelAfter_reverse s).trans (if_congr hif.symm rfl rfl))
  case odometer => rw [hwheel, wheelAfter_odometer]
  case idle =>
    obtain ⟨hsettled, hst⟩ := hrest h
    have hi : (settled s).vigil.state = .idle := by
      have hvigil := comesToRest_vigil hst
      rw [hpub] at hvigil
      simp only [hlost, (watching_iff _).mp hw, Bool.false_eq_true, if_false, if_true] at hvigil
      rw [hsettled, hpub, hvigil]
    exact syncCheck_vigil_idle hi
  case brake =>
    obtain ⟨hsettled, hst⟩ := hrest h
    have hgone : (settled s).shaper.has .brakeLink = false := by
      have hsources : (settled s).shaper.has .brakeLink =
          (shedShaper (windowPublished s).outbank.linkUp (endAtRest (windowPublished s)) (windowPublished s).shaper).has .brakeLink := by
        unfold ShaperRec.has
        rw [hsettled, comesToRest_sources hst]
      have hflag : hasFlag (endAtRest (windowPublished s)) EmSource.brakeLink.idx = true := by
        rw [hpub, endAtRest_eq]
        simp [hasFlag_sourceIf, hbrk]
      rw [hsources, shedShaper_has (by simp), hflag, Bool.not_true, Bool.and_false]
    exact syncCheck_source_gone (by simp) hgone
  case sect =>
    obtain ⟨hsettled, hst⟩ := hrest h
    have hstop : (settled s).stop.sect = .atStop := by
      have hstop := comesToRest_stop hst
      rw [hpub] at hstop
      simp only [hr, hd, and_self, if_true] at hstop
      rw [hsettled, hpub, hstop]
      rfl
    exact (syncCheck_section (settled s)).trans hstop
  case rest =>
    obtain ⟨hsettled, hst⟩ := hrest h
    rw [windowEnd_of_no_claimant hrun hc, hsettled]
    exact comesToRest_of_published hrun (comesToRest_state hst)
  case link =>
    obtain ⟨hactive, -, -⟩ := hinv
    obtain ⟨-, -, -, hshaper, -⟩ := hmoved h
    have hadded : hasFlag (addFlag s.shaper.sources EmSource.brakeLink.idx) EmSource.brakeLink.idx = true := by
      simp [hasFlag_addFlag _ EmSource.brakeLink.idx_lt]
    rw [hshaper]
    refine ⟨by simpa [ShaperRec.has, hbrk] using hadded, ?_⟩
    by_cases h0 : s.shaper.sources = 0
    · simp [hbrk, h0]
    · simp [hbrk, hactive h0]
  case frame =>
    have hframe := congrArg (fun w : State => { w.deliver with
      now := s.now, ports := s.ports, auth := s.auth, wheel := s.wheel, shaper := s.shaper, vigil := s.vigil, sound := s.sound
      stop := s.stop, junct := s.junct }) (windowEnd_frame hrun.2)
    exact hframe.trans (with_raised_none hrun.2)
  case same =>
    have hsame : (wheelAfter s).stationary = s.wheel.stationary := by
      rw [← hwheel]
      cases h1 : s.windowEnd.deliver.wheel.stationary <;> cases h2 : s.wheel.stationary
      · rfl
      · exact absurd ⟨h1, h2⟩ hnl
      · exact absurd ⟨h1, h2⟩ hne
      · rfl
    rw [windowEnd_of_no_claimant hrun hc, settled_neither hsame, hpub]
    exact with_raised_none hrun.2

section
variable {s : State} (hrun : Running s) (hst : s.wheel.stationary = false) (h3 : s.wheel.emptyRun = 3)
  (h1 : s.wheel.s1.count = 0) (h2 : s.wheel.s2.count = 0) (hc : s.auth.claimant = none)
include hrun hst h3 h1 h2 hc

/-- What the window end that sets STATIONARY leaves where no claim has claimant fields. -/
theorem windowEnd_stands : comesToRest s s.windowEnd.deliver ∧ s.windowEnd.deliver.wheel.stationary = true := by
  have hset := wheelAfter_fourth h3 h1 h2
  obtain ⟨hsettled, hpst⟩ := settled_enters hrun hset hst
  refine ⟨?_, (congrArg WheelRec.stationary (windowEnd_wheel hrun)).trans hset⟩
  rw [windowEnd_of_no_claimant hrun hc, hsettled]
  exact comesToRest_of_published hrun (comesToRest_state hpst)

theorem windowEnd_shaper : s.windowEnd.deliver.shaper.sources = (shedShaper s.outbank.linkUp (endAtRest s) s.shaper).sources := by
  obtain ⟨⟨-, hshaper, -⟩, -⟩ := windowEnd_stands hrun hst h3 h1 h2 hc
  rw [hshaper, shedShaper_cases]

end

/-- Settles O26: the sources left are those whose condition does not hold. -/
theorem standstillRemovesSources : Obligations.StandstillRemovesSources := by
  intro s hrun hheld hst h3 h1 h2 hup
  have hlost : s.auth.isLost = false := by cases ha : s.auth <;> simp_all [Auth.isHeld, Auth.isLost]
  have hc : s.auth.claimant = none := by cases ha : s.auth <;> simp_all [Auth.isHeld, Auth.claimant]
  obtain ⟨⟨-, hshaper, -⟩, -⟩ := windowEnd_stands hrun hst h3 h1 h2 hc
  have hsources := windowEnd_shaper hrun hst h3 h1 h2 hc
  have hhas (k : EmSource) (hk : k ≠ .loopDropped) :
      s.windowEnd.deliver.shaper.has k = (s.shaper.has k && !hasFlag (endAtRest s) k.idx) := by
    rw [← shedShaper_has hk s.outbank.linkUp (endAtRest s) s.shaper]
    unfold ShaperRec.has
    rw [hsources]
  refine ⟨_, exec_windowEnd hrun, ?lever, fun c => ?emstop, ?brake, ?loop, fun k hk => ?kept, fun hne he => ?emptied⟩
  case lever =>
    rw [hhas _ (by simp), endAtRest_eq]
    simp [hasFlag_sourceIf, hlost]
  case emstop =>
    cases c
    · rw [EmSource.emstop, hhas _ (by simp), endAtRest_eq]
      simp [hasFlag_sourceIf, emstopLevel]
    · rw [EmSource.emstop, hhas _ (by simp), endAtRest_eq]
      simp [hasFlag_sourceIf, emstopLevel]
  case brake =>
    rw [hhas _ (by simp), endAtRest_eq]
    simp [hasFlag_sourceIf]
  case loop =>
    have hrest : s.windowEnd.deliver.shaper.sources = s.shaper.sources &&& ~~~(endAtRest s) := by
      rw [hsources, hup]
      simp [shedShaper]
    have hflag : hasFlag (endAtRest s) EmSource.loopDropped.idx = true := by
      rw [endAtRest_eq]
      simp [hasFlag_sourceIf, hup]
    unfold ShaperRec.has
    rw [hrest, hasFlag_and_not _ _ (by decide), hflag, Bool.not_true, Bool.and_false]
  case kept =>
    have hflag : k ≠ .loopDropped ∧ hasFlag (endAtRest s) k.idx = false := by
      rw [endAtRest_eq]
      simp only [List.mem_cons, List.not_mem_nil, or_false] at hk
      rcases hk with rfl | rfl | rfl <;> simp [hasFlag_sourceIf, hlost]
    rw [hhas k hflag.1, hflag.2, Bool.not_false, Bool.and_true]
  case emptied =>
    have hempties : (emptiedBy s.shaper (endAtRest s) && s.outbank.linkUp) = true := by
      rw [← emptied_iff, ← hsources]
      exact ⟨hne, he⟩
    rw [emptiedBy_and_iff] at hempties
    refine ⟨by rw [hshaper]; exact if_pos (.inr (.inl hempties)), by rw [hshaper]; exact if_pos hempties, (calm_iff _).mpr he, fun p _ => ?_⟩
    refine told_of_notified (windowEnd_notified hrun) ?_
    have hchanged : ¬(s.shaper.sources = 0 ↔ s.windowEnd.deliver.shaper.sources = 0) := fun e => hne (e.mpr he)
    simp only [windowKinds, hchanged, if_false, hasFlag_or, hasFlag_only, Bool.or_true, Bool.true_or]

/-- Settles O8: the keys, the claims and VACATE by what AUTH is, the end of LOST by what standstill brings. -/
theorem lostUntilStandstill : Obligations.LostUntilStandstill := by
  refine ⟨fun s c hrun => ?on, fun s x d hrun ha => ⟨fun c => ?off, fun c ht => ?claim, fun ht => ?vacate, fun hst h3 h1 h2 => ?ends⟩⟩
  case on =>
    have hquiet : (s.keyTo c true).raised = s.raised := rfl
    exact congrArg Host.Outcome.next (lineEvent_quiet hrun hquiet)
  case off =>
    have hkey : (s.keyTo c false).keyGoesOff c = s.keyTo c false := by simp [State.keyGoesOff, ha]
    have hevent := lineEvent_quiet (l := State.keyTo c false) (f := fun s => (s.keyTo c false).keyGoesOff c) hrun
      (by rw [hkey]; rfl)
    exact congrArg Host.Outcome.next (hevent.trans hkey)
  case claim => exact exec_deskClaim_refused ht (by simp [State.claimRule, ha])
  case vacate =>
    refine exec_vacate_refused ht ?_
    simp [State.vacateRule, ha]
  case ends =>
    have hlost : s.auth.isLost = true := by simp [ha, Auth.isLost]
    have hc : s.auth.claimant = none := by simp [ha, Auth.claimant]
    obtain ⟨hrest, hwst⟩ := windowEnd_stands hrun hst h3 h1 h2 hc
    have hrest' := hrest
    obtain ⟨hauth, hshaper, -, hvigil, -⟩ := hrest'
    have hsources := windowEnd_shaper hrun hst h3 h1 h2 hc
    rw [hlost, if_pos rfl] at hauth
    refine ⟨_, exec_windowEnd hrun, hauth, ?gone, hwst, fun hp => ?penalty, fun p => ?told, ?demand, hrest, windowEnd_notified hrun,
      ?frame⟩
    case gone =>
      have hleft : s.windowEnd.deliver.shaper.has .authLost =
          (shedShaper s.outbank.linkUp (endAtRest s) s.shaper).has .authLost := by
        unfold ShaperRec.has
        rw [hsources]
      have hflag : hasFlag (endAtRest s) EmSource.authLost.idx = true := by
        rw [endAtRest_eq]
        simp [hasFlag_sourceIf, hlost]
      rw [hleft, shedShaper_has (by simp), hflag, Bool.not_true, Bool.and_false]
    case penalty =>
      rw [hvigil]
      simp [hlost, hp]
    case told =>
      refine told_of_notified (windowEnd_notified hrun) ?_
      have hne : ¬s.auth = s.windowEnd.deliver.auth := by
        rw [ha, hauth]
        simp
      simp only [windowKinds, hne, if_false, hasFlag_or, hasFlag_only, Bool.or_true, Bool.true_or]
    case demand =>
      rw [hshaper]
      simp [hlost]
    case frame =>
      have hframe := congrArg (fun w : State => { w.deliver with
        now := s.now, ports := s.ports, auth := s.auth, wheel := s.wheel, shaper := s.shaper, vigil := s.vigil, sound := s.sound
        stop := s.stop, junct := s.junct }) (windowEnd_frame hrun.2)
      exact hframe.trans (with_raised_none hrun.2)

end Sys2Proof.Proofs
end

section
/-! A pulse, the lines of the doors, and the retried check of a claim (O14, O27, O28). -/

namespace Sys2Proof.Proofs

open Sys2Proof Sys2Proof.Machine

/-! ### A pulse (R20, R31, R33, R34, R165) -/

section
variable (s : State) (i : Sensor) (bHigh : Bool)

/-- WHEEL after a pulse. -/
def wheelPulsed : WheelRec :=
  let w := s.wheel.pulse i
  if i = s.wheel.odometerSensor then
    let w := w.travel s.settings.circumference
    if againstDirection s.auth bHigh then w.countReverse s.settings.circumference else w
  else w

/-- Whether a pulse retires a transaction (R165). -/
def pulseRetires : Bool :=
  decide (i = s.wheel.odometerSensor) && s.junct.list.any fun x => decide (x.clearMark ≤ (wheelPulsed s i bHigh).odometer)

theorem pulse_eq :
    s.pulse i bHigh = { s with
      wheel := wheelPulsed s i bHigh
      junct := if pulseRetires s i bHigh then
          { s.junct with
            list := s.junct.list.filter (fun x => decide ((wheelPulsed s i bHigh).odometer < x.clearMark)), overflow := false }
        else s.junct
      raised := s.raised ||| kindIf ((wheelPulsed s i bHigh).rollback && !s.wheel.rollback) .rollback |||
        kindIf (pulseRetires s i bHigh) .junctionChanged } := by
  by_cases hi : i = s.wheel.odometerSensor
  · have htravel (w : WheelRec) (c : Nat) : (w.travel c).rollback = w.rollback := by
      unfold WheelRec.travel
      split <;> rfl
    have hw : wheelPulsed s i bHigh =
        if againstDirection s.auth bHigh then ((s.wheel.pulse i).travel s.settings.circumference).countReverse s.settings.circumference
        else (s.wheel.pulse i).travel s.settings.circumference := if_pos hi
    have hroll : ((s.wheel.pulse i).travel s.settings.circumference).rollback = s.wheel.rollback := htravel _ _
    unfold State.pulse State.odometerPulse State.retireCleared
    simp only [decide_eq_true hi, if_true, hroll, ← hw, ite_addFlag_eq_or, pulseRetires, Bool.true_and]
  · have hw : wheelPulsed s i bHigh = s.wheel.pulse i := if_neg hi
    have hroll : ((s.wheel.pulse i).rollback && !s.wheel.rollback) = false := by simp [WheelRec.pulse]
    have hno : pulseRetires s i bHigh = false := by simp [pulseRetires, hi]
    unfold State.pulse
    simp only [decide_eq_false hi, Bool.false_eq_true, if_false, hw, hroll, hno, kindIf_false, BitVec.or_zero]

theorem wheelPulsed_sensors :
    sensorOf (wheelPulsed s i bHigh) i = { sensorOf s.wheel i with count := min 511 ((sensorOf s.wheel i).count + 1) } ∧
      sensorOf (wheelPulsed s i bHigh) (otherSensor i) = sensorOf s.wheel (otherSensor i) := by
  have htravel (w : WheelRec) (c : Nat) (j : Sensor) : sensorOf (w.travel c) j = sensorOf w j := by
    unfold WheelRec.travel
    cases j <;> split <;> rfl
  have hreverse (w : WheelRec) (c : Nat) (j : Sensor) : sensorOf (w.countReverse c) j = sensorOf w j := by cases j <;> rfl
  have hsame (j : Sensor) : sensorOf (wheelPulsed s i bHigh) j = sensorOf (s.wheel.pulse i) j := by
    unfold wheelPulsed
    split_ifs <;> simp only [hreverse, htravel]
  rw [hsame, hsame]
  cases i <;> exact ⟨rfl, rfl⟩

/-- Whether a pulse drives the odometer. -/
def pulseDrives : Bool := decide (i = if s.wheel.s1.failed then .two else .one)

theorem pulseDrives_iff : pulseDrives s i = true ↔ i = s.wheel.odometerSensor := by simp [pulseDrives, WheelRec.odometerSensor]

theorem wheelPulsed_odometer :
    (wheelPulsed s i bHigh).odometer =
        (if pulseDrives s i && !decide (s.wheel.odometer = odometerMax) then
          min odometerMax (s.wheel.odometer + (s.wheel.remainder + s.settings.circumference) / 64) else s.wheel.odometer) ∧
      (wheelPulsed s i bHigh).remainder =
        (if pulseDrives s i && !decide (s.wheel.odometer = odometerMax) then
          (s.wheel.remainder + s.settings.circumference) % 64 else s.wheel.remainder) := by
  have hiff := pulseDrives_iff s i
  unfold wheelPulsed
  by_cases hi : i = s.wheel.odometerSensor
  · have hd : pulseDrives s i = true := hiff.mpr hi
    by_cases hfull : s.wheel.odometer = odometerMax
    · have htravel : (s.wheel.pulse i).travel s.settings.circumference = s.wheel.pulse i := if_pos hfull
      simp only [if_pos hi, htravel, hd, decide_eq_true hfull]
      split_ifs <;> simp_all [WheelRec.countReverse, WheelRec.pulse]
    · have htravel : (s.wheel.pulse i).travel s.settings.circumference =
          { s.wheel.pulse i with
            odometer := min odometerMax (s.wheel.odometer + (s.wheel.remainder + s.settings.circumference) / 64)
            remainder := (s.wheel.remainder + s.settings.circumference) % 64 } := if_neg hfull
      simp only [if_pos hi, htravel, hd, decide_eq_false hfull]
      split_ifs <;> simp_all [WheelRec.countReverse]
  · have hd : pulseDrives s i = false := Bool.eq_false_iff.mpr fun e => hi (hiff.mp e)
    simp only [if_neg hi, hd]
    simp [WheelRec.pulse]

theorem wheelPulsed_reverse :
    let counted := pulseDrives s i && s.auth.isHeld && decide (s.auth.vdir = if bHigh then .plus else .minus)
    (wheelPulsed s i bHigh).reverse = (if counted then min 4194240 (s.wheel.reverse + s.settings.circumference) else s.wheel.reverse) ∧
      (wheelPulsed s i bHigh).rollback = (s.wheel.rollback || counted && decide (19200 ≤ (wheelPulsed s i bHigh).reverse)) := by
  intro counted
  have hiff := pulseDrives_iff s i
  have htravel (w : WheelRec) (c : Nat) : (w.travel c).reverse = w.reverse ∧ (w.travel c).rollback = w.rollback := by
    unfold WheelRec.travel
    split <;> exact ⟨rfl, rfl⟩
  obtain ⟨hreverse, hroll⟩ := htravel (s.wheel.pulse i) s.settings.circumference
  unfold wheelPulsed
  by_cases hi : i = s.wheel.odometerSensor
  · have hc : counted = againstDirection s.auth bHigh := by
      simp only [counted, hiff.mpr hi, Bool.true_and, againstDirection]
    rw [hc]
    cases againstDirection s.auth bHigh with
    | true =>
      simp only [if_pos hi, if_true, WheelRec.countReverse, hreverse, hroll]
      exact ⟨rfl, rfl⟩
    | false =>
      simp only [if_pos hi, Bool.false_eq_true, if_false, Bool.false_and, Bool.or_false]
      exact ⟨hreverse, hroll⟩
  · have hd : pulseDrives s i = false := Bool.eq_false_iff.mpr fun e => hi (hiff.mp e)
    simp only [counted, if_neg hi, hd]
    simp [WheelRec.pulse]

end

/-- Settles O14. -/
theorem tachoPulseCounted : Obligations.TachoPulseCounted := by
  intro i bHigh s hrun
  refine ⟨(s.pulse i bHigh).deliver, congrArg Host.Outcome.next (State.event_of hrun.1), ?_⟩
  have hpulse := pulse_eq s i bHigh
  have hwheel : (s.pulse i bHigh).deliver.wheel = wheelPulsed s i bHigh := by rw [hpulse]; rfl
  have hraised : (s.pulse i bHigh).raised = kindIf ((wheelPulsed s i bHigh).rollback && !s.wheel.rollback) .rollback |||
      kindIf (pulseRetires s i bHigh) .junctionChanged := by
    rw [hpulse, show s.raised = 0#20 from hrun.2, BitVec.zero_or]
  obtain ⟨hself, hother⟩ := wheelPulsed_sensors s i bHigh
  obtain ⟨hodometer, hremainder⟩ := wheelPulsed_odometer s i bHigh
  obtain ⟨hreverse, hroll⟩ := wheelPulsed_reverse s i bHigh
  unfold pulseLeaves
  rw [hwheel]
  have hgone : pulseRetires s i bHigh =
      (pulseDrives s i && s.junct.list.any fun x => decide (x.clearMark ≤ (wheelPulsed s i bHigh).odometer)) := rfl
  refine ⟨hself, hother, hodometer, hremainder, hreverse, hroll, ?junct, fun p => ?told, ?wheel, ?frame⟩
  case junct =>
    rw [hpulse]
    rfl
  case told =>
    have hports : (s.pulse i bHigh).ports = s.ports := by rw [hpulse]
    have hauth : (s.pulse i bHigh).auth = s.auth := by rw [hpulse]
    rw [deliver_notified hports p, hraised, hauth]
    simp only [noticesFor_or, noticesFor_kindIf]
    rfl
  case wheel =>
    have htravel (w : WheelRec) (c : Nat) : { w.travel c with odometer := w.odometer, remainder := w.remainder } = w := by
      unfold WheelRec.travel
      split <;> rfl
    unfold wheelPulsed
    split_ifs
    · exact congrArg (fun w : WheelRec => { w with
        s1 := s.wheel.s1, s2 := s.wheel.s2, reverse := s.wheel.reverse, rollback := s.wheel.rollback })
        (htravel (s.wheel.pulse i) s.settings.circumference)
    · exact congrArg (fun w : WheelRec => { w with
        s1 := s.wheel.s1, s2 := s.wheel.s2, reverse := s.wheel.reverse, rollback := s.wheel.rollback })
        (htravel (s.wheel.pulse i) s.settings.circumference)
    · rfl
  case frame =>
    rw [hpulse]
    exact with_raised_none hrun.2

/-! ### The doors (R39, R55, R104, R136, R137) -/

/-- The state as DCL's fall is noted, the section not yet ended. -/
def doorsNoted (s : State) : State :=
  { s with
    lines := { s.lines with dcl := false }
    shaper := { s.shaper with zeroPass := false, doorReported := s.shaper.doorReported || !s.wheel.stationary }
    sound := { s.sound with departurePending := false, openingAtRest := s.wheel.stationary }
    raised := s.raised ||| kindIf (!s.wheel.stationary && !s.shaper.doorReported) .doorOpenMoving }

theorem doorsOpen_eq (s : State) :
    s.doorsOpen = if s.wheel.stationary then (doorsNoted s).testSectionEnd else doorsNoted s := by
  simp only [State.doorsOpen, ite_addFlag_eq_or]
  rfl

theorem doorsOpen_frame (s : State) :
    s.doorsOpen = { doorsNoted s with
      stop := if s.wheel.stationary = true ∧ s.stop.sect = .running then sectionEnded s s.now else s.stop
      raised := (doorsNoted s).raised |||
        kindIf (decide (s.wheel.stationary = true ∧ s.stop.sect = .running) && s.stop.record.first.isSome) .stopChanged } := by
  rw [doorsOpen_eq]
  cases hst : s.wheel.stationary with
  | false => simp [doorsNoted]
  | true =>
    have htold : sectionTold (doorsNoted s) = (decide (s.stop.sect = .running) && s.stop.record.first.isSome) := by
      simp [sectionTold, doorsNoted]
    have hstop : (doorsNoted s).testSectionEnd.stop = if s.stop.sect = .running then sectionEnded s s.now else s.stop := by
      rw [testSectionEnd_stop]
      simp [doorsNoted, sectionEnded]
    rw [if_pos rfl, testSectionEnd_eq, testSectionEnd_raised, htold, hstop]
    simp

/-- Settles O28. -/
theorem doorLinesAct : Obligations.DoorLinesAct := by
  intro s hrun
  have hframe := doorsOpen_frame s
  refine ⟨⟨s.doorsOpen.deliver, congrArg Host.Outcome.next (State.lineEvent_of hrun.1), by rw [hframe]; rfl, by rw [hframe]; rfl,
    by rw [hframe]; rfl, by rw [hframe]; rfl, by rw [hframe]; rfl, ⟨by rw [hframe]; rfl, fun p => ?told⟩, by rw [hframe]; rfl,
    by rw [hframe]; rfl, ?frame⟩, ?close⟩
  case told =>
    have hports : s.doorsOpen.ports = s.ports := by rw [hframe]; rfl
    have hauth : s.doorsOpen.auth = s.auth := by rw [hframe]; rfl
    have hraised : s.doorsOpen.raised =
        kindIf (!s.wheel.stationary && !s.shaper.doorReported) .doorOpenMoving |||
          kindIf (decide (s.wheel.stationary = true ∧ s.stop.sect = .running) && s.stop.record.first.isSome) .stopChanged := by
      rw [hframe]
      simp only [doorsNoted, show s.raised = 0#20 from hrun.2, BitVec.zero_or]
    rw [deliver_notified hports p, hraised, hauth]
    simp only [noticesFor_or, noticesFor_kindIf]
  case frame =>
    rw [hframe]
    exact with_raised_none hrun.2
  case close =>
    have hclose : s.doorsClose = { s with
        lines := { s.lines with dcl := true }, shaper := { s.shaper with doorReported := false }
        sound := { s.sound with departurePending := s.sound.departurePending || s.sound.openingAtRest }
        stop := { s.stop with
          sect := .running
          record := { s.stop.record with chime := if s.stop.sect = .atStop then false else s.stop.record.chime } } } := by
      unfold State.doorsClose
      by_cases h : s.stop.sect = .atStop <;> simp [h]
    have hquiet : s.doorsClose.raised = s.raised := rfl
    exact congrArg Host.Outcome.next ((lineEvent_quiet hrun hquiet).trans hclose)

end Sys2Proof.Proofs
end

section
/-! SUPPORT. The closing of a poll (R64, R75 to R80), before the check of a claim. -/

namespace Sys2Proof.Proofs

open Sys2Proof Sys2Proof.Machine

/-! ### A source removed or added under a condition -/

section
variable {s v : State} {k : EmSource} {b : Bool} (hshaper : v.shaper = s.shaper) (hsound : v.sound = s.sound)
include hshaper hsound

omit hsound in
theorem shedIf_idle (h : ¬(b = true ∧ s.shaper.has k = true)) : shed (sourceIf b k) v = v := by
  cases b with
  | false => exact shed_none v
  | true =>
    have habsent : v.shaper.has k = false := by
      rw [hshaper]
      exact Bool.eq_false_iff.mpr fun e => h ⟨rfl, e⟩
    exact shed_absent habsent

/-- What a removal under a condition leaves and raises. -/
theorem shedIf_leaves (hup : v.outbank.linkUp = s.outbank.linkUp) (hnow : v.now = s.now) :
    let w := shed (sourceIf b k) v
    let removes := b = true ∧ s.shaper.has k = true
    (removes → sourceRemoved s w k) ∧ (¬removes → w.shaper = s.shaper ∧ w.sound = s.sound) ∧
      w.raised = v.raised ||| kindIf (decide (removes ∧ w.shaper.sources = 0)) .emergencyChanged := by
  intro w removes
  have hkept : soundKept s.sound v.sound [] := by
    rw [hsound]
    exact soundKept_refl _ _
  by_cases h : b = true ∧ s.shaper.has k = true
  · have hr : removes := h
    have hw : w = shed (addFlag 0 k.idx) v := by simp [w, h.1, sourceIf]
    have hne : s.shaper.sources ≠ 0 := by
      intro e
      have := h.2
      simp [ShaperRec.has, e] at this
    have hsources : w.shaper.sources = (shedShaper s.outbank.linkUp (addFlag 0 k.idx) s.shaper).sources := by
      rw [hw, ← hshaper, ← hup]
      rfl
    have hempties : (emptiedBy v.shaper (addFlag 0 k.idx) && v.outbank.linkUp) = decide (removes ∧ w.shaper.sources = 0) := by
      rw [hshaper, hup, Bool.eq_iff_iff, decide_eq_true_iff, ← emptied_iff, ← hsources]
      exact ⟨fun e => ⟨hr, e.2⟩, fun e => ⟨hne, e.2⟩⟩
    refine ⟨fun _ => ?_, fun hno => absurd hr hno, ?_⟩
    · rw [hw]
      exact sourceRemoved_shed h.2 hshaper hup hnow hkept (by simp)
    · rw [hw, shed_raised, hempties, hw]
  · have hno : ¬removes := h
    have hw : w = v := shedIf_idle hshaper h
    refine ⟨fun e => absurd e hno, fun _ => ⟨by rw [hw, hshaper], by rw [hw, hsound]⟩, ?_⟩
    simp [hw, hno]

/-- What an addition under a condition leaves and raises. -/
theorem addIf_leaves :
    let w := v.addSourceIf b k
    (b = true → sourceAdded s w k) ∧ (b = false → w.shaper = s.shaper ∧ w.sound = s.sound) ∧
      w.raised = v.raised ||| kindIf (decide (b = true ∧ s.shaper.sources = 0)) .emergencyChanged := by
  intro w
  refine ⟨fun hb => ?_, fun hb => ?_, ?_⟩
  · have hadded := sourceAdded_addSource v k
    rw [sourceAdded, hshaper, hsound] at hadded
    have hw : w = v.addSource k := by simp [w, State.addSourceIf, hb]
    rw [hw]
    exact hadded
  · have hw : w = v := by simp [w, State.addSourceIf, hb]
    exact ⟨hw ▸ hshaper, hw ▸ hsound⟩
  · simp only [w, addSourceIf_raised, hshaper, Bool.decide_and, Bool.decide_eq_true]

end

/-! ### BRK's poll -/

/-- The state as a closing of BRK's poll notes the record. -/
def brkNoted (t : BrkRec) (s : State) : State :=
  { s with
    tlink := { s.tlink with brk := t, poll := none }
    raised := s.raised ||| kindIf (decide (s.tlink.brk.watched ≠ t.watched)) .stationChanged }

theorem closeBrk_good (s : State) (r : BrkReply) :
    s.closeBrk (s.tlink.brk.good r) =
      (shed (sourceIf (!s.tlink.brk.answering && s.wheel.stationary) .brakeLink) (brkNoted (s.tlink.brk.good r) s)).syncCheck := by
  have hnoted : (brkNoted (s.tlink.brk.good r) s).testBrakeLink =
      shed (sourceIf s.wheel.stationary .brakeLink) (brkNoted (s.tlink.brk.good r) s) := by
    unfold State.testBrakeLink
    rw [removeSourceIf_eq_shed]
    congr 2
    exact Bool.and_true _
  have hs' : (({ s with
      tlink := { s.tlink with brk := s.tlink.brk.good r }.nextPoll s.now .brk
      raised := if s.tlink.brk.watched ≠ (s.tlink.brk.good r).watched then addFlag s.raised Notice.stationChanged.idx
        else s.raised } : State)) = brkNoted (s.tlink.brk.good r) s := by
    simp only [brkNoted, TlinkRec.nextPoll, ite_addFlag_eq_or']
  unfold State.closeBrk
  rw [hs']
  cases ha : s.tlink.brk.answering with
  | true => simp [BrkRec.good, sourceIf]
  | false =>
    simp only [BrkRec.good, Bool.not_false, Bool.true_and, if_true]
    exact congrArg State.syncCheck hnoted

/-- Whether a miss loses BRK (R76). -/
def brkLost (b : BrkRec) : Bool := b.answering && decide (4 ≤ b.missRun)

theorem brkMiss_eq (b : BrkRec) : b.miss = { b with answering := b.answering && !brkLost b, missRun := min 5 (b.missRun + 1) } := by
  have h : decide (b.missRun + 1 < 5) = !decide (4 ≤ b.missRun) := by
    rw [← decide_not, decide_eq_decide]
    omega
  cases ha : b.answering <;> simp [BrkRec.miss, brkLost, ha, h]

theorem closeBrk_miss (s : State) :
    s.closeBrk s.tlink.brk.miss =
      ((brkNoted s.tlink.brk.miss s).addSourceIf (brkLost s.tlink.brk && !s.wheel.stationary) .brakeLink).syncCheck := by
  have hs' : (({ s with
      tlink := { s.tlink with brk := s.tlink.brk.miss }.nextPoll s.now .brk
      raised := if s.tlink.brk.watched ≠ s.tlink.brk.miss.watched then addFlag s.raised Notice.stationChanged.idx
        else s.raised } : State)) = brkNoted s.tlink.brk.miss s := by
    simp only [brkNoted, TlinkRec.nextPoll, ite_addFlag_eq_or']
  unfold State.closeBrk
  rw [hs']
  have hm : s.tlink.brk.miss.answering = (s.tlink.brk.answering && !brkLost s.tlink.brk) := by rw [brkMiss_eq]
  cases ha : s.tlink.brk.answering with
  | false => simp [hm, ha, brkLost, State.addSourceIf]
  | true =>
    cases hl : brkLost s.tlink.brk with
    | true => simp [hm, ha, hl]
    | false => simp [hm, ha, hl, State.addSourceIf]

/-- What of a good reply STATION_CHANGED reports (R77). -/
theorem brkGood_watched (b : BrkRec) (r : BrkReply) :
    decide (b.watched ≠ (b.good r).watched) =
      (!b.answering || (b.last.map fun q => (q.unit, q.brakeAvailable)) != some (r.unit, r.brakeAvailable)) := by
  by_cases h : (b.last.map fun q => (q.unit, q.brakeAvailable)) = some (r.unit, r.brakeAvailable)
  · cases ha : b.answering <;> simp [BrkRec.watched, BrkRec.good, ha, h]
  · cases ha : b.answering <;> simp [BrkRec.watched, BrkRec.good, ha, h]

/-- What of a miss STATION_CHANGED reports: the station's loss (R77). -/
theorem brkMiss_watched (b : BrkRec) : decide (b.watched ≠ b.miss.watched) = brkLost b := by
  rw [brkMiss_eq]
  cases ha : b.answering <;> cases hl : brkLost b <;> simp_all [BrkRec.watched, brkLost]

end Sys2Proof.Proofs
end

section
/-! SUPPORT. A reply and a miss of the polled station, before the check of a claim (R64, R74 to R80). -/

namespace Sys2Proof.Proofs

open Sys2Proof Sys2Proof.Machine

/-! ### The events -/

theorem stationReply_taken {s : State} {p : PollRec} {r : StationReply} (hp : s.tlink.poll = some p) (hw : s.now ≤ p.began + 2)
    (hst : replyStation r = p.frame.station) : s.stationReply r = s.answer.closeReply r := by
  have hwindow : s.window = some p := State.window_eq_some.mpr ⟨hp, hw⟩
  simp [State.stationReply, hwindow, hst]

theorem stationMiss_bad {s : State} {p : PollRec} {st : Station} (hp : s.tlink.poll = some p) (hst : p.frame.station = st)
    (hw : s.now ≤ p.began + 2) : s.stationMiss st .bad = s.answer.closeMiss st := by
  have hpoll : s.tlink.pollOf st = some p := TlinkRec.pollOf_eq_some.mpr ⟨hp, hst⟩
  have hcloses : s.now ≤ p.closes := hw
  simp [State.stationMiss, hpoll, hcloses]

theorem stationMiss_missing {s : State} {p : PollRec} {st : Station} (hp : s.tlink.poll = some p) (hst : p.frame.station = st) :
    s.stationMiss st .missing = (s.reach (p.began + 2)).closeMiss st := by
  have hpoll : s.tlink.pollOf st = some p := TlinkRec.pollOf_eq_some.mpr ⟨hp, hst⟩
  simp [State.stationMiss, hpoll, PollRec.closes]

/-- The state in which a miss closes the poll: the poll answered by a bad reply, or its window's close reached. -/
def missBase (s : State) (p : PollRec) (cause : MissCause) : State :=
  if cause = .bad then s.answer else s.reach (p.began + 2)

theorem stationMiss_closes {s : State} {p : PollRec} {st : Station} {cause : MissCause} (hp : s.tlink.poll = some p)
    (hst : p.frame.station = st) (hw : cause = .bad → s.now ≤ p.began + 2) :
    s.stationMiss st cause = (missBase s p cause).closeMiss st := by
  cases cause with
  | bad => exact stationMiss_bad hp hst (hw rfl)
  | missing => exact stationMiss_missing hp hst

theorem missBase_eq {s : State} {p : PollRec} (hp : s.tlink.poll = some p) (cause : MissCause) :
    missBase s p cause = { s with
      now := if cause = .bad then s.now else max s.now (p.began + 2)
      tlink := { s.tlink with answered := if cause = .bad then p :: s.tlink.answered else s.tlink.answered } } := by
  cases cause with
  | bad => simp [missBase, State.answer, TlinkRec.answer, hp]
  | missing => simp [missBase, State.reach]

/-! ### BRK -/

/-- The state after BRK's good reply, a claim not yet checked. -/
def brkReplied (s : State) (r : BrkReply) : State :=
  shed (sourceIf (!s.tlink.brk.answering && s.wheel.stationary) .brakeLink) (brkNoted (s.tlink.brk.good r) s.answer)

theorem stationReply_brk {s : State} {p : PollRec} (r : BrkReply) (hp : s.tlink.poll = some p) (hw : s.now ≤ p.began + 2)
    (hst : p.frame.station = .brk) : s.stationReply (.brk r) = (brkReplied s r).syncCheck := by
  rw [stationReply_taken (r := .brk r) hp hw hst.symm]
  exact closeBrk_good s.answer r

section
variable {s : State} (r : BrkReply) (hquiet : s.raised = 0)
include hquiet

/-- What BRK's good reply leaves, and tells under any record. -/
theorem brkReplied_leaves :
    let old := s.tlink.brk
    let w := brkReplied s r
    let changed := !old.answering || (old.last.map fun q => (q.unit, q.brakeAvailable)) != some (r.unit, r.brakeAvailable)
    let removes := old.answering = false ∧ s.wheel.stationary = true ∧ s.shaper.has .brakeLink = true
    w.tlink = { s.tlink with
      brk := { answering := true, missRun := 0, last := some r }, poll := none
      answered := s.tlink.poll.toList ++ s.tlink.answered } ∧
    (removes → sourceRemoved s w .brakeLink) ∧ (¬removes → w.shaper = s.shaper ∧ w.sound = s.sound) ∧
    (∀ a q, noticesFor a w.raised q =
      (toldIf changed .stationChanged a q ||| if removes ∧ w.shaper.sources = 0 then only .emergencyChanged else 0)) ∧
    { w with tlink := s.tlink, shaper := s.shaper, sound := s.sound, raised := 0#20 } = s := by
  intro old w changed removes
  obtain ⟨hremoves, hidle, hraised⟩ := shedIf_leaves (s := s) (v := brkNoted (s.tlink.brk.good r) s.answer) (k := .brakeLink)
    (b := !s.tlink.brk.answering && s.wheel.stationary) rfl rfl rfl rfl
  have hiff : ((!s.tlink.brk.answering && s.wheel.stationary) = true ∧ s.shaper.has .brakeLink = true) ↔ removes := by
    simp [removes, old, and_assoc]
  refine ⟨rfl, fun h => hremoves (hiff.mpr h), fun h => hidle fun e => h (hiff.mp e), fun a q => ?_, with_raised_none hquiet⟩
  have hwatched := brkGood_watched s.tlink.brk r
  have hw : w.raised = kindIf changed .stationChanged |||
      kindIf (decide (removes ∧ w.shaper.sources = 0)) .emergencyChanged := by
    have hnoted : (brkNoted (s.tlink.brk.good r) s.answer).raised = kindIf changed .stationChanged := by
      have hdef : (brkNoted (s.tlink.brk.good r) s.answer).raised =
          s.raised ||| kindIf (decide (s.tlink.brk.watched ≠ (s.tlink.brk.good r).watched)) .stationChanged := rfl
      rw [hdef, hwatched, show s.raised = 0#20 from hquiet, BitVec.zero_or]
    have hcond : decide (removes ∧ w.shaper.sources = 0) =
        decide (((!s.tlink.brk.answering && s.wheel.stationary) = true ∧ s.shaper.has .brakeLink = true) ∧ w.shaper.sources = 0) := by
      rw [decide_eq_decide, hiff]
    rw [hcond, ← hnoted]
    exact hraised
  rw [hw, noticesFor_or, noticesFor_kindIf, noticesFor_kindIf, toldIf_emergencyChanged]
  simp [kindIf]

end

/-- The state after BRK's miss, a claim not yet checked. -/
def brkMissed (s : State) (p : PollRec) (cause : MissCause) : State :=
  (brkNoted s.tlink.brk.miss (missBase s p cause)).addSourceIf (brkLost s.tlink.brk && !s.wheel.stationary) .brakeLink

theorem stationMiss_brk {s : State} {p : PollRec} {cause : MissCause} (hp : s.tlink.poll = some p) (hst : p.frame.station = .brk)
    (hw : cause = .bad → s.now ≤ p.began + 2) : s.stationMiss .brk cause = (brkMissed s p cause).syncCheck := by
  have hb : (missBase s p cause).tlink.brk = s.tlink.brk := by rw [missBase_eq hp]
  have hst' : (missBase s p cause).wheel = s.wheel := by rw [missBase_eq hp]
  rw [stationMiss_closes hp hst hw]
  have hclose := closeBrk_miss (missBase s p cause)
  rw [hst', hb] at hclose
  refine Eq.trans ?_ hclose
  rw [← hb]
  rfl

section
variable {s : State} {p : PollRec} (cause : MissCause) (hquiet : s.raised = 0) (hp : s.tlink.poll = some p)
include hquiet hp

/-- What BRK's miss leaves, and tells under any record. -/
theorem brkMissed_leaves :
    let old := s.tlink.brk
    let w := brkMissed s p cause
    let lost := old.answering && decide (4 ≤ old.missRun)
    let adds := lost && !s.wheel.stationary
    w.now = (if cause = .bad then s.now else max s.now (p.began + 2)) ∧
    w.tlink = { s.tlink with
      brk := { old with answering := old.answering && !lost, missRun := min 5 (old.missRun + 1) }, poll := none
      answered := if cause = .bad then p :: s.tlink.answered else s.tlink.answered } ∧
    (adds = true → sourceAdded s w .brakeLink) ∧ (adds = false → w.shaper = s.shaper ∧ w.sound = s.sound) ∧
    (∀ a q, noticesFor a w.raised q =
      (toldIf lost .stationChanged a q ||| if adds = true ∧ s.shaper.sources = 0 then only .emergencyChanged else 0)) ∧
    { w with now := s.now, tlink := s.tlink, shaper := s.shaper, sound := s.sound, raised := 0#20 } = s := by
  intro old w lost adds
  have hbase := missBase_eq hp cause
  have hnoted : brkNoted s.tlink.brk.miss (missBase s p cause) = { s with
      now := if cause = .bad then s.now else max s.now (p.began + 2)
      tlink := { s.tlink with
        brk := { old with answering := old.answering && !lost, missRun := min 5 (old.missRun + 1) }, poll := none
        answered := if cause = .bad then p :: s.tlink.answered else s.tlink.answered }
      raised := s.raised ||| kindIf lost .stationChanged } := by
    have hwatched := brkMiss_watched s.tlink.brk
    have hmiss := brkMiss_eq s.tlink.brk
    rw [hbase]
    simp only [brkNoted, hwatched]
    rw [hmiss]
    rfl
  have hframe := addSourceIf_eq (brkNoted s.tlink.brk.miss (missBase s p cause)) (brkLost s.tlink.brk && !s.wheel.stationary) .brakeLink
  have hshaper : (brkNoted s.tlink.brk.miss (missBase s p cause)).shaper = s.shaper := by rw [hnoted]
  have hsound : (brkNoted s.tlink.brk.miss (missBase s p cause)).sound = s.sound := by rw [hnoted]
  obtain ⟨hadds, hidle, hraised⟩ := addIf_leaves (k := .brakeLink) (b := brkLost s.tlink.brk && !s.wheel.stationary) hshaper hsound
  have hwnow : w.now = (brkNoted s.tlink.brk.miss (missBase s p cause)).now := (congrArg State.now hframe :)
  have hwtlink : w.tlink = (brkNoted s.tlink.brk.miss (missBase s p cause)).tlink := (congrArg State.tlink hframe :)
  refine ⟨by rw [hwnow, hnoted], by rw [hwtlink, hnoted], hadds, hidle, fun a q => ?_, ?_⟩
  · have hw : w.raised = kindIf lost .stationChanged ||| kindIf (decide (adds = true ∧ s.shaper.sources = 0)) .emergencyChanged := by
      have hr : (brkNoted s.tlink.brk.miss (missBase s p cause)).raised = kindIf lost .stationChanged := by
        rw [hnoted, show s.raised = 0#20 from hquiet, BitVec.zero_or]
      rw [← hr]
      exact hraised
    rw [hw, noticesFor_or, noticesFor_kindIf, noticesFor_kindIf, toldIf_emergencyChanged]
    simp [kindIf]
  · have hkept := congrArg (fun u : State => { u with
      now := s.now, tlink := s.tlink, shaper := s.shaper, sound := s.sound, raised := 0#20 }) hframe
    have hbare := congrArg (fun u : State => { u with
      now := s.now, tlink := s.tlink, shaper := s.shaper, sound := s.sound, raised := 0#20 }) hnoted
    exact hkept.trans (hbare.trans (with_raised_none hquiet))

end

end Sys2Proof.Proofs
end

section
/-! The retried check of a claim (O27). -/

namespace Sys2Proof.Proofs

open Sys2Proof Sys2Proof.Machine

/-! ### What a window end leaves does not depend on the claimant fields, the check apart -/

/-- The state with another claim of the same cab. -/
def reclaimed (s : State) (x : Cab) (start : Nat) (c : Option Claimant) : State := { s with auth := .claiming x start c }

section
variable (v : State) {x : Cab} {start : Nat} {c : Option Claimant} (ha : v.auth = .claiming x start c) (c' : Option Claimant)
include ha

theorem vigilStands_reclaimed : (reclaimed v x start c').vigilStands = reclaimed v.vigilStands x start c' := by
  have hsound : (reclaimed v x start c').vigilStands.sound = v.vigilStands.sound := by
    rw [vigilStands_sound, vigilStands_sound, ha]
    rfl
  have hvigil : (reclaimed v x start c').vigilStands.vigil = v.vigilStands.vigil := by
    rw [vigilStands_vigil, vigilStands_vigil]
    rfl
  have h := vigilStands_eq (reclaimed v x start c')
  rw [hsound, hvigil] at h
  rw [h, vigilStands_eq v]
  rfl

omit ha in
theorem testSectionEnd_reclaimed : (reclaimed v x start c').testSectionEnd = reclaimed v.testSectionEnd x start c' := by
  have hstop : (reclaimed v x start c').testSectionEnd.stop = v.testSectionEnd.stop := by
    rw [testSectionEnd_stop, testSectionEnd_stop]
    rfl
  have hraised : (reclaimed v x start c').testSectionEnd.raised = v.testSectionEnd.raised := by
    rw [testSectionEnd_raised, testSectionEnd_raised]
    rfl
  have h := testSectionEnd_eq (reclaimed v x start c')
  rw [hstop, hraised] at h
  rw [h, testSectionEnd_eq v]
  rfl

theorem restBegun_reclaimed : restBegun (reclaimed v x start c') = reclaimed (restBegun v) x start c' := by
  have hshed : shed (standMask (reclaimed v x start c')) (reclaimed v x start c').handleAtRest =
      reclaimed (shed (standMask v) v.handleAtRest) x start c' := rfl
  have hauth : (shed (standMask v) v.handleAtRest).auth = .claiming x start c := ha
  unfold restBegun
  rw [hshed, vigilStands_reclaimed _ hauth, testSectionEnd_reclaimed]

theorem comesToRest_reclaimed (hst : v.wheel.stationary = true) :
    (reclaimed v x start c').comesToRest = reclaimed v.comesToRest x start c' := by
  have hlost : v.auth.isLost = false := by rw [ha]; rfl
  rw [comesToRest_of_not_lost (v := reclaimed v x start c') hst rfl, comesToRest_of_not_lost hst hlost, restBegun_reclaimed v ha]

theorem beginsToMove_reclaimed : (reclaimed v x start c').beginsToMove = reclaimed v.beginsToMove x start c' := by
  have hmove : moveBegun (reclaimed v x start c') = reclaimed (moveBegun v) x start c' := by
    unfold moveBegun State.addSourceIf
    rw [show (!(reclaimed v x start c').tlink.brk.answering) = (!v.tlink.brk.answering) from rfl]
    cases v.tlink.brk.answering <;> rfl
  have hauth : (moveBegun v).auth = .claiming x start c := by rw [moveBegun_eq, ha]
  rw [beginsToMove_eq, beginsToMove_eq, hmove, vigilMoves_idle (by simp [reclaimed, Auth.isHeld]),
    vigilMoves_idle (by simp [hauth, Auth.isHeld])]

end

theorem settled_reclaimed {s : State} {x : Cab} {start : Nat} {c : Option Claimant} (hquiet : s.raised = 0)
    (ha : s.auth = .claiming x start c) (c' : Option Claimant) :
    settled (reclaimed s x start c') = reclaimed (settled s) x start c' := by
  have hpub : windowPublished (reclaimed s x start c') = reclaimed (windowPublished s) x start c' := rfl
  have hauth : (windowPublished s).auth = .claiming x start c := by rw [windowPublished_eq hquiet, ha]
  have hwheel : wheelAfter (reclaimed s x start c') = wheelAfter s := rfl
  have hst : (reclaimed s x start c').wheel.stationary = s.wheel.stationary := rfl
  unfold settled
  rw [hwheel, hst, hpub]
  split
  next h =>
    refine comesToRest_reclaimed _ hauth c' ?_
    rw [windowPublished_stationary hquiet]
    simp_all
  next =>
    split
    · exact beginsToMove_reclaimed _ hauth c'
    · rfl

/-- Neither change of STATIONARY touches a claim. -/
theorem settled_auth_of_claiming {s : State} {x : Cab} {start : Nat} {c : Option Claimant} (hquiet : s.raised = 0)
    (ha : s.auth = .claiming x start c) : (settled s).auth = s.auth := by
  have h := congrArg State.auth (settled_reclaimed hquiet ha c)
  have hsame : reclaimed s x start c = s := by rw [reclaimed, ← ha]
  rw [hsame] at h
  rw [h, ha]
  rfl

/-! ### The obligation -/

/-- A claim with claimant fields is checked on what an event leaves: the statements' form of it, for one event. -/
theorem retried {s w : State} {x : Cab} {start : Nat} {c : Claimant} (hauth : w.auth = .claiming x start (some c))
    (hports : w.ports = s.ports) {kinds : Auth → Port → BitVec 20} (hkinds : ∀ a q, noticesFor a w.raised q = kinds a q) :
    syncTaken { w with raised := 0 } w.syncCheck.deliver x c ∧
      Notified s w.syncCheck.deliver (withHeldKinds { w with raised := 0 } w.syncCheck.deliver (kinds w.syncCheck.auth)) :=
  ⟨syncTaken_syncCheck hauth, syncCheck_notified hauth hports fun q => hkinds _ q⟩

theorem told_emergency (b : Prop) [Decidable b] (a : Auth) (q : Port) :
    noticesFor a (kindIf (decide b) .emergencyChanged) q = if b then only .emergencyChanged else 0 := by
  rw [noticesFor_kindIf, toldIf_emergencyChanged]
  simp [kindIf]

/-- A press of a cab's own stop leaves its claim waiting (R7). -/
theorem syncCheck_of_pressed {w : State} {x : Cab} (ha : w.auth.cab = some x) (hp : emstopLevel w.lines x = true) :
    w.syncCheck = w := by
  unfold State.syncCheck
  split
  next y start c hauth =>
    have hxy : y = x := by simpa [hauth, Auth.cab] using ha
    exact if_neg (by simp [State.synchronises, hxy, hp])
  next => rfl

theorem emstopLevel_pressed (l : Lines) (x : Cab) : emstopLevel (setEmstop l x true) x = true := by
  cases x <;> simp [emstopLevel, setEmstop]

/-- Settles O27. -/
theorem synchronisationRetried : Obligations.SynchronisationRetried := by
  intro s x start c hrun ha
  refine ⟨fun y => ⟨?press, ?release⟩, ?own, fun p hp hst => ⟨fun b hw => ?reply, fun cause hw => ?miss⟩, ?window⟩
  case press =>
    let w := (s.emstopTo y true).addSource (.emstop y)
    have hraised : w.raised = kindIf (decide (s.shaper.sources = 0)) .emergencyChanged := by
      have h := addSource_raised (s.emstopTo y true) (.emstop y)
      rw [show (s.emstopTo y true).raised = 0#20 from hrun.2, BitVec.zero_or] at h
      exact h
    obtain ⟨hsync, htold⟩ := retried (s := s) (w := w) (kinds := fun _ _ => if s.shaper.sources = 0 then only .emergencyChanged else 0)
      ha rfl fun a q => by rw [hraised, told_emergency]
    exact ⟨_, { w with raised := 0 }, congrArg Host.Outcome.next (State.lineEvent_of hrun.1), rfl,
      sourceAdded_addSource (s.emstopTo y true) _, with_raised_none hrun.2, hsync, htold⟩
  case release =>
    intro removes
    let w := shed (sourceIf s.wheel.stationary (.emstop y)) (s.emstopTo y false)
    have hw : (s.emstopTo y false).testEmstop y = w := by
      unfold State.testEmstop
      rw [removeSourceIf_eq_shed]
      have hlevel : emstopLevel (s.emstopTo y false).lines y = false := emstopLevel_released s.lines y
      rw [hlevel, Bool.not_false, Bool.and_true]
      rfl
    obtain ⟨hremoves, hidle, hraised⟩ := shedIf_leaves (s := s) (v := s.emstopTo y false) (k := .emstop y)
      (b := s.wheel.stationary) rfl rfl rfl rfl
    rw [show (s.emstopTo y false).raised = 0#20 from hrun.2, BitVec.zero_or] at hraised
    obtain ⟨hsync, htold⟩ := retried (s := s) (w := w)
      (kinds := fun _ _ => if removes ∧ w.shaper.sources = 0 then only .emergencyChanged else 0) ha rfl fun a q => by
        rw [← told_emergency (removes ∧ w.shaper.sources = 0) a q]
        exact congrArg (fun n => noticesFor a n q) hraised
    refine ⟨w.syncCheck.deliver, { w with raised := 0 }, ?_, rfl, hremoves, hidle, with_raised_none hrun.2, hsync, htold⟩
    rw [← hw]
    exact congrArg Host.Outcome.next (State.lineEvent_of hrun.1)
  case own =>
    let w := (s.emstopTo x true).addSource (.emstop x)
    have hcab : w.auth.cab = some x := by
      have hwa : w.auth = s.auth := rfl
      rw [hwa, ha]
      rfl
    have hcheck : w.syncCheck = w := syncCheck_of_pressed hcab (emstopLevel_pressed s.lines x)
    exact ⟨w.deliver, congrArg Host.Outcome.next ((State.lineEvent_of hrun.1).trans (congrArg State.deliver hcheck)), rfl⟩
  case reply =>
    intro changed removes
    obtain ⟨htlink, hremoves, hidle, hkinds, hframe⟩ := brkReplied_leaves b hrun.2
    have hauth : (brkReplied s b).auth = .claiming x start (some c) := ha
    obtain ⟨hsync, htold⟩ := retried (s := s) (w := brkReplied s b) hauth rfl hkinds
    refine ⟨(brkReplied s b).syncCheck.deliver, { brkReplied s b with raised := 0 }, ?_, ?_, hremoves, hidle, hframe, hsync, htold⟩
    · rw [← stationReply_brk b hp hw hst]
      exact congrArg Host.Outcome.next (State.event_of hrun.1)
    · rw [show s.tlink.poll.toList = [p] by rw [hp]; rfl] at htlink
      exact htlink
  case miss =>
    intro lost adds
    obtain ⟨hnow, htlink, hadds, hidle, hkinds, hframe⟩ := brkMissed_leaves (s := s) cause hrun.2 hp
    have hauth : (brkMissed s p cause).auth = .claiming x start (some c) := by
      rw [← ha]
      exact (congrArg State.auth hframe :)
    have hports : (brkMissed s p cause).ports = s.ports := (congrArg State.ports hframe :)
    obtain ⟨hsync, htold⟩ := retried (s := s) (w := brkMissed s p cause) hauth hports hkinds
    refine ⟨(brkMissed s p cause).syncCheck.deliver, { brkMissed s p cause with raised := 0 }, ?_, hnow, htlink, hadds, hidle, hframe,
      hsync, htold⟩
    rw [← stationMiss_brk hp hst hw]
    exact congrArg Host.Outcome.next (State.event_of hrun.1)
  case window =>
    have hrun' : Running (reclaimed s x start none) := hrun
    have hwait : exec .windowEnd (reclaimed s x start none) = .next (reclaimed (settled s) x start none).deliver := by
      rw [exec_windowEnd hrun', windowEnd_of_no_claimant hrun' rfl, settled_reclaimed hrun.2 ha]
    have hauth := settled_auth_of_claiming hrun.2 ha
    have hports : (settled s).ports = s.ports := by rw [settled_frame hrun.2]
    refine ⟨_, _, hwait, exec_windowEnd hrun, ?_, windowEnd_notified hrun⟩
    have hsame : ({ (reclaimed (settled s) x start none).deliver with auth := s.auth, ports := s.ports } : State) =
        { settled s with raised := 0 } := by
      rw [← hauth, ← hports]
      rfl
    rw [hsame]
    exact syncTaken_syncCheck (hauth.trans ha)

end Sys2Proof.Proofs
end

/-! ## Proofs: the traction link (05) -/

section
/-! SUPPORT. The bytes of a reply in a poll's window (R74, 13.2). -/

namespace Sys2Proof.Proofs

open Sys2Proof Sys2Proof.Machine

theorem word16_bytes (x : BitVec 16) : word16 (x.extractLsb' 8 8) (x.extractLsb' 0 8) = x := by
  unfold word16
  ext i hi
  simp only [BitVec.getElem_append, BitVec.getElem_extractLsb']
  split <;> simp_all [BitVec.getLsbD_eq_getElem]

/-- A unit state of two bits, as the statements list them. -/
theorem unitOf_top (x : Byte) :
    unitOf (x.extractLsb' 6 2) = ([UnitState.ready, .starting, .limited, .fault] : List UnitState).getD (x.toNat / 64) .fault := by
  have h : ∀ y : Byte,
      unitOf (y.extractLsb' 6 2) = ([UnitState.ready, .starting, .limited, .fault] : List UnitState).getD (y.toNat / 64) .fault := by
    decide
  exact h x

/-! ### Which station a frame is of -/

theorem senderOf_address {chars : List Byte} {st : Station} (h : chars.head? = some (address st)) : senderOf chars = some st := by
  unfold senderOf
  rw [h]
  cases st <;> decide

theorem frameLength_address {poll : Poll} {chars : List Byte} {st : Station} (h : chars.head? = some (address st)) :
    poll.frameLength chars = replyLength st := by
  unfold Poll.frameLength
  rw [senderOf_address h]
  rfl

/-- The length that makes the first frame complete, as the statements say it. -/
theorem frameLength_eq (poll : Poll) (chars : List Byte) :
    poll.frameLength chars =
      if chars.head? = some 0x53 then 3 else if chars.head? = some 0x51 ∨ chars.head? = some 0x52 then 5
      else if poll.station = .brk then 3 else 5 := by
  have haddress (st : Station) : chars.head? = some (address st) → poll.frameLength chars = replyLength st := frameLength_address
  split_ifs with h3 h12 hb
  · exact haddress .brk h3
  · exact h12.elim (haddress .tu1) (haddress .tu2)
  all_goals
    have hnone : senderOf chars = none := by
      obtain ⟨h1, h2⟩ := not_or.mp h12
      simp only [senderOf, address, List.find?_eq_none, List.mem_cons, List.not_mem_nil, or_false, forall_eq_or_imp, forall_eq]
      exact ⟨fun e => h1 (of_decide_eq_true e), fun e => h2 (of_decide_eq_true e), fun e => h3 (of_decide_eq_true e)⟩
    unfold Poll.frameLength
    rw [hnone]
  · simp [hb, replyLength]
  · cases poll <;> simp_all [Poll.station, replyLength]

/-! ### The judging of a frame -/

section
variable (poll : Poll) (chars : List Byte)

theorem closing_missing (h : chars.length < poll.frameLength chars) : poll.closing chars = .stationMiss ⟨poll.station, .missing⟩ :=
  if_pos h

theorem closing_good (h : poll.frameLength chars ≤ chars.length) {r : StationReply}
    (hr : poll.judge (chars.take (poll.frameLength chars)) = some r) : poll.closing chars = .stationReplyGood r := by
  simp [Poll.closing, Nat.not_lt.mpr h, hr]

theorem closing_bad (h : poll.frameLength chars ≤ chars.length) (hr : poll.judge (chars.take (poll.frameLength chars)) = none) :
    poll.closing chars = .stationMiss ⟨poll.station, .bad⟩ := by
  simp [Poll.closing, Nat.not_lt.mpr h, hr]

end

theorem readTu_eq (st : Station) (c : TuCommand) (a x e1 e0 k : Byte) :
    readTu st c [a, x, e1, e0, k] =
      if a = address st ∧ k = crc8 [a, x, e1, e0] ∧ (x.extractLsb' 0 4).toNat = c.count ∧ (word16 e1 e0).toNat ≤ 1000 then
        some { unit := unitOf (x.extractLsb' 6 2), effort := word16 e1 e0, slip := x.getLsbD 5, lineVoltage := x.getLsbD 4 }
      else none := rfl

theorem readBrk_eq (a x k : Byte) :
    readBrk [a, x, k] =
      if a = address .brk ∧ k = crc8 [a, x] ∧ x.extractLsb' 0 4 = 0#4 then
        some { unit := unitOf (x.extractLsb' 6 2), brakeApplied := x.getLsbD 5, brakeAvailable := x.getLsbD 4 }
      else none := rfl

/-- What makes five bytes a traction unit's good reply. -/
def tuFrameGood (st : Station) (c : TuCommand) (frame : List Byte) : Prop :=
  ∃ a x e1 e0 k, frame = [a, x, e1, e0, k] ∧ a = address st ∧ k = crc8 [a, x, e1, e0] ∧ (x.extractLsb' 0 4).toNat = c.count ∧
    (word16 e1 e0).toNat ≤ 1000

/-- What makes three bytes BRK's good reply. -/
def brkFrameGood (frame : List Byte) : Prop :=
  ∃ a x k, frame = [a, x, k] ∧ a = address .brk ∧ k = crc8 [a, x] ∧ x.extractLsb' 0 4 = 0#4

theorem readTu_of_good {st : Station} {c : TuCommand} {frame : List Byte} (h : tuFrameGood st c frame) :
    ∃ r, readTu st c frame = some r ∧ r.effort.toNat ≤ 1000 := by
  obtain ⟨a, x, e1, e0, k, rfl, hcond⟩ := h
  exact ⟨_, (readTu_eq st c a x e1 e0 k).trans (if_pos hcond), hcond.2.2.2⟩

theorem readTu_of_bad {st : Station} {c : TuCommand} {frame : List Byte} (h : ¬tuFrameGood st c frame) :
    readTu st c frame = none := by
  unfold readTu
  split
  next a x e1 e0 k => exact if_neg fun hcond => h ⟨a, x, e1, e0, k, rfl, hcond⟩
  next => rfl

theorem readBrk_of_good {frame : List Byte} (h : brkFrameGood frame) : ∃ r, readBrk frame = some r := by
  obtain ⟨a, x, k, rfl, hcond⟩ := h
  exact ⟨_, (readBrk_eq a x k).trans (if_pos hcond)⟩

theorem readBrk_of_bad {frame : List Byte} (h : ¬brkFrameGood frame) : readBrk frame = none := by
  unfold readBrk
  split
  next a x k => exact if_neg fun hcond => h ⟨a, x, k, rfl, hcond⟩
  next => rfl

theorem frameGood_tu1 (c : TuCommand) (frame : List Byte) : frameGood (.tu1 c) frame ↔ tuFrameGood .tu1 c frame := by
  constructor
  · intro h
    unfold frameGood at h
    split at h
    next heq => cases heq; exact ⟨_, _, _, _, _, rfl, h⟩
    next heq => cases heq
    next heq => cases heq
    next => exact h.elim
  · rintro ⟨a, x, e1, e0, k, rfl, h⟩
    exact h

theorem frameGood_tu2 (c : TuCommand) (frame : List Byte) : frameGood (.tu2 c) frame ↔ tuFrameGood .tu2 c frame := by
  constructor
  · intro h
    unfold frameGood at h
    split at h
    next heq => cases heq
    next heq => cases heq; exact ⟨_, _, _, _, _, rfl, h⟩
    next heq => cases heq
    next => exact h.elim
  · rintro ⟨a, x, e1, e0, k, rfl, h⟩
    exact h

theorem frameGood_brk (c : BrkCommand) (frame : List Byte) : frameGood (.brk c) frame ↔ brkFrameGood frame := by
  constructor
  · intro h
    unfold frameGood at h
    split at h
    next heq => cases heq
    next heq => cases heq
    next heq => cases heq; exact ⟨_, _, _, rfl, h⟩
    next => exact h.elim
  · rintro ⟨a, x, k, rfl, h⟩
    exact h

/-- A good frame is judged a reply of the polled station within its values. -/
theorem judge_of_good {poll : Poll} {frame : List Byte} (h : frameGood poll frame) :
    ∃ r, poll.judge frame = some r ∧ replyStation r = poll.station ∧ replyOk r = true := by
  cases poll with
  | tu1 c =>
    obtain ⟨r, hr, hin⟩ := readTu_of_good ((frameGood_tu1 c frame).mp h)
    exact ⟨.tu1 r, by simp [Poll.judge, hr], rfl, decide_eq_true hin⟩
  | tu2 c =>
    obtain ⟨r, hr, hin⟩ := readTu_of_good ((frameGood_tu2 c frame).mp h)
    exact ⟨.tu2 r, by simp [Poll.judge, hr], rfl, decide_eq_true hin⟩
  | brk c =>
    obtain ⟨r, hr⟩ := readBrk_of_good ((frameGood_brk c frame).mp h)
    exact ⟨.brk r, by simp [Poll.judge, hr], rfl, rfl⟩

theorem judge_of_bad {poll : Poll} {frame : List Byte} (h : ¬frameGood poll frame) : poll.judge frame = none := by
  cases poll with
  | tu1 c => simp [Poll.judge, readTu_of_bad fun e => h ((frameGood_tu1 c frame).mpr e)]
  | tu2 c => simp [Poll.judge, readTu_of_bad fun e => h ((frameGood_tu2 c frame).mpr e)]
  | brk c => simp [Poll.judge, readBrk_of_bad fun e => h ((frameGood_brk c frame).mpr e)]

end Sys2Proof.Proofs
end

section
/-! The replies and misses of the stations (O29, O30). -/

namespace Sys2Proof.Proofs

open Sys2Proof Sys2Proof.Machine

/-- What is routed of the notices raised is what each port is told. -/
theorem notified_of {s u : State} {kinds : Port → BitVec 20} (hports : u.ports = s.ports)
    (h : ∀ p, noticesFor u.auth u.raised p = kinds p) : Notified s u.deliver kinds := by
  intro p
  rw [deliver_notified hports p, h]

/-! ### A traction unit -/

theorem brkDemand_eq (o : Int) : (if o < 0 then o.natAbs else 0) = (max 0 (-o)).toNat := by
  split <;> omega

/-- The poll that the closing of TU1's poll opens. -/
theorem closeTu1_eq (t : TuRec) (s : State) :
    s.closeTu1 t = { s with
      tlink := { s.tlink with tu1 := t, poll := pollAfter s.tlink s.now .tu1 }
      raised := s.raised ||| kindIf (decide (s.tlink.tu1.watched ≠ t.watched)) .stationChanged } := by
  simp only [State.closeTu1, ite_addFlag_eq_or']
  rfl

theorem closeTu2_eq (t : TuRec) (s : State) :
    s.closeTu2 t = { s with
      tlink := { s.tlink with tu2 := t, poll := pollAfter s.tlink s.now .tu2 }
      raised := s.raised ||| kindIf (decide (s.tlink.tu2.watched ≠ t.watched)) .stationChanged } := by
  simp only [State.closeTu2, ite_addFlag_eq_or', TlinkRec.nextPoll, TlinkRec.brkCommand, pollAfter, brkDemand_eq]

theorem tuGood_watched (t : TuRec) (r : TuReply) :
    decide (t.watched ≠ (t.good r).watched) =
      (!t.answering || (t.last.map fun q => (q.unit, q.lineVoltage)) != some (r.unit, r.lineVoltage)) := by
  by_cases h : (t.last.map fun q => (q.unit, q.lineVoltage)) = some (r.unit, r.lineVoltage)
  · cases ha : t.answering <;> simp [TuRec.watched, TuRec.good, ha, h]
  · cases ha : t.answering <;> simp [TuRec.watched, TuRec.good, ha, h]

/-- Whether a miss loses a traction unit (R76). -/
def tuLost (t : TuRec) : Bool := t.answering && decide (4 ≤ t.missRun)

theorem tuMiss_eq (t : TuRec) :
    t.miss = { answering := t.answering && !tuLost t, missRun := min 5 (t.missRun + 1), last := t.last } := by
  have h : decide (t.missRun + 1 < 5) = !decide (4 ≤ t.missRun) := by
    rw [← decide_not, decide_eq_decide]
    omega
  cases ha : t.answering <;> simp [TuRec.miss, tuLost, ha, h]

theorem tuMiss_watched (t : TuRec) : decide (t.watched ≠ t.miss.watched) = tuLost t := by
  rw [tuMiss_eq]
  cases ha : t.answering <;> cases hl : tuLost t <;> simp_all [TuRec.watched, tuLost]

/-- What a closing of a traction unit's poll, with its slip flag handed to WHEEL, leaves and tells. -/
theorem tuReplied {s : State} (r : TuReply) (changed : Bool) (link : TlinkRec) :
    let t := (State.takeSlip r { s with tlink := link, raised := kindIf changed .stationChanged }).deliver
    t.tlink = link ∧
      t.wheel = (if r.slip then
          { s.wheel with
            adhesion := .slip, agree := 0, runOn := none, disagree := if s.wheel.adhesion = .slip then s.wheel.disagree else 0 }
        else s.wheel) ∧
      Notified s t (fun p => toldIf changed .stationChanged s.auth p |||
        toldIf (r.slip && decide (s.wheel.adhesion ≠ .slip)) .adhesion s.auth p) ∧
      { t with ports := s.ports, tlink := s.tlink, wheel := s.wheel, raised := s.raised } = s := by
  have hslip : State.takeSlip r { s with tlink := link, raised := kindIf changed .stationChanged } = { s with
      tlink := link
      wheel := if r.slip then
          { s.wheel with
            adhesion := .slip, agree := 0, runOn := none, disagree := if s.wheel.adhesion = .slip then s.wheel.disagree else 0 }
        else s.wheel
      raised := kindIf changed .stationChanged ||| kindIf (r.slip && decide (s.wheel.adhesion ≠ .slip)) .adhesion } := by
    unfold State.takeSlip State.slipReported
    cases r.slip with
    | false => simp
    | true => by_cases ha : s.wheel.adhesion = .slip <;> simp [ha, addFlag_eq_or_only]
  rw [hslip]
  refine ⟨rfl, rfl, notified_of rfl fun p => ?_, rfl⟩
  simp only [noticesFor_or, noticesFor_kindIf]

theorem exec_stationReplyGood {s : State} (h : Running s) (r : StationReply) :
    exec (.stationReplyGood r) s = .next (s.stationReply r).deliver :=
  congrArg Host.Outcome.next (State.event_of h.1)

theorem exec_stationMiss {s : State} (h : Running s) (st : Station) (cause : MissCause) :
    exec (.stationMiss ⟨st, cause⟩) s = .next (s.stationMiss st cause).deliver :=
  congrArg Host.Outcome.next (State.event_of h.1)

/-- A traction unit's good reply closes its poll. -/
theorem stationReply_tu {s : State} {p : PollRec} {r : TuReply} (hquiet : s.raised = 0) (hp : s.tlink.poll = some p)
    (hw : s.now ≤ p.began + 2) (hin : r.effort.toNat ≤ 1000) :
    (p.frame.station = .tu1 → s.stationReply (.tu1 r) = State.takeSlip r { s with
      tlink := { s.tlink with
        tu1 := s.tlink.tu1.good r, poll := pollAfter s.tlink s.now .tu1, answered := s.tlink.poll.toList ++ s.tlink.answered }
      raised := kindIf (decide (s.tlink.tu1.watched ≠ (s.tlink.tu1.good r).watched)) .stationChanged }) ∧
    (p.frame.station = .tu2 → s.stationReply (.tu2 r) = State.takeSlip r { s with
      tlink := { s.tlink with
        tu2 := s.tlink.tu2.good r, poll := pollAfter s.tlink s.now .tu2, answered := s.tlink.poll.toList ++ s.tlink.answered }
      raised := kindIf (decide (s.tlink.tu2.watched ≠ (s.tlink.tu2.good r).watched)) .stationChanged }) := by
  have hnone : s.answer.raised = 0#20 := hquiet
  have hgood : tuReplyIn r = true := decide_eq_true hin
  refine ⟨fun hst => ?_, fun hst => ?_⟩
  · have hclose : s.answer.closeReply (.tu1 r) = (s.answer.closeTu1 (s.answer.tlink.tu1.good r)).takeSlip r := if_pos hgood
    rw [stationReply_taken (r := .tu1 r) hp hw hst.symm, hclose, closeTu1_eq, hnone, BitVec.zero_or]
    rfl
  · have hclose : s.answer.closeReply (.tu2 r) = (s.answer.closeTu2 (s.answer.tlink.tu2.good r)).takeSlip r := if_pos hgood
    rw [stationReply_taken (r := .tu2 r) hp hw hst.symm, hclose, closeTu2_eq, hnone, BitVec.zero_or]
    rfl

/-- A frame of five bytes of the polled traction unit, and what follows it. -/
theorem closing_tu {poll : Poll} {st : Station} {c : TuCommand} {x : Byte} {effort : BitVec 16} (rest : List Byte)
    (hlen : replyLength st = 5) (hcount : (x.extractLsb' 0 4).toNat = c.count) (hin : effort.toNat ≤ 1000)
    {kind : TuReply → StationReply} (hjudge : ∀ frame, poll.judge frame = (readTu st c frame).map kind) :
    let body : List Byte := [address st, x, effort.extractLsb' 8 8, effort.extractLsb' 0 8]
    poll.closing (body ++ [crc8 body] ++ rest) = .stationReplyGood (kind
      { unit := ([UnitState.ready, .starting, .limited, .fault] : List UnitState).getD (x.toNat / 64) .fault, effort := effort
        slip := x.getLsbD 5, lineVoltage := x.getLsbD 4 }) := by
  intro body
  have hn : poll.frameLength (body ++ [crc8 body] ++ rest) = 5 := (frameLength_address (st := st) rfl).trans hlen
  have htake : (body ++ [crc8 body] ++ rest).take 5 = body ++ [crc8 body] := rfl
  have hread : readTu st c (body ++ [crc8 body]) = some
      { unit := unitOf (x.extractLsb' 6 2), effort := effort, slip := x.getLsbD 5, lineVoltage := x.getLsbD 4 } := by
    have h := readTu_eq st c (address st) x (effort.extractLsb' 8 8) (effort.extractLsb' 0 8) (crc8 body)
    rw [word16_bytes] at h
    exact h.trans (if_pos ⟨rfl, rfl, hcount, hin⟩)
  refine closing_good poll _ ?_ ?_
  · rw [hn]
    simp [body]
  · rw [hn, htake, hjudge, hread, ← unitOf_top]
    rfl

/-- Settles O29. -/
theorem stationRepliesTaken : Obligations.StationRepliesTaken := by
  refine ⟨fun s r second hrun hin hpolled => ?tu, fun s r hrun hclaim hpolled => ?brk, fun c x effort rest second hin hcount => ?tuBytes,
    fun c x rest hzero => ?brkBytes⟩
  case tu =>
    obtain ⟨p, hp, hst, hw⟩ := hpolled
    obtain ⟨h1, h2⟩ := stationReply_tu hrun.2 hp hw hin
    cases second with
    | false =>
      have hreply := h1 hst
      rw [tuGood_watched] at hreply
      obtain ⟨hlink, hwheel, htold, hframe⟩ := tuReplied (s := s) r _ { s.tlink with
        tu1 := s.tlink.tu1.good r, poll := pollAfter s.tlink s.now .tu1, answered := s.tlink.poll.toList ++ s.tlink.answered }
      rw [← hreply] at hlink hwheel htold hframe
      refine ⟨_, exec_stationReplyGood hrun (.tu1 r), hlink, hwheel, htold, ?_⟩
      rw [hrun.2] at hframe
      exact hframe
    | true =>
      have hreply := h2 hst
      rw [tuGood_watched] at hreply
      obtain ⟨hlink, hwheel, htold, hframe⟩ := tuReplied (s := s) r _ { s.tlink with
        tu2 := s.tlink.tu2.good r, poll := pollAfter s.tlink s.now .tu2, answered := s.tlink.poll.toList ++ s.tlink.answered }
      rw [← hreply] at hlink hwheel htold hframe
      refine ⟨_, exec_stationReplyGood hrun (.tu2 r), hlink, hwheel, htold, ?_⟩
      rw [hrun.2] at hframe
      exact hframe
  case brk =>
    obtain ⟨p, hp, hst, hw⟩ := hpolled
    obtain ⟨hlink, hremoves, hidle, hkinds, hframe⟩ := brkReplied_leaves r hrun.2
    have hauth : (brkReplied s r).auth = s.auth := rfl
    have hcheck : s.stationReply (.brk r) = brkReplied s r := by
      rw [stationReply_brk r hp hw hst]
      exact syncCheck_of_no_claimant hclaim
    refine ⟨(brkReplied s r).deliver, ?_, hlink, hremoves, hidle, fun q => ?_, hframe⟩
    · rw [exec_stationReplyGood hrun, hcheck]
    · rw [deliver_notified (u := brkReplied s r) (s := s) rfl q, hkinds]
      rfl
  case tuBytes =>
    cases second with
    | false => exact closing_tu (st := .tu1) rest rfl hcount hin fun _ => rfl
    | true => exact closing_tu (st := .tu2) rest rfl hcount hin fun _ => rfl
  case brkBytes =>
    have hn : (Poll.brk c).frameLength ([0x53, x, crc8 [0x53, x]] ++ rest) = 3 := frameLength_address (st := .brk) rfl
    have htake : ([0x53, x, crc8 [0x53, x]] ++ rest).take 3 = [0x53, x, crc8 [0x53, x]] := rfl
    have hread := (readBrk_eq 0x53 x (crc8 [0x53, x])).trans (if_pos ⟨rfl, rfl, hzero⟩)
    refine closing_good (.brk c) _ ?_ ?_
    · rw [hn]
      simp
    · rw [hn, htake, ← unitOf_top]
      simp only [Poll.judge, hread, Option.map_some]

/-- A traction unit's miss closes its poll. -/
theorem stationMiss_tu {s : State} {p : PollRec} {cause : MissCause} (hquiet : s.raised = 0) (hp : s.tlink.poll = some p)
    (hw : cause = .bad → s.now ≤ p.began + 2) :
    let at_ := if cause = .bad then s.now else max s.now (p.began + 2)
    let answered := if cause = .bad then p :: s.tlink.answered else s.tlink.answered
    let missed (t : TuRec) : TuRec :=
      { answering := t.answering && !(t.answering && decide (4 ≤ t.missRun)), missRun := min 5 (t.missRun + 1), last := t.last }
    (p.frame.station = .tu1 → s.stationMiss .tu1 cause = { s with
      now := at_
      tlink := { s.tlink with tu1 := missed s.tlink.tu1, poll := pollAfter s.tlink at_ .tu1, answered := answered }
      raised := kindIf (s.tlink.tu1.answering && decide (4 ≤ s.tlink.tu1.missRun)) .stationChanged }) ∧
    (p.frame.station = .tu2 → s.stationMiss .tu2 cause = { s with
      now := at_
      tlink := { s.tlink with tu2 := missed s.tlink.tu2, poll := pollAfter s.tlink at_ .tu2, answered := answered }
      raised := kindIf (s.tlink.tu2.answering && decide (4 ≤ s.tlink.tu2.missRun)) .stationChanged }) := by
  intro at_ answered missed
  have hbase := missBase_eq hp cause
  have hmiss (t : TuRec) : t.miss = missed t := tuMiss_eq t
  have hlost (t : TuRec) : decide (t.watched ≠ (missed t).watched) = (t.answering && decide (4 ≤ t.missRun)) := by
    rw [← hmiss]
    exact tuMiss_watched t
  refine ⟨fun hst => ?_, fun hst => ?_⟩
  · have hclose : (missBase s p cause).closeMiss .tu1 =
        (missBase s p cause).closeTu1 (missed (missBase s p cause).tlink.tu1) := by
      rw [← hmiss]
      rfl
    rw [stationMiss_closes hp hst hw, hclose, closeTu1_eq, hlost, hbase, show s.raised = 0#20 from hquiet, BitVec.zero_or]
    rfl
  · have hclose : (missBase s p cause).closeMiss .tu2 =
        (missBase s p cause).closeTu2 (missed (missBase s p cause).tlink.tu2) := by
      rw [← hmiss]
      rfl
    rw [stationMiss_closes hp hst hw, hclose, closeTu2_eq, hlost, hbase, show s.raised = 0#20 from hquiet, BitVec.zero_or]
    rfl

/-- A reply outside its values closes its poll as a miss (R74). -/
theorem closeReply_bad {s : State} {r : StationReply} (h : replyOk r = false) : s.closeReply r = s.closeMiss (replyStation r) := by
  cases r with
  | tu1 r =>
    have hbad : tuReplyIn r = false := h
    simp [State.closeReply, hbad, replyStation]
  | tu2 r =>
    have hbad : tuReplyIn r = false := h
    simp [State.closeReply, hbad, replyStation]
  | brk r => simp [replyOk] at h

/-- Settles O30. -/
theorem missCounted : Obligations.MissCounted := by
  refine ⟨fun s p cause hrun hclaim hp hw => ⟨fun second hst => ?tu, fun hst => ?brk⟩,
    fun s hrun => ⟨fun hclosed r st => ?outside, fun st hother cause => ?notPolled⟩, fun s st r hrun hpolled => ⟨fun hr hbad => ?values,
      fun hr hstill => ?still, fun hr hnot => ?other⟩, fun poll chars => ?bytes⟩
  case tu =>
    obtain ⟨h1, h2⟩ := stationMiss_tu hrun.2 hp hw
    cases second with
    | false =>
      exact ⟨_, (exec_stationMiss hrun .tu1 cause).trans (congrArg (fun t => Host.Outcome.next (State.deliver t)) (h1 hst)), rfl, rfl,
        notified_of rfl fun q => noticesFor_kindIf _ _ _ _, with_raised_none hrun.2⟩
    | true =>
      exact ⟨_, (exec_stationMiss hrun .tu2 cause).trans (congrArg (fun t => Host.Outcome.next (State.deliver t)) (h2 hst)), rfl, rfl,
        notified_of rfl fun q => noticesFor_kindIf _ _ _ _, with_raised_none hrun.2⟩
  case brk =>
    obtain ⟨hnow, hlink, hadds, hidle, hkinds, hframe⟩ := brkMissed_leaves (s := s) cause hrun.2 hp
    have hauth : (brkMissed s p cause).auth = s.auth := (congrArg State.auth hframe :)
    have hports : (brkMissed s p cause).ports = s.ports := (congrArg State.ports hframe :)
    have hcheck : s.stationMiss .brk cause = brkMissed s p cause := by
      rw [stationMiss_brk hp hst hw]
      exact syncCheck_of_no_claimant (by rw [hauth, hclaim])
    refine ⟨(brkMissed s p cause).deliver, ?_, hnow, hlink, hadds, hidle, fun q => ?_, ?_⟩
    · rw [exec_stationMiss hrun, hcheck]
    · rw [deliver_notified hports q, hkinds, hauth]
    · exact (congrArg (fun u : State => { u with ports := s.ports }) hframe :)
  case outside =>
    have hwindow : s.window = none := by
      rw [Option.eq_none_iff_forall_not_mem]
      intro p hp
      obtain ⟨hpoll, hin⟩ := State.window_eq_some.mp hp
      exact absurd (hclosed p hpoll) (Nat.not_lt.mpr hin)
    have hreply : s.stationReply r = s := by simp [State.stationReply, hwindow]
    have hmiss : s.stationMiss st .bad = s := by
      rcases State.stationMiss_cases st .bad s with h | ⟨p, hpoll, ⟨-, hin, -⟩ | ⟨h, -⟩⟩
      · exact h
      · exact absurd (hclosed p (TlinkRec.pollOf_eq_some.mp hpoll).1) (Nat.not_lt.mpr hin)
      · cases h
    rw [exec_stationReplyGood hrun, exec_stationMiss hrun, hreply, hmiss, State.deliver_quiet hrun.2]
    exact ⟨rfl, rfl⟩
  case notPolled =>
    have hmiss : s.stationMiss st cause = s := by
      rcases State.stationMiss_cases st cause s with h | ⟨p, hpoll, -⟩
      · exact h
      · obtain ⟨hp, hst⟩ := TlinkRec.pollOf_eq_some.mp hpoll
        exact absurd hst (hother p hp)
    rw [exec_stationMiss hrun, hmiss, State.deliver_quiet hrun.2]
  case values =>
    obtain ⟨p, hp, hst, hw⟩ := hpolled
    rw [exec_stationReplyGood hrun, exec_stationMiss hrun, stationReply_taken hp hw (hr.trans hst.symm), stationMiss_bad hp hst hw,
      closeReply_bad hbad, hr]
  case still =>
    obtain ⟨p, hp, hst, hw⟩ := hpolled
    have hreplied : s.replied (replyStation r) = true := State.replied_iff.mpr hstill
    have hwindow : s.window = some p := State.window_eq_some.mpr ⟨hp, hw⟩
    have hne : replyStation r ≠ p.frame.station := hst ▸ hr
    have hreply : s.stationReply r = s := by simp [State.stationReply, hwindow, hne, hreplied]
    rw [exec_stationReplyGood hrun, hreply, State.deliver_quiet hrun.2]
  case other =>
    obtain ⟨p, hp, hst, hw⟩ := hpolled
    have hreplied : s.replied (replyStation r) = false := Bool.eq_false_iff.mpr fun e => hnot (State.replied_iff.mp e)
    have hwindow : s.window = some p := State.window_eq_some.mpr ⟨hp, hw⟩
    have hreply : s.stationReply r = s.answer.closeMiss st := by simp [State.stationReply, hwindow, hr, hreplied, hst]
    rw [exec_stationReplyGood hrun, exec_stationMiss hrun, hreply, stationMiss_bad hp hst hw]
  case bytes =>
    intro n
    have hn : poll.frameLength chars = n := frameLength_eq poll chars
    refine ⟨fun h => ?_, fun h hbad => ?_, fun h hgood => ?_⟩
    · exact closing_missing poll chars (hn ▸ h)
    · exact closing_bad poll chars (hn ▸ h) (by rw [hn]; exact judge_of_bad hbad)
    · obtain ⟨r, hr, hst, hok⟩ := judge_of_good hgood
      exact ⟨r, closing_good poll chars (hn ▸ h) (by rw [hn]; exact hr), hst, hok⟩

end Sys2Proof.Proofs
end

/-! ## Proofs: the step, the stop record's commands and the drive bits -/

section
/-! The obligations of the step and of the stop record's commands (O1, O46). -/

namespace Sys2Proof.Proofs

open Sys2Proof Sys2Proof.Machine

/-- Settles O1: both clauses are the two branches of the step's definition. -/
theorem stepRunsFrontCommand : Obligations.StepRunsFrontCommand := by
  unfold Obligations.StepRunsFrontCommand
  refine ⟨fun c rest s h => ?_, fun s h => ?_⟩
  · simp [step, h]
  · simp [step, State.idle, h]

/-- A concluded rule leaves what it left but for the reply and the routed notices. -/
theorem conclude_frame (p : Port) (code : Byte) (u : State) (a : Answer) :
    { State.conclude p code (u, a) with ports := u.ports } = { u with raised := 0 } := rfl

theorem permitStop_of {s : State} {p : Port} (h : s.auth.standing p = .driving ∨ p = .V) :
    permitStop (s.auth.standing p) = true := by
  obtain h | rfl := h
  · simp [permitStop, h]
  · rfl

section
variable {s : State} {p : Port} (h : Taking p s) (hp : s.auth.standing p = .driving ∨ p = .V)
include h hp

theorem exec_stopSet : exec (.stopSet p) s = .next (State.conclude p 0x30 (s.stopSetRule p)) :=
  congrArg Host.Outcome.next (State.command_taken h (f := permitStop) rfl (permitStop_of hp))

theorem exec_stopCancel : exec (.stopCancel p) s = .next (State.conclude p 0x31 s.stopCancelRule) :=
  congrArg Host.Outcome.next (State.command_taken h (f := permitStop) rfl (permitStop_of hp))

end

/-- Settles O46: each command is its rule, by the door line and by whether a request stands. -/
theorem stopSetAndCancel : Obligations.StopSetAndCancel := by
  unfold Obligations.StopSetAndCancel
  intro s p h hp
  have hquiet : s.raised = 0 := h.2.2
  refine ⟨fun hdcl => ?notReady, fun hdcl hreq => ?already, fun hdcl hreq => ?first, fun hreq => ?nothing, fun hreq => ?cleared⟩
  case notReady =>
    rw [exec_stopSet h hp, show s.stopSetRule p = (s, .refused .notReady) by simp [State.stopSetRule, hdcl],
      State.conclude_refusal hquiet]
  case already =>
    rw [exec_stopSet h hp, show s.stopSetRule p = (s, .done 0) by simp [State.stopSetRule, hdcl, StopRec.requested, hreq],
      State.conclude_quiet hquiet]
    rfl
  case first =>
    have hrule : s.stopSetRule p = (s.setStop (if p = .V then .vehicle else .driver), .done 0) := by
      simp [State.stopSetRule, hdcl, StopRec.requested, hreq]
    have hraised : (s.setStop (if p = .V then .vehicle else .driver)).raised = kindIf true .stopChanged := by
      simp [State.setStop, kindIf, only, hquiet]
    refine ⟨_, by rw [exec_stopSet h hp, hrule], by simp [doneReply, Answer.done, Answer.reply], rfl, ?_, ?_, ?_⟩
    · simp [State.driveBit, State.requested, StopRec.requested, State.conclude, State.setStop]
    · intro q
      rw [show doneReply 0x30 0 = (Answer.done 0).reply 0x30 from rfl, conclude_notified p 0x30 _ (by rfl) q, hraised, noticesFor_kindIf]
      rfl
    · exact with_raised_none hquiet
  case nothing =>
    have hrule : s.stopCancelRule = (s, .done 0) := by
      simp [State.stopCancelRule, State.cancelStop, StopRec.cancel, StopRec.requested, hreq]
    rw [exec_stopCancel h hp, hrule, State.conclude_quiet hquiet]
    rfl
  case cleared =>
    have hraised : s.cancelStop.raised = kindIf true .stopChanged := by
      simp [State.cancelStop, kindIf, only, StopRec.requested, hreq, hquiet]
    refine ⟨_, exec_stopCancel h hp, by simp [State.stopCancelRule, doneReply, Answer.done, Answer.reply], ?_, ?_, ?_⟩
    · simp [State.stopCancelRule, State.conclude, State.cancelStop, StopRec.cancel, StopRec.requested, hreq, StopRec.empty]
    · intro q
      rw [show doneReply 0x31 0 = (Answer.done 0).reply 0x31 from rfl, show s.stopCancelRule = (s.cancelStop, .done 0) from rfl,
        conclude_notified p 0x31 _ (by rfl) q, hraised, noticesFor_kindIf]
      rfl
    · exact with_raised_none hquiet

end Sys2Proof.Proofs
end

section
/-! The obligations of the reset state and of the drive bits (O54, O38). -/

namespace Sys2Proof.Proofs

open Sys2Proof Sys2Proof.Machine

theorem reset_wheelInv : WheelInv State.reset := by
  unfold WheelInv sensorIn
  decide

theorem reset_dieInv : DieInv State.reset := by
  unfold DieInv
  decide

theorem reset_linkInv : LinkInv State.reset := by
  unfold LinkInv stickyHolds
  decide

theorem reset_stopInv : StopInv State.reset := by
  unfold StopInv touchIn
  decide

/-- An empty table, an empty plan and an empty list agree in whatever is said of their members. -/
theorem reset_junctInv : JunctInv State.reset := by
  unfold JunctInv
  simp [State.reset, JunctRec.reset]

theorem default_assignmentIn (k : Fin 16) : assignmentIn (Assignment.default k) := by
  unfold Assignment.default
  split
  case isTrue h => exact ⟨by omega, by omega⟩
  case isFalse => trivial

theorem reset_settingsInv : SettingsInv State.reset := by
  refine ⟨by decide, by decide, by decide, by decide, by decide, by decide, by decide, by decide, by decide, fun k => ?_, by decide⟩
  rw [show cell State.reset.settings.touch k = Assignment.default k from cell_rowOf _ k]
  exact default_assignmentIn k

/-- Settles O54: each part is a finite fact about the reset values. -/
theorem resetMeetsInvariant : Obligations.ResetMeetsInvariant := by
  unfold Obligations.ResetMeetsInvariant
  refine ⟨?_, ?_, ?_, reset_wheelInv, ?_, ?_, reset_dieInv, reset_linkInv, reset_stopInv, reset_junctInv, reset_settingsInv, ?_⟩
  · unfold EmergencyInv; decide
  · unfold AuthInv; decide
  · unfold OutputInv leverIn; decide
  · unfold TlinkInv; decide
  · unfold VigilInv leverIn; decide
  · unfold SupplyInv; decide

/-! ### The drive bits -/

/-- Flags set one by one where a test holds: those set before and those of the members that pass. -/
theorem hasFlag_foldl_addFlag {m : Nat} (f : Fin m → Bool) (l : List (Fin m)) (x : BitVec m) (k : Fin m) :
    hasFlag (l.foldl (fun x n => if f n then addFlag x n.val else x) x) k.val = (hasFlag x k.val || decide (k ∈ l) && f k) := by
  induction l generalizing x with
  | nil => simp
  | cons n l ih =>
    rw [List.foldl_cons, ih]
    by_cases hk : k = n
    · subst hk
      cases hf : f k <;> simp [hasFlag_addFlag _ k.isLt]
    · have hne : n.val ≠ k.val := fun h => hk (Fin.ext h.symm)
      cases hf : f n <;> simp [hasFlag_addFlag _ n.isLt, hk, hne]

theorem hasFlag_driveBits (s : State) (n : Fin 12) : hasFlag s.driveBits n.val = s.driveBit n := by
  have h := hasFlag_foldl_addFlag s.driveBit (List.finRange 12) 0#12 n
  simpa [State.driveBits] using h

/-- A sounder's drive bit is its slot's (R118). -/
theorem driveBit_channelOf (s : State) (c : Sounder) : s.driveBit (channelOf c) = s.sound.isOn c := by
  cases c <;> rfl

theorem driveBit_number (s : State) (ch : SetChannel) (n : Fin 12) (h : n.val = ch.number) : s.driveBit n = s.requested ch := by
  unfold State.driveBit
  rw [h]
  cases ch <;> rfl

theorem isOn_iff (r : SoundRec) (c : Sounder) :
    r.isOn c = true ↔ ∃ i ∈ r.slot c, ((cell r.patterns i.pattern).stepAt i.step).on = true := by
  unfold SoundRec.isOn
  cases r.slot c with
  | none => simp
  | some i => simp [SoundRec.stepOf, SoundRec.patternOf]

theorem testOn_iff (r : SoundRec) (ch : SetChannel) :
    r.testOn ch = true ↔ ∃ i, r.testSlot = some (ch, i) ∧ ((cell r.patterns i.pattern).stepAt i.step).on = true := by
  unfold SoundRec.testOn
  cases r.testSlot with
  | none => simp
  | some q =>
    obtain ⟨c, i⟩ := q
    simp [SoundRec.stepOf, SoundRec.patternOf]

theorem any_toList_iff {m : Nat} (v : Vector (BitVec 4) m) :
    (v.toList.any fun x => x != 0) = true ↔ ∃ n : Fin m, cell v n ≠ 0 := by
  rw [List.any_eq_true]
  constructor
  · rintro ⟨x, hx, hne⟩
    obtain ⟨k, hk, rfl⟩ := List.mem_iff_getElem.mp hx
    exact ⟨⟨k, by simpa using hk⟩, by simpa [cell] using hne⟩
  · rintro ⟨n, hn⟩
    exact ⟨cell v n, by simp [cell], by simpa using hn⟩

/-- Settles O38: each drive bit by the record it follows, and FAULT by port V's sticky set. -/
theorem driveBitsFollowRequests : Obligations.DriveBitsFollowRequests := by
  unfold Obligations.DriveBitsFollowRequests
  intro s
  refine ⟨fun c => ?sounder, fun ch n h => ?set, calm_iff s.shaper, hasFlag_driveBits s, ?fault⟩
  case sounder => rw [driveBit_channelOf, isOn_iff]
  case set =>
    rw [driveBit_number s ch n h, ← testOn_iff]
    cases ch <;> simp [State.requested, StopRec.requested]
  case fault => simp only [State.faultLow, Sticky.nonEmpty, Bool.or_eq_true, any_toList_iff, or_assoc]

end Sys2Proof.Proofs
end

/-! ## Proofs: the holder's frame (03, 06, 07) -/

section
/-! SUPPORT. A holder's frame in its five stages (R37), and what each leaves. -/

namespace Sys2Proof.Proofs

open Sys2Proof Sys2Proof.Machine

/-! ### The turn -/

/-- The state after the first stage: the direction taken, if it is. -/
def turned (s : State) (x : Cab) (d : Direction) : State := if s.turns d then s.turn x d else s

section
variable {s : State} {x : Cab} {d0 d : Direction} (ha : s.auth = .held x d0)
include ha

theorem turns_iff :
    s.turns d = true ↔ d ≠ d0 ∧ s.wheel.stationary = true ∧ s.shaper.o ≤ 0 ∧ s.vigil.state ≠ .penalty := by
  simp only [State.turns, ha, Auth.direction, Bool.and_eq_true, decide_eq_true_eq, and_assoc, ne_comm]

theorem turned_eq :
    turned s x d = { s with
      auth := .held x (if s.turns d then d else d0)
      shaper := { s.shaper with zeroPass := s.shaper.zeroPass && !s.turns d }
      wheel := if s.turns d then { s.wheel with reverse := 0 } else s.wheel
      sound := if s.turns d then s.sound.silenceHornBell s.now else s.sound
      junct := if s.turns d then junctCancelled s else s.junct
      raised := s.raised ||| kindIf (s.turns d) .authChanged ||| kindIf (s.turns d && !s.junct.list.isEmpty) .junctionChanged } := by
  unfold turned
  cases hturns : s.turns d with
  | false =>
    simp only [Bool.false_eq_true, if_false, Bool.not_false, Bool.and_true, Bool.false_and, kindIf_false, BitVec.or_zero, ← ha]
  | true =>
    rw [if_pos rfl]
    unfold State.turn
    rw [cancelAll_eq, raise_raised]
    simp only [if_true, Bool.not_true, Bool.and_false, Bool.true_and, kindIf_true]
    rfl

end

/-! ### Handle, record, LEVER and zero-pass -/

/-- The handle's drop at rest, as the second stage finds it. -/
def dropsHandle (s : State) (f : DemandFrame) : Bool :=
  (s.shaper.demand.map DemandBody.handle).getD false && !f.handle && s.wheel.stationary

theorem dropsHandle_iff (s : State) (f : DemandFrame) :
    dropsHandle s f = true ↔
      (s.shaper.demand.map DemandBody.handle) = some true ∧ f.handle = false ∧ s.wheel.stationary = true := by
  unfold dropsHandle
  cases s.shaper.demand <;> simp [and_assoc]

/-- The state with the frame's record, before LEVER is tested. -/
def leverNoted (f : DemandFrame) (s : State) : State :=
  { s with shaper := { s.shaper with
      demand := some (.ofFrame f s.now), stage := .fresh, zeroPass := s.shaper.zeroPass && !dropsHandle s f } }

/-- Whether the frame's lever lets LEVER go (R60). -/
def leverLeaves (f : DemandFrame) (s : State) : Bool := s.wheel.stationary && decide (clampLever f.lever ≠ -128)

/-- The state after the fourth stage. -/
def leverJudged (f : DemandFrame) (s : State) : State := ((s.frameHandle f).frameWrite f).frameLever f

theorem frameWrite_eq (f : DemandFrame) (s : State) :
    (s.frameHandle f).frameWrite f = shed (sourceIf (leverLeaves f s) .lever) (leverNoted f s) := by
  have hzero : (if dropsHandle s f = true then false else s.shaper.zeroPass) = (s.shaper.zeroPass && !dropsHandle s f) := by
    cases dropsHandle s f <;> simp
  have hnoted : ({ s.frameHandle f with
      shaper := { (s.frameHandle f).shaper with demand := some (.ofFrame f s.now), stage := .fresh } } : State) = leverNoted f s := by
    unfold leverNoted
    rw [← hzero]
    rfl
  calc (s.frameHandle f).frameWrite f = (leverNoted f s).testLever := congrArg State.testLever hnoted
    _ = shed (sourceIf (leverLeaves f s) .lever) (leverNoted f s) := removeSourceIf_eq_shed _ _ _

theorem leverJudged_eq (f : DemandFrame) (s : State) :
    leverJudged f s = { s with
      shaper := (leverJudged f s).shaper, sound := (leverJudged f s).sound, raised := (leverJudged f s).raised } := by
  unfold leverJudged State.frameLever
  rw [addSourceIf_eq, frameWrite_eq]
  rfl

/-- At -128 the removal test takes nothing, and LEVER is added. -/
theorem leverJudged_low {f : DemandFrame} {s : State} (h : clampLever f.lever = -128) :
    leverJudged f s =
      State.addSourceIf true .lever { leverNoted f s with shaper := { (leverNoted f s).shaper with zeroPass := true } } := by
  have hstays : leverLeaves f s = false := by simp [leverLeaves, h]
  have hle : clampLever f.lever ≤ 0 := by omega
  unfold leverJudged State.frameLever
  rw [frameWrite_eq, hstays, show sourceIf false .lever = 0#8 from rfl, shed_none, decide_eq_true h, decide_eq_true hle, Bool.or_true]

/-- At any other lever nothing is added after the removal test. -/
theorem leverJudged_high {f : DemandFrame} {s : State} (h : clampLever f.lever ≠ -128) :
    leverJudged f s =
      { shed (sourceIf s.wheel.stationary .lever) (leverNoted f s) with
        shaper := { (shed (sourceIf s.wheel.stationary .lever) (leverNoted f s)).shaper with
          zeroPass := (shed (sourceIf s.wheel.stationary .lever) (leverNoted f s)).shaper.zeroPass ||
            decide (clampLever f.lever ≤ 0) } } := by
  have hleaves : leverLeaves f s = s.wheel.stationary := by simp [leverLeaves, h]
  unfold leverJudged State.frameLever
  rw [frameWrite_eq, hleaves, decide_eq_false h]
  rfl

/-- The set once one source is tested for removal (R59, R66). -/
theorem shedShaper_sourceIf_sources (up b : Bool) (k : EmSource) (sh : ShaperRec) :
    (shedShaper up (sourceIf b k) sh).sources =
      if b = true ∧ sh.has k = true then
        (if dropFlag sh.sources k.idx = 0 ∧ up = false then addFlag 0 EmSource.loopDropped.idx else dropFlag sh.sources k.idx)
      else sh.sources := by
  cases b with
  | false => simp [sourceIf]
  | true =>
    have hempties := empties_eq_emptiedBy sh k
    change (shedShaper up (addFlag 0 k.idx) sh).sources = _
    simp only [shedShaper, ← hempties, ← dropFlag_eq_and_not, ShaperRec.empties]
    cases hhas : sh.has k with
    | false => simpa using hasFlag_of_dropFlag_ne hhas
    | true => simp

/-- The set that the frame leaves. -/
theorem leverJudged_sources (f : DemandFrame) (s : State) :
    (leverJudged f s).shaper.sources =
      (if clampLever f.lever = -128 then addFlag s.shaper.sources EmSource.lever.idx
       else if clampLever f.lever ≠ -128 ∧ s.wheel.stationary = true ∧ s.shaper.has .lever = true then
         (if dropFlag s.shaper.sources EmSource.lever.idx = 0 ∧ s.outbank.linkUp = false then addFlag 0 EmSource.loopDropped.idx
          else dropFlag s.shaper.sources EmSource.lever.idx)
       else s.shaper.sources) := by
  by_cases h : clampLever f.lever = -128
  · rw [if_pos h, leverJudged_low h, addSourceIf_shaper]
    rfl
  · rw [if_neg h, leverJudged_high h]
    change (shedShaper s.outbank.linkUp (sourceIf s.wheel.stationary .lever) (leverNoted f s).shaper).sources = _
    rw [shedShaper_sourceIf_sources]
    exact if_congr (by rw [and_iff_right h]; rfl) rfl rfl

theorem ite_false_eq_and_not (p : Prop) [Decidable p] (b : Bool) : (if p then false else b) = (b && !decide p) := by
  by_cases h : p <;> simp [h]

/-- What the frame leaves of SHAPER beside the set, in terms of the set's going from some to none. -/
theorem leverJudged_shaper (f : DemandFrame) (s : State) :
    (leverJudged f s).shaper =
      { s.shaper with
        demand := some (.ofFrame f s.now), stage := .fresh, sources := (leverJudged f s).shaper.sources
        o := if clampLever f.lever = -128 ∧ s.shaper.sources = 0 then -1000 else s.shaper.o
        oPrev := if clampLever f.lever = -128 ∧ s.shaper.sources = 0 then -1000
          else if s.shaper.sources ≠ 0 ∧ (leverJudged f s).shaper.sources = 0 then -1000 else s.shaper.oPrev
        zeroPass := decide (clampLever f.lever ≤ 0) || s.shaper.zeroPass && !dropsHandle s f &&
          !decide (s.shaper.sources ≠ 0 ∧ (leverJudged f s).shaper.sources = 0) } := by
  by_cases h : clampLever f.lever = -128
  · have hsources : (leverJudged f s).shaper.sources = addFlag s.shaper.sources EmSource.lever.idx := by
      rw [leverJudged_sources, if_pos h]
    have hne : addFlag s.shaper.sources EmSource.lever.idx ≠ 0#8 := addFlag_ne_zero _ EmSource.lever.idx_lt
    have hshaper := congrArg State.shaper (leverJudged_low (s := s) h)
    rw [addSourceIf_shaper] at hshaper
    rw [hsources, hshaper]
    clear hshaper
    simp [hne, h, leverNoted]
  · have hshaper : (leverJudged f s).shaper = { shedShaper s.outbank.linkUp (sourceIf s.wheel.stationary .lever) (leverNoted f s).shaper with
        zeroPass := (shedShaper s.outbank.linkUp (sourceIf s.wheel.stationary .lever) (leverNoted f s).shaper).zeroPass ||
          decide (clampLever f.lever ≤ 0) } := by
      rw [leverJudged_high h]
      rfl
    rw [hshaper, shedShaper_eq]
    simp only [h, false_and, if_false]
    simp only [leverNoted]
    congr 1
    rw [Bool.or_comm]
    exact congrArg (decide (clampLever f.lever ≤ 0) || ·) (ite_false_eq_and_not _ _)

/-- EMERGENCY_CHANGED is raised exactly when the set goes from none to some or from some to none. -/
theorem leverJudged_raised (f : DemandFrame) (s : State) :
    (leverJudged f s).raised =
      s.raised ||| kindIf (decide ¬(s.shaper.sources = 0 ↔ (leverJudged f s).shaper.sources = 0)) .emergencyChanged := by
  by_cases h : clampLever f.lever = -128
  · rw [leverJudged_low h, addSourceIf_raised, added_decide (congrArg ShaperRec.sources (addSourceIf_shaper _ true .lever))]
    rfl
  · have hsources : (leverJudged f s).shaper.sources =
        (shedShaper s.outbank.linkUp (sourceIf s.wheel.stationary .lever) (leverNoted f s).shaper).sources := by
      rw [leverJudged_high h]
      rfl
    calc (leverJudged f s).raised
        = (shed (sourceIf s.wheel.stationary .lever) (leverNoted f s)).raised := by rw [leverJudged_high h]
      _ = s.raised ||| kindIf (emptiedBy (leverNoted f s).shaper (sourceIf s.wheel.stationary .lever) && s.outbank.linkUp)
            .emergencyChanged := shed_raised _ _
      _ = s.raised ||| kindIf (decide ¬(s.shaper.sources = 0 ↔ (leverJudged f s).shaper.sources = 0)) .emergencyChanged := by
        rw [emptied_decide s.outbank.linkUp _ (leverNoted f s).shaper _ hsources]
        rfl

theorem leverJudged_soundKept (f : DemandFrame) (s : State) : soundKept s.sound (leverJudged f s).sound [.hazard] := by
  by_cases h : clampLever f.lever = -128
  · rw [leverJudged_low h]
    exact addSourceIf_soundKept _ _ _
  · rw [leverJudged_high h]
    exact shed_soundKept _ (leverNoted f s)

theorem leverJudged_hazard (f : DemandFrame) (s : State) :
    if s.shaper.sources = 0 ↔ (leverJudged f s).shaper.sources = 0 then channelKept s.sound (leverJudged f s).sound .hazard
    else channelAsked s.sound (leverJudged f s).sound s.now .hazard (decide ((leverJudged f s).shaper.sources ≠ 0)) := by
  by_cases h : clampLever f.lever = -128
  · have hne : (leverJudged f s).shaper.sources ≠ 0 := by
      rw [leverJudged_sources, if_pos h]
      exact addFlag_ne_zero _ EmSource.lever.idx_lt
    have hhazard := addSourceIf_hazard { leverNoted f s with shaper := { (leverNoted f s).shaper with zeroPass := true } } true .lever
    rw [← leverJudged_low h] at hhazard
    by_cases h0 : s.shaper.sources = 0
    · rw [if_neg fun e => hne (e.mp h0), decide_eq_true hne]
      rwa [if_pos ⟨rfl, h0⟩] at hhazard
    · rw [if_pos (iff_of_false h0 hne)]
      rwa [if_neg (fun e => h0 e.2)] at hhazard
  · have hhazard := shed_hazard (sourceIf s.wheel.stationary .lever) (leverNoted f s)
    have hsound : (leverJudged f s).sound = (shed (sourceIf s.wheel.stationary .lever) (leverNoted f s)).sound := by
      rw [leverJudged_high h]
    have hsources : (leverJudged f s).shaper.sources =
        (shedShaper s.outbank.linkUp (sourceIf s.wheel.stationary .lever) (leverNoted f s).shaper).sources := by
      rw [leverJudged_high h]
      rfl
    have hemptied : (s.shaper.sources ≠ 0 ∧ (leverJudged f s).shaper.sources = 0) ↔
        (emptiedBy (leverNoted f s).shaper (sourceIf s.wheel.stationary .lever) && s.outbank.linkUp) = true := by
      rw [hsources]
      exact emptied_iff _ _ _
    have hzero : (leverJudged f s).shaper.sources = 0 ↔ s.shaper.sources = 0 ∨
        (emptiedBy (leverNoted f s).shaper (sourceIf s.wheel.stationary .lever) && s.outbank.linkUp) = true := by
      rw [hsources]
      exact shedShaper_sources_eq_zero _ _ _
    rw [← hsound] at hhazard
    by_cases he : (emptiedBy (leverNoted f s).shaper (sourceIf s.wheel.stationary .lever) && s.outbank.linkUp) = true
    · obtain ⟨hne, h0⟩ := hemptied.mpr he
      rw [if_neg fun e => hne (e.mpr h0), decide_eq_false (not_not.mpr h0)]
      rwa [if_pos (by exact he)] at hhazard
    · rw [if_pos ⟨fun h => hzero.mpr (Or.inl h), fun h => (hzero.mp h).resolve_right he⟩]
      rwa [if_neg (by exact he)] at hhazard

end Sys2Proof.Proofs
end

section
/-! SUPPORT. The frame handed on to VIGIL and SOUND, and what the whole frame leaves. -/

namespace Sys2Proof.Proofs

open Sys2Proof Sys2Proof.Machine

/-- What a holder's frame shows VIGIL. -/
def shown (before : Option DemandBody) (f : DemandFrame) : Attention :=
  { lever := clampLever f.lever, handle := f.handle, edge := pressEdge before f.horn f.bell }

/-- VIGIL's record after the frame. -/
def attended (s : State) (f : DemandFrame) : VigilRec :=
  { s.vigil.attend s.now (shown s.shaper.demand f) with
    buzzer := (s.vigil.attend s.now (shown s.shaper.demand f)).wantsBuzzer }

/-- The state after the fourth stage of the whole frame. -/
def framed (s : State) (x : Cab) (d : Direction) (f : DemandFrame) : State := leverJudged f (turned s x d)

theorem attend_buzzer (v : VigilRec) (now : Nat) (a : Attention) : (v.attend now a).buzzer = v.buzzer := by
  unfold VigilRec.attend
  split <;> rfl

section
variable {s : State} {x : Cab} {d0 d : Direction} (f : DemandFrame) (ha : s.auth = .held x d0)
include ha

omit ha in
theorem framed_eq :
    framed s x d f = { turned s x d with
      shaper := (framed s x d f).shaper, sound := (framed s x d f).sound, raised := (framed s x d f).raised } :=
  leverJudged_eq f (turned s x d)

theorem framed_vigil : (framed s x d f).vigil = s.vigil := by
  rw [framed_eq f, turned_eq ha]

theorem framed_auth : (framed s x d f).auth = .held x (if s.turns d then d else d0) := by
  rw [framed_eq f, turned_eq ha]

theorem framed_now : (framed s x d f).now = s.now := by
  rw [framed_eq f, turned_eq ha]

theorem holderFrame_eq :
    s.holderFrame x d f =
      { framed s x d f with
        vigil := attended s f
        sound := ((framed s x d f).sound.refreshBuzzer s.now (.held x (if s.turns d then d else d0)) (attended s f).buzzer).refreshHornBell
          s.now (.held x (if s.turns d then d else d0)) (framed s x d f).shaper
        raised := (framed s x d f).raised ||| kindIf ((attended s f).buzzer && !s.vigil.buzzer) .vigilWarn } := by
  have hstages : s.holderFrame x d f = (framed s x d f).frameHandOn s.shaper.demand f := rfl
  have hraised := refreshBuzzer_raised { framed s x d f with vigil := (framed s x d f).vigil.attend (framed s x d f).now (shown s.shaper.demand f) }
  rw [hstages]
  unfold State.frameHandOn State.vigilFrame State.refreshHornBell
  dsimp only
  rw [show ({ lever := clampLever f.lever, handle := f.handle, edge := pressEdge s.shaper.demand f.horn f.bell } : Attention) =
    shown s.shaper.demand f from rfl]
  simp only [hraised]
  simp only [State.refreshBuzzer, framed_vigil f ha, framed_now f ha, framed_auth f ha, attend_buzzer]
  rfl

end

section
variable {s : State} {x : Cab} {d0 d : Direction} (f : DemandFrame) (ha : s.auth = .held x d0)
include ha

/-- SHAPER after the frame. -/
theorem framed_shaper :
    (framed s x d f).shaper =
      { s.shaper with
        demand := some (.ofFrame f s.now), stage := .fresh, sources := (framed s x d f).shaper.sources
        o := if clampLever f.lever = -128 ∧ s.shaper.sources = 0 then -1000 else s.shaper.o
        oPrev := if clampLever f.lever = -128 ∧ s.shaper.sources = 0 then -1000
          else if s.shaper.sources ≠ 0 ∧ (framed s x d f).shaper.sources = 0 then -1000 else s.shaper.oPrev
        zeroPass := decide (clampLever f.lever ≤ 0) || (s.shaper.zeroPass && !s.turns d) && !dropsHandle s f &&
          !decide (s.shaper.sources ≠ 0 ∧ (framed s x d f).shaper.sources = 0) } := by
  have hdrops : dropsHandle (turned s x d) f = dropsHandle s f := by
    rw [turned_eq ha]
    cases s.turns d <;> rfl
  have hshaper := leverJudged_shaper f (turned s x d)
  rw [hdrops, turned_eq ha] at hshaper
  unfold framed
  rw [turned_eq ha]
  exact hshaper

theorem framed_sources :
    (framed s x d f).shaper.sources =
      (if clampLever f.lever = -128 then addFlag s.shaper.sources EmSource.lever.idx
       else if clampLever f.lever ≠ -128 ∧ s.wheel.stationary = true ∧ s.shaper.has .lever = true then
         (if dropFlag s.shaper.sources EmSource.lever.idx = 0 ∧ s.outbank.linkUp = false then addFlag 0 EmSource.loopDropped.idx
          else dropFlag s.shaper.sources EmSource.lever.idx)
       else s.shaper.sources) := by
  have hst : (turned s x d).wheel.stationary = s.wheel.stationary := by
    rw [turned_eq ha]
    cases s.turns d <;> rfl
  have hsources := leverJudged_sources f (turned s x d)
  rw [hst, turned_eq ha] at hsources
  unfold framed
  rw [turned_eq ha]
  exact hsources

theorem framed_raised :
    (framed s x d f).raised = s.raised ||| kindIf (s.turns d) .authChanged |||
      kindIf (s.turns d && !s.junct.list.isEmpty) .junctionChanged |||
      kindIf (decide ¬(s.shaper.sources = 0 ↔ (framed s x d f).shaper.sources = 0)) .emergencyChanged := by
  have hraised := leverJudged_raised f (turned s x d)
  unfold framed
  rw [hraised, turned_eq ha]

end

/-! ### The command -/

section
variable {s : State} {x : Cab} {d0 d : Direction} {f : DemandFrame} (ha : s.auth = .held x d0)
  (hd : directionOf f.direction = some d)
include ha hd

theorem demandRule_held :
    s.demandRule f =
      (s.holderFrame x d f, .taken (leverClamped f.lever || (decide (d0 ≠ d) && !s.turns d)) (s.holderFrame x d f).demandData) := by
  simp [State.demandRule, hd, ha, Auth.direction]

theorem exec_demand_held (h : Taking (portOf x) s) :
    exec (.demand (portOf x) f) s = .next (State.conclude (portOf x) 0x10
      (s.holderFrame x d f, .taken (leverClamped f.lever || (decide (d0 ≠ d) && !s.turns d)) (s.holderFrame x d f).demandData)) := by
  have hperm : permitDesk (s.auth.standing (portOf x)) = true := by simp [permitDesk, ha]
  rw [exec_demand_taken f h hperm, demandRule_held ha hd]

end

/-- The notices of a holder's frame (R16, R58, R59, R88, R166). -/
theorem holderFrame_told {s : State} {x : Cab} {d0 d : Direction} {f : DemandFrame} (h : Taking (portOf x) s) (ha : s.auth = .held x d0)
    (a : Answer) :
    Notified (s.reply (portOf x) (a.reply 0x10)) (State.conclude (portOf x) 0x10 (s.holderFrame x d f, a)) (fun p =>
      kindIf (s.turns d) .authChanged ||| toldIf (s.turns d && !s.junct.list.isEmpty) .junctionChanged (s.holderFrame x d f).auth p |||
        kindIf (decide ¬(s.shaper.sources = 0 ↔ (framed s x d f).shaper.sources = 0)) .emergencyChanged |||
        toldIf ((attended s f).buzzer && !s.vigil.buzzer) .vigilWarn (s.holderFrame x d f).auth p) := by
  have hports : (s.holderFrame x d f).ports = s.ports := by
    rw [holderFrame_eq f ha, framed_eq f, turned_eq ha]
  have hraised : (s.holderFrame x d f).raised = kindIf (s.turns d) .authChanged |||
      kindIf (s.turns d && !s.junct.list.isEmpty) .junctionChanged |||
      kindIf (decide ¬(s.shaper.sources = 0 ↔ (framed s x d f).shaper.sources = 0)) .emergencyChanged |||
      kindIf ((attended s f).buzzer && !s.vigil.buzzer) .vigilWarn := by
    rw [holderFrame_eq f ha, framed_raised f ha, show s.raised = 0#20 from h.2.2, BitVec.zero_or]
  intro p
  rw [conclude_notified (portOf x) 0x10 a hports p, hraised]
  simp only [noticesFor_or, noticesFor_kindIf, toldIf_authChanged, toldIf_emergencyChanged]

end Sys2Proof.Proofs
end

section
/-! The obligations of the holder's frame (O18, O19). -/

namespace Sys2Proof.Proofs

open Sys2Proof Sys2Proof.Machine

/-! ### What VIGIL makes of the frame -/

theorem watching_or (v : VigilState) : v.watching = true ↔ v = .watch ∨ v = .warn := by cases v <;> decide

theorem pressEdge_iff (before : DemandBody) (horn bell : Bool) :
    pressEdge (some before) horn bell = true ↔ (horn = true ∧ before.horn = false) ∨ (bell = true ∧ before.bell = false) := by
  simp [pressEdge]

theorem leverMoved_iff (v : VigilRec) (lever : Int) : v.leverMoved lever = true ↔ 5 ≤ (lever - v.leverRef).natAbs :=
  decide_eq_true_iff

theorem active_iff (s : State) (before : DemandBody) (f : DemandFrame) :
    s.vigil.active (shown (some before) f) = true ↔
      5 ≤ (clampLever f.lever - s.vigil.leverRef).natAbs ∨
        ((f.horn = true ∧ before.horn = false) ∨ (f.bell = true ∧ before.bell = false)) ∨
        (s.vigil.releaseTime.isSome = true ∧ f.handle = true) := by
  simp only [VigilRec.active, shown, leverMoved_iff, VigilRec.regrips, Bool.or_eq_true, Bool.and_eq_true, pressEdge_iff, or_assoc]

theorem wantsBuzzer_attended (s : State) (f : DemandFrame) :
    (attended s f).buzzer = (decide ((attended s f).state = .warn) || (attended s f).releaseTime.isSome) := rfl

/-- The record after the frame, whatever VIGIL's state. -/
theorem frameWatched_attended {s t : State} {before : DemandBody} {f : DemandFrame} (hb : s.shaper.demand = some before)
    (ht : t.vigil = attended s f)
    (htold : s.vigil.buzzer = false → t.vigil.buzzer = true → ∀ p, recipients .vigilWarn t.auth p = true → Told t p .vigilWarn) :
    frameWatched s t before f := by
  have hactive := active_iff s before f
  refine ⟨?handle, ?record, ?buzzer, htold⟩
  case buzzer => rw [ht]; exact wantsBuzzer_attended s f
  case handle =>
    rw [ht]
    simp only [attended, hb, VigilRec.attend]
    split <;> rfl
  case record =>
    rw [ht]
    simp only [attended, hb]
    split
    case isTrue hw =>
      have hwatching := (watching_or _).mpr hw
      simp only [VigilRec.attend, hwatching, if_true]
      refine ⟨if_congr hactive rfl rfl, if_congr hactive rfl rfl, if_congr hactive rfl rfl,
        if_congr (leverMoved_iff _ _) rfl rfl, rfl⟩
    case isFalse hw =>
      have hidle : ¬s.vigil.state.watching = true := fun e => hw ((watching_or _).mp e)
      have hattend : s.vigil.attend s.now (shown (some before) f) = { s.vigil with handle := f.handle, leverRef := clampLever f.lever } :=
        if_neg hidle
      rw [hattend]
      exact ⟨rfl, rfl, rfl, rfl, rfl⟩

/-- Settles O18: the frame leaves the record of VIGIL's own rule, and a placing of the buzzer request is among its notices. -/
theorem holderFrameWatched : Obligations.HolderFrameWatched := by
  unfold Obligations.HolderFrameWatched
  intro s x d0 d before f h ha hb hd
  have hvigil : (s.holderFrame x d f).vigil = attended s f := by rw [holderFrame_eq f ha]
  refine ⟨_, exec_demand_held ha hd h, frameWatched_attended hb hvigil fun hnot hnow p hp => ?_⟩
  have hplaced : (attended s f).buzzer = true := (congrArg VigilRec.buzzer hvigil.symm).trans hnow
  have hto : recipients .vigilWarn (s.holderFrame x d f).auth p = true := hp
  refine told_of_notified (holderFrame_told h ha _) ?_
  simp [toldIf, hplaced, hnot, hto]

/-! ### What the frame leaves elsewhere -/

/-- The status of a holder's DEMAND reply (R36, R16). -/
theorem held_status {s : State} {x : Cab} {d0 d : Direction} (ha : s.auth = .held x d0) (raw : BitVec 8) :
    (if leverClamped raw || (decide (d0 ≠ d) && !s.turns d) then Status.doneClamped else .done) =
      if clampLever raw ≠ raw.toInt ∨
          (d ≠ d0 ∧ ¬(d ≠ d0 ∧ s.wheel.stationary = true ∧ s.shaper.o ≤ 0 ∧ s.vigil.state ≠ .penalty)) then .doneClamped
      else .done := by
  refine if_congr ?_ rfl rfl
  rw [← turns_iff ha]
  simp only [leverClamped, Bool.or_eq_true, Bool.and_eq_true, decide_eq_true_eq, Bool.not_eq_true', Bool.not_eq_true,
    ne_comm (a := d0)]

theorem notified_congr {s t : State} {kinds kinds' : Port → BitVec 20} (h : Notified s t kinds) (hk : ∀ p, kinds p = kinds' p) :
    Notified s t kinds' := fun p => hk p ▸ h p

theorem kindIf_iff (p q : Prop) [Decidable p] [Decidable q] (h : p ↔ ¬q) (k : Notice) :
    kindIf (decide p) k = if q then 0 else only k := by
  by_cases hq : q <;> simp [h, hq]

theorem frameLeaves_concluded {s : State} {x : Cab} {d0 d : Direction} {f : DemandFrame} (h : Taking (portOf x) s)
    (ha : s.auth = .held x d0) :
    frameLeaves s (State.conclude (portOf x) 0x10 (s.holderFrame x d f,
      .taken (leverClamped f.lever || (decide (d0 ≠ d) && !s.turns d)) (s.holderFrame x d f).demandData)) x d0 d f := by
  have hturns := turns_iff (d := d) ha
  have hshaper : (s.holderFrame x d f).shaper = (framed s x d f).shaper := by rw [holderFrame_eq f ha]
  have hvigil : (s.holderFrame x d f).vigil = attended s f := by rw [holderFrame_eq f ha]
  have hrest : (s.holderFrame x d f).wheel = (if s.turns d then { s.wheel with reverse := 0 } else s.wheel) ∧
      (s.holderFrame x d f).junct = (if s.turns d then junctCancelled s else s.junct) := by
    rw [holderFrame_eq f ha, framed_eq f, turned_eq ha]
    exact ⟨rfl, rfl⟩
  obtain ⟨hwheel, hjunct⟩ := hrest
  have hauth : (s.holderFrame x d f).auth =
      .held x (if d ≠ d0 ∧ s.wheel.stationary = true ∧ s.shaper.o ≤ 0 ∧ s.vigil.state ≠ .penalty then d else d0) := by
    rw [holderFrame_eq f ha]
    exact (framed_auth f ha).trans (by rw [if_congr hturns rfl rfl])
  refine ⟨hauth, ?status, ?demand, ?stage, ?sources, ?outputs, ?zero, ?wheel, ?junct, ?told, ?shaper, ?frame⟩
  case status =>
    rw [conclude_replyOf, taken_status]
    exact held_status ha f.lever
  case demand =>
    change (s.holderFrame x d f).shaper.demand = _
    rw [hshaper, framed_shaper f ha]
    rfl
  case stage =>
    change (s.holderFrame x d f).shaper.stage = _
    rw [hshaper, framed_shaper f ha]
  case sources =>
    change (s.holderFrame x d f).shaper.sources = _
    rw [hshaper, framed_sources f ha]
  case outputs =>
    have ho := (congrArg ShaperRec.o (hshaper.trans (framed_shaper f ha)) :)
    have hprev := (congrArg ShaperRec.oPrev (hshaper.trans (framed_shaper f ha)) :)
    refine (congrArg₂ Prod.mk ho hprev).trans ?_
    by_cases hlow : clampLever f.lever = -128 ∧ s.shaper.sources = 0
    · simp only [if_pos hlow]
    · simp only [if_neg hlow]
      refine congrArg (Prod.mk _) (if_congr ?_ rfl rfl)
      rw [← hshaper]
      rfl
  case zero =>
    change (s.holderFrame x d f).shaper.zeroPass = true ↔ _ ∨ (_ ∧ _ ∧ _ ∧ ¬(_ ∧ (s.holderFrame x d f).shaper.sources = 0))
    rw [hshaper, congrArg ShaperRec.zeroPass (framed_shaper f ha), ← hturns, ← dropsHandle_iff]
    simp only [Bool.or_eq_true, Bool.and_eq_true, decide_eq_true_eq, Bool.not_eq_true', decide_eq_false_iff_not, Bool.not_eq_true,
      and_assoc]
  case wheel =>
    rw [if_congr hturns.symm rfl rfl]
    exact hwheel
  case junct =>
    rw [if_congr hturns.symm rfl rfl]
    exact hjunct
  case told =>
    rw [conclude_replyOf]
    refine notified_congr (holderFrame_told h ha _) fun p => ?_
    change _ = (if _ then _ ||| toldIf _ _ (s.holderFrame x d f).auth p else _) |||
      (if s.shaper.sources = 0 ↔ (s.holderFrame x d f).shaper.sources = 0 then _ else _) |||
      toldIf ((s.holderFrame x d f).vigil.buzzer && _) _ (s.holderFrame x d f).auth p
    have hset : (s.shaper.sources = 0 ↔ (s.holderFrame x d f).shaper.sources = 0) ↔
        (s.shaper.sources = 0 ↔ (framed s x d f).shaper.sources = 0) := by rw [hshaper]
    rw [if_congr hturns.symm rfl rfl, kindIf_iff _ _ Iff.rfl, hvigil, if_congr hset rfl rfl]
    cases s.turns d <;> simp
  case shaper =>
    have hrest := congrArg (fun sh : ShaperRec => { sh with
      demand := s.shaper.demand, stage := s.shaper.stage, zeroPass := s.shaper.zeroPass, o := s.shaper.o, oPrev := s.shaper.oPrev
      sources := s.shaper.sources }) (hshaper.trans (framed_shaper f ha))
    exact hrest
  case frame =>
    have hquiet : s.raised = 0 := h.2.2
    refine Eq.trans ?_ (with_raised_none hquiet)
    rw [holderFrame_eq f ha, framed_eq f, turned_eq ha]
    rfl

/-- The data of a DEMAND reply are R56's fields in their order. -/
theorem demandData_eq (s : State) :
    s.demandData =
      (BitVec.ofNat 16 s.wheel.v ++ BitVec.ofInt 16 s.shaper.o ++ BitVec.ofBool (decide (s.shaper.sources ≠ 0)) ++
        BitVec.ofBool s.caution ++ BitVec.ofBool s.stop.record.first.isSome ++ s.vigil.state.code ++ s.shaper.stage.code ++
        0#1 : BitVec 40) := by
  have hset : (!s.shaper.calm) = decide (s.shaper.sources ≠ 0) := by simp [calm_eq_decide]
  unfold State.demandData
  rw [hset]
  simp only [BitVec.append_assoc, BitVec.cast_eq, StopRec.requested]

/-- The data of a reply concluded with them are those of the state it leaves. -/
theorem demand_concluded (p : Port) (u : State) (clamped : Bool) :
    ((State.conclude p 0x10 (u, .taken clamped u.demandData)).replyOf p).code = 0x10 ∧
      ((State.conclude p 0x10 (u, .taken clamped u.demandData)).replyOf p).data =
        (State.conclude p 0x10 (u, .taken clamped u.demandData)).demandData := by
  rw [conclude_replyOf]
  exact ⟨rfl, rfl⟩

/-- Settles O19: the frame's five stages field by field, and the reply as its rule makes it from what they leave. -/
theorem holderFrameApplied : Obligations.HolderFrameApplied := by
  unfold Obligations.HolderFrameApplied
  refine ⟨fun s x d0 f h ha _ => ⟨fun h3 => ?code3, fun d hd => ?leaves⟩, fun s x d f h hcab hlost hd => ?reply⟩
  case code3 =>
    have hperm : permitDesk (s.auth.standing (portOf x)) = true := by simp [permitDesk, ha]
    exact exec_demand_code3 h hperm h3
  case leaves => exact ⟨_, exec_demand_held ha hd h, frameLeaves_concluded h ha⟩
  case reply =>
    cases ha : s.auth with
    | vacant => simp [ha, Auth.cab] at hcab
    | lost c d' => simp [ha, Auth.isLost] at hlost
    | held c d0 =>
      obtain rfl : c = x := by simpa [ha, Auth.cab] using hcab
      obtain ⟨hcode, hdata⟩ := demand_concluded (portOf c) (s.holderFrame c d f) (leverClamped f.lever || (decide (d0 ≠ d) && !s.turns d))
      exact ⟨_, exec_demand_held ha hd h, hcode, hdata.trans (demandData_eq _)⟩
    | claiming c start old =>
      obtain rfl : c = x := by simpa [ha, Auth.cab] using hcab
      have hperm : permitDesk (s.auth.standing (portOf c)) = true := by simp [permitDesk, ha]
      obtain ⟨hcode, hdata⟩ := demand_concluded (portOf c) (s.claimantFrame d f) (leverClamped f.lever)
      rw [← demandRule_claiming ha hd] at hcode hdata
      exact ⟨_, exec_demand_taken f h hperm, hcode, hdata.trans (demandData_eq _)⟩

end Sys2Proof.Proofs
end

section
/-! SUPPORT. A level request that finds its slot empty (R99, R100). -/

namespace Sys2Proof.Proofs

open Sys2Proof Sys2Proof.Machine

theorem levelStarts_of_patterns {a b : SoundRec} {now : Nat} {c : Sounder} {i : Instance} (hp : b.patterns = a.patterns)
    (h : levelStarts b now c i) : levelStarts a now c i := by
  unfold levelStarts at h ⊢
  rwa [hp] at h

/-- The channel's level instance starts in its slot. -/
theorem startLevel_starts (r : SoundRec) (now : Nat) {c : Sounder} {who : Requester} {p : Fin 8}
    (h : levelRequester c = some (who, p)) : ∃ j, (r.startLevel now c).slot c = some j ∧ levelStarts r now c j := by
  refine ⟨r.newInstance now p who true, ?_, ⟨⟨who, p, h, rfl, rfl⟩, rfl, rfl, rfl, rfl, ?_⟩⟩
  · simp [SoundRec.startLevel, h, SoundRec.slot_putSlot]
  · simp only [SoundRec.newInstance]
    cases (cell r.patterns p).rep <;> rfl

theorem place_starts {r : SoundRec} {now : Nat} {c : Sounder} {who : Requester} {p : Fin 8} (h : levelRequester c = some (who, p))
    (hslot : r.slot c = none) (hreq : r.req c = .notPlaced) : ∃ j, (r.place now c).slot c = some j ∧ levelStarts r now c j := by
  have hplace : r.place now c = (r.putReq c (.placed false)).startLevel now c := by simp [SoundRec.place, hreq, hslot]
  rw [hplace]
  exact startLevel_starts (r.putReq c (.placed false)) now h

end Sys2Proof.Proofs
end

section
/-! The obligations of the horn, the bell and the freshness timers (O35, O20). -/

namespace Sys2Proof.Proofs

open Sys2Proof Sys2Proof.Machine

/-! ### SOUND after a holder's frame -/

section
variable {s : State} {x : Cab} {d0 d : Direction} (f : DemandFrame) (ha : s.auth = .held x d0)
include ha

/-- SOUND as the turn leaves it. -/
theorem turned_sound : (turned s x d).sound = if s.turns d then s.sound.silenceHornBell s.now else s.sound := by rw [turned_eq ha]

theorem turned_soundKept : soundKept s.sound (turned s x d).sound hornBellChannels := by
  rw [turned_sound ha]
  split
  · exact silenceHornBell_soundKept _ _
  · exact soundKept_refl _ _

omit ha in
theorem framed_soundKept : soundKept (turned s x d).sound (framed s x d f).sound [.hazard] := leverJudged_soundKept f (turned s x d)

/-- The leading end of a holder with a fresh record is where the buttons sound. -/
theorem wantsAt_framed (pressed : DemandBody → Bool) (a : Auth) (hheld : a.isHeld = true) (e : Cab) :
    wantsAt a (framed s x d f).shaper pressed e = (pressed (.ofFrame f s.now) && decide (a.leading = some e)) := by
  have hdemand := congrArg ShaperRec.demand (framed_shaper (d := d) f ha)
  have hstage := congrArg ShaperRec.stage (framed_shaper (d := d) f ha)
  simp only [wantsAt, soundingEnd, hdemand, hstage, hheld, decide_true, Bool.and_self, if_true, Option.map_some, Option.getD_some]
  exact Bool.and_comm _ _

/-- The three stretches of SOUND in a holder's frame: the turn with LEVER, the buzzers, and horn and bell. -/
theorem holderFrame_sound :
    ∃ a b : SoundRec, soundKept (turned s x d).sound a [.hazard] ∧ a = (framed s x d f).sound ∧
      b = a.refreshBuzzer s.now (s.holderFrame x d f).auth (attended s f).buzzer ∧
      (s.holderFrame x d f).sound = b.refreshHornBell s.now (s.holderFrame x d f).auth (framed s x d f).shaper := by
  refine ⟨_, _, framed_soundKept f, rfl, rfl, ?_⟩
  rw [holderFrame_eq f ha]
  rw [show (framed s x d f).auth = Auth.held x (if s.turns d then d else d0) from framed_auth f ha]

/-- Horn and bell: asked for from what the turn left, by the frame's buttons at the leading end (R103). -/
theorem holderFrame_hornBell {c : Sounder} (hc : c ∈ hornBellChannels) :
    channelAsked (turned s x d).sound (s.holderFrame x d f).sound s.now c
      (hornBellOn (s.holderFrame x d f).auth (framed s x d f).shaper c) := by
  obtain ⟨a, b, hlever, -, rfl, hu⟩ := holderFrame_sound f ha (d := d)
  rw [hu]
  have hkept := soundKept_append hlever (refreshBuzzer_soundKept a s.now (s.holderFrame x d f).auth (attended s f).buzzer)
  have hout : ∀ c ∈ hornBellChannels, c ∉ [Sounder.hazard] ++ [.buzzA, .buzzB] := by decide
  exact channelAsked_of_soundKept hkept (hout c hc) (refreshHornBell_channelAsked _ _ _ _ hc)

/-- The buzzers: asked for by VIGIL's request at the holder's cab (R88). -/
theorem holderFrame_buzzers (e : Cab) :
    channelAsked s.sound (s.holderFrame x d f).sound s.now (buzzOf e) ((attended s f).buzzer && decide (e = x)) := by
  have hcab : (s.holderFrame x d f).auth.cab = some x := by
    rw [holderFrame_eq f ha, show (framed s x d f).auth = _ from framed_auth f ha]
    rfl
  have hdecide : decide (e = x) = decide ((s.holderFrame x d f).auth.cab = some e) := by
    rw [hcab]
    exact decide_eq_decide.mpr (by rw [Option.some_inj, eq_comm])
  obtain ⟨a, b, hlever, -, rfl, hu⟩ := holderFrame_sound f ha (d := d)
  have hkept := soundKept_append (turned_soundKept (d := d) ha) hlever
  have hout : buzzOf e ∉ hornBellChannels ++ [Sounder.hazard] := by cases e <;> decide
  have hafter : buzzOf e ∉ hornBellChannels := by cases e <;> decide
  rw [hu, hdecide]
  exact channelAsked_then_kept
    (channelAsked_of_soundKept hkept hout (refreshBuzzer_channelAsked a s.now (s.holderFrame x d f).auth (attended s f).buzzer e))
    ((refreshHornBell_soundKept _ _ _ _).1 _ hafter)

/-- The hazard request: withdrawn or placed as the set empties or fills (R58, R59). -/
theorem holderFrame_hazard :
    if s.shaper.sources = 0 ↔ (framed s x d f).shaper.sources = 0 then channelKept s.sound (s.holderFrame x d f).sound .hazard
    else channelAsked s.sound (s.holderFrame x d f).sound s.now .hazard (decide ((framed s x d f).shaper.sources ≠ 0)) := by
  have hsources : (turned s x d).shaper.sources = s.shaper.sources := by rw [turned_eq ha]
  have hnow : (turned s x d).now = s.now := by rw [turned_eq ha]
  have hlever := leverJudged_hazard f (turned s x d)
  rw [hnow, if_congr (by rw [hsources]) rfl rfl] at hlever
  obtain ⟨a, b, -, hframed, rfl, hu⟩ := holderFrame_sound f ha (d := d)
  have hturn : soundKept s.sound (turned s x d).sound hornBellChannels := turned_soundKept (d := d) ha
  have hout : Sounder.hazard ∉ hornBellChannels := by decide
  have hafter : channelKept (framed s x d f).sound (s.holderFrame x d f).sound .hazard := by
    rw [hu, ← hframed]
    exact channelKept_trans ((refreshBuzzer_soundKept _ _ _ _).1 _ (by decide)) ((refreshHornBell_soundKept _ _ _ _).1 _ hout)
  by_cases hsame : s.shaper.sources = 0 ↔ (framed s x d f).shaper.sources = 0
  · rw [if_pos hsame]
    rw [if_pos (by exact hsame)] at hlever
    exact channelKept_trans (hturn.1 _ hout) (channelKept_trans hlever hafter)
  · rw [if_neg hsame]
    rw [if_neg (by exact hsame)] at hlever
    exact channelAsked_then_kept (channelAsked_of_soundKept hturn hout hlever) hafter

theorem holderFrame_soundKept :
    soundKept s.sound (s.holderFrame x d f).sound [.hornA, .hornB, .bellA, .bellB, .buzzA, .buzzB, .hazard] := by
  obtain ⟨a, b, hlever, -, rfl, hu⟩ := holderFrame_sound f ha (d := d)
  have hkept := soundKept_append (soundKept_append (turned_soundKept (d := d) ha) hlever)
    (refreshBuzzer_soundKept a s.now (s.holderFrame x d f).auth (attended s f).buzzer)
  rw [hu]
  exact soundKept_mono (soundKept_append hkept (refreshHornBell_soundKept _ _ _ _)) (by decide)

end

/-- Settles O35: each channel by the stretch of the frame that asks for it; the others keep it. -/
theorem hornAndBellFollowButtons : Obligations.HornAndBellFollowButtons := by
  unfold Obligations.HornAndBellFollowButtons
  intro s x d0 d f h ha hd
  let u := s.holderFrame x d f
  have hauth : u.auth = .held x (if s.turns d then d else d0) := by
    change (s.holderFrame x d f).auth = _
    rw [holderFrame_eq f ha]
    exact framed_auth f ha
  have hheld : u.auth.isHeld = true := by rw [hauth]; rfl
  have hshaper : u.shaper = (framed s x d f).shaper := by
    change (s.holderFrame x d f).shaper = _
    rw [holderFrame_eq f ha]
  have hvigil : u.vigil = attended s f := by
    change (s.holderFrame x d f).vigil = _
    rw [holderFrame_eq f ha]
  have hhorn (e : Cab) : channelAsked (turned s x d).sound u.sound s.now (hornOf e) (f.horn && decide (u.auth.leading = some e)) := by
    have hasked := holderFrame_hornBell f ha (d := d) (hornOf_mem e)
    rwa [hornBellOn_hornOf, wantsAt_framed f ha _ _ hheld] at hasked
  have hbell (e : Cab) : channelAsked (turned s x d).sound u.sound s.now (bellOf e) (f.bell && decide (u.auth.leading = some e)) := by
    have hasked := holderFrame_hornBell f ha (d := d) (bellOf_mem e)
    rwa [hornBellOn_bellOf, wantsAt_framed f ha _ _ hheld] at hasked
  have hbefore : (turned s x d).sound = if s.turns d then s.sound.silenceHornBell s.now else s.sound := turned_sound ha
  refine ⟨_, exec_demand_held ha hd h, fun e => ⟨?horn, ?bell, ?starts⟩, ⟨?silenced, ?asked⟩, ?hazard, holderFrame_soundKept f ha⟩
  case horn => exact (hhorn e).1.trans (by rw [Bool.and_eq_true, decide_eq_true_eq]; rfl)
  case bell => exact (hbell e).1.trans (by rw [Bool.and_eq_true, decide_eq_true_eq]; rfl)
  case starts =>
    intro hslot hreq hpressed hleads
    have hon : (f.horn && decide (u.auth.leading = some e)) = true := by
      rw [Bool.and_eq_true, decide_eq_true_eq]
      exact ⟨hpressed, hleads⟩
    have hempty : (turned s x d).sound.slot (hornOf e) = none ∧ (turned s x d).sound.req (hornOf e) = .notPlaced := by
      rw [hbefore]
      split
      · obtain ⟨hr, hs⟩ := silenceHornBell_self s.sound s.now (hornOf_mem e)
        exact ⟨by rw [hs, hslot]; rfl, hr⟩
      · exact ⟨hslot, hreq⟩
    have hlevel : levelRequester (hornOf e) = some (.hornButton, 0) := by cases e <;> rfl
    obtain ⟨j, hj, hstarts⟩ := place_starts (now := s.now) hlevel hempty.1 hempty.2
    obtain ⟨-, hafter, -⟩ := hhorn e
    rw [hon] at hafter
    exact ⟨j, hafter.trans hj, levelStarts_of_patterns (soundKept_patterns (turned_soundKept (d := d) ha)) hstarts⟩
  case silenced =>
    intro hturns c hc
    rw [if_pos hturns]
    exact silenceHornBell_self s.sound s.now hc
  case asked =>
    intro e
    rw [if_congr (turns_iff (d := d) ha).symm rfl rfl, ← hbefore]
    refine ⟨hhorn e, hbell e, ?_⟩
    have hbuzz := holderFrame_buzzers f ha (d := d) e
    rw [← hvigil] at hbuzz
    exact hbuzz
  case hazard =>
    have hhazard := holderFrame_hazard f ha (d := d)
    rw [← hshaper] at hhazard
    exact hhazard

/-! ### The freshness timers -/

section
variable {s : State} {d : DemandBody} (hrun : Running s) (hd : s.shaper.demand = some d)
include hrun hd

theorem exec_freshness300_fresh (hstage : s.shaper.stage = .fresh) :
    exec .freshness300MsExpiry s = .next (State.refreshHornBell { s.reach (d.takenAt + 300) with
      shaper := { s.shaper with stage := .coasting, zeroPass := false } }) := by
  have hexpiry : s.freshExpiry = State.refreshHornBell { s.reach (d.takenAt + 300) with
      shaper := { s.shaper with stage := .coasting, zeroPass := false } } := by
    simp [State.freshExpiry, hd, hstage]
  refine congrArg Host.Outcome.next ((State.event_of hrun.1).trans ?_)
  rw [hexpiry]
  exact State.deliver_quiet hrun.2

theorem exec_freshness300_other (hstage : s.shaper.stage ≠ .fresh) : exec .freshness300MsExpiry s = .next s := by
  have hidle : s.freshExpiry = s := by
    cases h : s.shaper.stage with
    | fresh => exact absurd h hstage
    | _ => simp [State.freshExpiry, hd, h]
  exact congrArg Host.Outcome.next (event_idle hrun hidle)

theorem exec_freshness1000_coasting (hstage : s.shaper.stage = .coasting) :
    exec .freshness1000MsExpiry s = .next (State.raise .demandStale { s.reach (d.takenAt + 1000) with
      shaper := { s.shaper with stage := .staleBrake } }).deliver := by
  have hexpiry : s.staleExpiry = State.raise .demandStale { s.reach (d.takenAt + 1000) with
      shaper := { s.shaper with stage := .staleBrake } } := by
    simp [State.staleExpiry, hd, hstage]
  refine congrArg Host.Outcome.next ((State.event_of hrun.1).trans ?_)
  rw [hexpiry]

theorem exec_freshness1000_other (hstage : s.shaper.stage ≠ .coasting) : exec .freshness1000MsExpiry s = .next s := by
  have hidle : s.staleExpiry = s := by
    cases h : s.shaper.stage with
    | coasting => exact absurd h hstage
    | _ => simp [State.staleExpiry, hd, h]
  exact congrArg Host.Outcome.next (event_idle hrun hidle)

end

/-- Outside FRESH no button sounds (R103). -/
theorem hornBellOn_not_fresh {a : Auth} {sh : ShaperRec} (h : sh.stage ≠ .fresh) (c : Sounder) : hornBellOn a sh c = false := by
  cases c <;> simp [hornBellOn, wantsAt, soundingEnd, h]

/-- Nothing is told by what leaves the ports alone. -/
theorem notified_none {s t : State} (h : t.ports = s.ports) : Notified s t (fun _ => 0) := by
  intro p
  rw [h]
  exact (PortRec.notify_zero _).symm

/-- Settles O20: each expiry in its stage, and in another stage nothing. -/
theorem freshnessExpires : Obligations.FreshnessExpires := by
  unfold Obligations.FreshnessExpires
  intro s d hrun hd
  refine ⟨fun hstage => ?coasts, exec_freshness300_other hrun hd, fun hstage => ?brakes, exec_freshness1000_other hrun hd⟩
  case coasts =>
    let w : State := { s.reach (d.takenAt + 300) with shaper := { s.shaper with stage := .coasting, zeroPass := false } }
    have hkept : soundKept s.sound w.refreshHornBell.sound hornBellChannels := refreshHornBell_soundKept _ _ _ _
    refine ⟨_, exec_freshness300_fresh hrun hd hstage, rfl, rfl, rfl, notified_none rfl, fun c hc => ?_, fun c hc => ?_, hkept.2, rfl, rfl⟩
    · obtain ⟨-, hslot, hreq⟩ := refreshHornBell_channelAsked s.sound w.now w.auth w.shaper hc
      rw [hornBellOn_not_fresh (fun e => Stage.noConfusion e : w.shaper.stage ≠ .fresh)] at hslot hreq
      exact ⟨hreq.trans (by simp [SoundRec.want, SoundRec.withdraw_req]), hslot⟩
    · have hout : ∀ c ∈ [Sounder.buzzA, .buzzB, .chime, .hazard], c ∉ hornBellChannels := by decide
      obtain ⟨hslot, hreq⟩ := hkept.1 c (hout c hc)
      exact ⟨hreq, hslot⟩
  case brakes =>
    have hquiet : s.raised = 0 := hrun.2
    refine ⟨_, exec_freshness1000_coasting hrun hd hstage, rfl, rfl, ?_, with_raised_none hquiet⟩
    refine notified_of rfl fun p => ?_
    have hraised : (State.raise .demandStale { s.reach (d.takenAt + 1000) with
        shaper := { s.shaper with stage := .staleBrake } }).raised = kindIf true .demandStale := by
      rw [raise_raised, State.reach_raised, show s.raised = 0#20 from hquiet, BitVec.zero_or]
      rfl
    rw [hraised]
    exact noticesFor_kindIf s.auth true .demandStale p

end Sys2Proof.Proofs
end

section
/-! The obligations of the shaper period (O21, O23). -/

namespace Sys2Proof.Proofs

open Sys2Proof Sys2Proof.Machine

/-! ### Limits and ceilings -/

theorem min_of_ceilings (l : Nat) {a : Nat} (b c : Nat) (h : a ≤ 800) : min (min l a) (min b c) = min (min (min (min 800 l) a) b) c := by
  omega

theorem speedLimit_eq (s : State) : s.speedLimit = limitOf s := by
  have hcaution : (if s.caution then 100 else 800) ≤ 800 := by split <;> omega
  have hdegraded : (if s.wheel.s1.failed || s.wheel.s2.failed then 250 else 800) =
      (if s.wheel.s1.failed = true ∨ s.wheel.s2.failed = true then 250 else 800) := if_congr Bool.or_eq_true_iff rfl rfl
  unfold State.speedLimit
  rw [hdegraded]
  exact min_of_ceilings _ _ _ hcaution

theorem envelope_le (v vLim : Nat) : envelope v vLim ≤ 1000 := by
  unfold envelope
  split
  · exact le_rfl
  · split <;> omega

theorem slipCeiling_iff (w : WheelRec) : w.slipCeiling = true ↔ w.adhesion = .slip ∨ w.runOn.isSome = true := by
  simp [WheelRec.slipCeiling]

theorem ceiling_eq (s : State) {e : Nat} (h : e ≤ 1000) :
    s.ceiling e =
      (if s.tlink.tu1.answering = false ∧ s.tlink.tu2.answering = false then 0
       else if s.wheel.adhesion = .slip ∨ s.wheel.runOn.isSome = true then min e 600 else e) := by
  unfold State.ceiling
  refine if_congr (by simp) rfl ?_
  rw [if_congr (slipCeiling_iff s.wheel) rfl rfl]
  split <;> omega

/-! ### Permission and the target -/

theorem permission_iff (s : State) : s.permission = true ↔ permits s := by
  unfold State.permission permits
  cases s.auth <;> cases s.shaper.demand <;> simp [Auth.isHeld, Auth.direction, calm_iff, and_assoc]
  intros
  exact decide_eq_true_iff

/-- The target, by the demand record that HELD alone has and by its stage (R41, R47). -/
theorem computePeriod_t {s : State} {p : Bool} (h : s.shaper.demand.isSome = s.auth.isHeld) (hp : s.permission = p) :
    s.computePeriod.t = targetOf s p s.computePeriod.c s.computePeriod.overspeed := by
  have htarget : s.computePeriod.t =
      target (permitted s.permission (leverTarget s.auth.isHeld s.shaper.stage ((s.shaper.demand.map DemandBody.lever).getD 0)))
        s.computePeriod.c s.computePeriod.overspeed s.wheel.rollback (decide (s.shaper.stage = .staleBrake)) := rfl
  rw [htarget, hp, ← h]
  unfold targetOf
  cases s.shaper.demand <;> cases s.shaper.stage <;> rfl

theorem computePeriod_o {s : State} {p : Bool} (hp : s.permission = p) :
    s.computePeriod.o =
      (if s.shaper.sources ≠ 0 then -1000
       else
         let x := rateStep s.shaper.oPrev s.computePeriod.t
         let y := if 0 < x then min x s.computePeriod.c else x
         if p then y else min y 0) := by
  have hout : s.computePeriod.o = outputOf s.shaper.calm s.shaper.oPrev s.computePeriod.t s.computePeriod.c s.permission := rfl
  rw [hout, hp]
  by_cases hs : s.shaper.sources = 0
  · rw [if_neg (not_not.mpr hs), outputOf, if_pos (calm_of_no_source hs)]
    rfl
  · rw [if_pos hs, outputOf, if_neg fun e => hs ((calm_iff _).mp e)]

/-- Settles O21: the stages of the period that the state computes, and the period's end. -/
theorem periodComputesOutput : Obligations.PeriodComputesOutput := by
  unfold Obligations.PeriodComputesOutput
  refine ⟨fun s hrun => ⟨_, exec_shaperPeriod hrun, speedLimit_eq s, ?_, ?_, rfl, rfl⟩, fun s p hrun hd hp => ?_⟩
  · rw [← speedLimit_eq]
    rfl
  · rw [← speedLimit_eq]
    exact ceiling_eq s (envelope_le _ _)
  · have hpermission : s.permission = p := Bool.eq_iff_iff.mpr ((permission_iff s).trans hp.symm)
    exact ⟨_, exec_shaperPeriod hrun, computePeriod_t hd hpermission, computePeriod_o hpermission, rfl, rfl, rfl, rfl, rfl⟩

/-! ### The ranges -/

/-- The target of a period lies in its range when the demand record's lever does (R41, R47). -/
theorem computePeriod_t_range {s : State} (hd : ∀ d ∈ s.shaper.demand, leverIn d.lever) :
    -1000 ≤ s.computePeriod.t ∧ s.computePeriod.t ≤ 1000 := by
  have hlever : -1000 ≤ leverTarget s.auth.isHeld s.shaper.stage ((s.shaper.demand.map DemandBody.lever).getD 0) ∧
      leverTarget s.auth.isHeld s.shaper.stage ((s.shaper.demand.map DemandBody.lever).getD 0) ≤ 1000 := by
    unfold leverTarget
    cases hdemand : s.shaper.demand with
    | none => split <;> [split; skip] <;> simp
    | some b =>
      have hin := hd b hdemand
      unfold leverIn at hin
      simp only [Option.map_some, Option.getD_some]
      split
      · split
        · split <;> omega
        · omega
        · omega
      · omega
  have hperm : -1000 ≤ permitted s.permission (leverTarget s.auth.isHeld s.shaper.stage ((s.shaper.demand.map DemandBody.lever).getD 0)) ∧
      permitted s.permission (leverTarget s.auth.isHeld s.shaper.stage ((s.shaper.demand.map DemandBody.lever).getD 0)) ≤ 1000 := by
    unfold permitted
    split <;> omega
  simp only [State.computePeriod, target]
  split <;> split <;> split <;> split <;> omega

theorem clampOut_ge {x : Int} {c : Nat} {p : Bool} (h : -1000 ≤ x) : -1000 ≤ clampOut x c p := by
  unfold clampOut
  dsimp only
  split <;> split <;> omega

theorem outputOf_calm (prev t : Int) (c : Nat) (p : Bool) : outputOf true prev t c p = clampOut (rateStep prev t) c p := rfl

/-- O stays in its range (R48 to R50). -/
theorem computePeriod_o_range {s : State} (hd : ∀ d ∈ s.shaper.demand, leverIn d.lever)
    (hprev : -1000 ≤ s.shaper.oPrev ∧ s.shaper.oPrev ≤ 1000) : -1000 ≤ s.computePeriod.o ∧ s.computePeriod.o ≤ 1000 := by
  have ht := computePeriod_t_range hd
  have hstep := rateStep_between s.shaper.oPrev s.computePeriod.t
  have hout : s.computePeriod.o = outputOf s.shaper.calm s.shaper.oPrev s.computePeriod.t s.computePeriod.c s.permission := rfl
  rw [hout]
  cases s.shaper.calm with
  | false => simp [outputOf]
  | true =>
    have hle := clampOut_le (rateStep s.shaper.oPrev s.computePeriod.t) s.computePeriod.c s.permission
    have hge : -1000 ≤ clampOut (rateStep s.shaper.oPrev s.computePeriod.t) s.computePeriod.c s.permission := clampOut_ge (by omega)
    rw [outputOf_calm]
    omega

/-- A positive output has permission and keeps under the ceiling (R50). -/
theorem computePeriod_traction {s : State} (h : 0 < s.computePeriod.o) :
    s.permission = true ∧ s.computePeriod.o ≤ s.computePeriod.c := by
  have hout : s.computePeriod.o = outputOf s.shaper.calm s.shaper.oPrev s.computePeriod.t s.computePeriod.c s.permission := rfl
  rw [hout] at h ⊢
  cases hcalm : s.shaper.calm with
  | false => simp [hcalm, outputOf] at h
  | true =>
    rw [hcalm, outputOf_calm] at h
    rw [outputOf_calm]
    cases hp : s.permission with
    | false =>
      rw [hp] at h
      simp only [clampOut, Bool.false_eq_true, if_false] at h
      omega
    | true =>
      rw [hp] at h
      simp only [clampOut, if_true] at h ⊢
      refine ⟨trivial, ?_⟩
      split at h
      case isTrue hpos => rw [if_pos hpos]; exact min_le_right _ _
      case isFalse hpos => exact absurd h hpos

/-- Settles O23: what the period computes, by its last two stages. -/
theorem tractionIsPermitted : Obligations.TractionIsPermitted := by
  unfold Obligations.TractionIsPermitted
  intro s hrun _ hinv
  obtain ⟨hdemand, -, -, hprev, -⟩ := hinv
  refine ⟨_, exec_shaperPeriod hrun, fun hpos => ?_, fun hs => ⟨fun h0 => ?_, fun h0 => ⟨?_, ?_⟩⟩, fun hs => ?_,
    computePeriod_o_range hdemand hprev⟩
  · obtain ⟨hp, hc⟩ := computePeriod_traction hpos
    exact ⟨(permission_iff s).mp hp, hc⟩
  · exact (computePeriod_o_le hs).trans (rateStep_le_add_15 _ h0)
  · exact (computePeriod_o_le hs).trans (rateStep_le_add_40 _ h0)
  · exact (computePeriod_o_le hs).trans (rateStep_nonpos_of_neg _ h0)
  · exact (computePeriod_o rfl).trans (if_pos hs)

end Sys2Proof.Proofs
end

/-! ## Proofs: vigilance (06) -/

section
/-! The obligation of VIGIL's timers (O31). -/

namespace Sys2Proof.Proofs

open Sys2Proof Sys2Proof.Machine

/-- A change of other channels of SOUND followed by an addition is what the statements say of it. -/
theorem sourceAdded_after {s v t : State} {k : EmSource} {but : List Sounder} (hshaper : v.shaper = s.shaper)
    (hsound : soundKept s.sound v.sound but) (hbut : .hazard ∉ but) (h : sourceAdded v t k) : sourceAdded s t k but := by
  obtain ⟨hsh, hhazard, hkept, hloop⟩ := h
  rw [hshaper] at hsh
  refine ⟨hsh, ?_, soundKept_mono (soundKept_append hsound hkept) (by simp), hloop⟩
  by_cases hfirst : s.shaper.sources = 0
  · rw [if_pos hfirst]
    rw [hshaper, if_pos hfirst] at hhazard
    exact channelAsked_of_soundKept hsound hbut hhazard
  · rw [if_neg hfirst]
    rw [hshaper, if_neg hfirst] at hhazard
    exact channelKept_trans (hsound.1 _ hbut) hhazard

/-- VIGIL in PENALTY, before its source is added. -/
def penaltyNoted (s : State) : State :=
  State.refreshBuzzer
    { s with vigil := { s.vigil with state := .penalty, lastActivity := none, warnStart := none, releaseTime := none } }

theorem enterPenalty_eq (s : State) : s.enterPenalty = ((penaltyNoted s).addSource .penalty).raise .vigilPenalty := rfl

/-- No request calls for the buzzer in PENALTY (R88). -/
theorem penaltyNoted_raised (s : State) : (penaltyNoted s).raised = s.raised := by
  unfold penaltyNoted
  rw [refreshBuzzer_raised]
  simp [VigilRec.wantsBuzzer]

theorem penaltyNoted_buzzers (s : State) (e : Cab) : channelAsked s.sound (penaltyNoted s).sound s.now (buzzOf e) false := by
  have hasked := refreshBuzzer_channelAsked s.sound s.now s.auth false e
  rwa [Bool.false_and] at hasked

/-- PENALTY entered (R93), the clock as the timer leaves it. -/
theorem penalised_enterPenalty {s : State} {due : Nat} (hquiet : s.raised = 0) :
    penalised s (s.reach due).enterPenalty.deliver := by
  let v := penaltyNoted (s.reach due)
  have hkept : soundKept s.sound v.sound [.buzzA, .buzzB] := refreshBuzzer_soundKept _ _ _ _
  have hadded : sourceAdded v (v.addSource .penalty) .penalty := sourceAdded_addSource v .penalty
  refine ⟨rfl, sourceAdded_after (v := v) rfl hkept (by decide) hadded, fun c hc => ?buzzers, ?told, with_raised_none hquiet⟩
  case buzzers =>
    have hbuzz : ∃ e, c = buzzOf e := by
      obtain rfl | rfl : c = .buzzA ∨ c = .buzzB := by simpa using hc
      · exact ⟨.A, rfl⟩
      · exact ⟨.B, rfl⟩
    obtain ⟨e, rfl⟩ := hbuzz
    have hout : buzzOf e ∉ [Sounder.hazard] := by cases e <;> decide
    obtain ⟨-, -, hlamps, -⟩ := hadded
    exact channelAsked_then_kept (penaltyNoted_buzzers (s.reach due) e) (hlamps.1 _ hout)
  case told =>
    refine notified_of rfl fun p => ?_
    have hraised : (s.reach due).enterPenalty.raised =
        kindIf (decide (s.shaper.sources = 0)) .emergencyChanged ||| kindIf true .vigilPenalty := by
      have hv : v.raised = 0#20 := (penaltyNoted_raised _).trans hquiet
      rw [enterPenalty_eq, raise_raised, addSource_raised, show (penaltyNoted (s.reach due)).raised = 0#20 from hv, BitVec.zero_or]
      rfl
    rw [hraised, noticesFor_or, noticesFor_kindIf, noticesFor_kindIf, toldIf_emergencyChanged, toldIf_vigilPenalty, BitVec.or_comm]
    simp [kindIf]

/-- VIGIL in WARN, before the buzzer request follows. -/
def warned (s : State) : State := { s with vigil := { s.vigil with state := .warn, warnStart := some s.now } }

section
variable {s : State} {at_ : Nat} (hrun : Running s)
include hrun

theorem exec_event {i : Instr} {f : State → State} (hi : exec i s = .next (s.event f)) : exec i s = .next (f s).deliver :=
  hi.trans (congrArg Host.Outcome.next (State.event_of hrun.1))

theorem exec_activity_watch (hst : s.vigil.state = .watch) (hat : s.vigil.lastActivity = some at_) :
    exec .vigilActivityTimerExpiry s = .next (warned (s.reach (at_ + s.settings.vigilInterval * 1000))).refreshBuzzer.deliver := by
  have hexpiry : s.activityExpiry = (warned (s.reach (at_ + s.settings.vigilInterval * 1000))).refreshBuzzer := by
    simp only [State.activityExpiry, hst, hat, warned]
  rw [exec_event hrun rfl, hexpiry]

theorem exec_activity_other (hst : s.vigil.state ≠ .watch) : exec .vigilActivityTimerExpiry s = .next s := by
  have hidle : s.activityExpiry = s := by
    cases h : s.vigil.state with
    | watch => exact absurd h hst
    | _ => simp [State.activityExpiry, h]
  exact congrArg Host.Outcome.next (event_idle hrun hidle)

theorem exec_warn_other (hst : s.vigil.state ≠ .warn) : exec .warnTimerExpiry s = .next s := by
  have hidle : s.warnExpiry = s := by
    cases h : s.vigil.state with
    | warn => exact absurd h hst
    | _ => simp [State.warnExpiry, h]
  exact congrArg Host.Outcome.next (event_idle hrun hidle)

end

/-- Settles O31: the activity timer places the request; the other two enter PENALTY. -/
theorem vigilanceTimersExpire : Obligations.VigilanceTimersExpire := by
  unfold Obligations.VigilanceTimersExpire
  refine ⟨fun s at_ hrun => ⟨fun hst hat => ?warns, exec_activity_other hrun⟩,
    fun s at_ hrun => ⟨fun hst hat => ?warn, exec_warn_other hrun, fun hst hat => ?grace, fun hnone => ?idle⟩⟩
  case warns =>
    let w : State := warned (s.reach (at_ + s.settings.vigilInterval * 1000))
    have hquiet : s.raised = 0 := hrun.2
    have hwants : w.vigil.wantsBuzzer = true := rfl
    have hraised : w.refreshBuzzer.raised = kindIf (!s.vigil.buzzer) .vigilWarn := by
      rw [refreshBuzzer_raised, show w.raised = 0#20 from hquiet, BitVec.zero_or, hwants, Bool.true_and]
      rfl
    refine ⟨_, exec_activity_watch hrun hst hat, rfl, rfl, fun x => ?_, refreshBuzzer_soundKept _ _ _ _, ?_, with_raised_none hquiet⟩
    · have hasked := refreshBuzzer_channelAsked s.sound w.now s.auth w.vigil.wantsBuzzer x
      rwa [hwants, Bool.true_and] at hasked
    · refine notified_of rfl fun p => ?_
      rw [hraised, noticesFor_kindIf]
      rfl
  case warn =>
    have hexpiry : s.warnExpiry = (s.reach (at_ + 5000)).enterPenalty := by simp [State.warnExpiry, hst, hat]
    refine ⟨_, (exec_event hrun rfl).trans (by rw [hexpiry]), rfl, penalised_enterPenalty hrun.2⟩
  case grace =>
    have hwatching := (watching_or _).mpr hst
    have hexpiry : s.graceExpiry = (s.reach (at_ + s.settings.handleGrace * 100)).enterPenalty := by
      simp [State.graceExpiry, hat, hwatching]
    refine ⟨_, (exec_event hrun rfl).trans (by rw [hexpiry]), rfl, penalised_enterPenalty hrun.2⟩
  case idle =>
    have hidle : s.graceExpiry = s := by simp [State.graceExpiry, hnone]
    exact congrArg Host.Outcome.next (event_idle hrun hidle)

end Sys2Proof.Proofs
end

/-! ## Proofs: horn, bell and sounders (07) -/

section
/-! SUPPORT. Changes of one channel of SOUND (R99 to R102), and TONE (R106). -/

namespace Sys2Proof.Proofs

open Sys2Proof Sys2Proof.Machine

/-! ### One channel's slot, request and wave -/

/-- A change of one channel: the others keep slot and request, and but for slots, requests and TONE all stays. -/
def oneChannel (a b : SoundRec) (c : Sounder) : Prop :=
  othersKept a b c ∧ { b with slots := a.slots, level := a.level, toneHigh := a.toneHigh, toneDue := a.toneDue } = a

theorem oneChannel_refl (a : SoundRec) (c : Sounder) : oneChannel a a c := ⟨fun _ _ => ⟨rfl, rfl⟩, rfl⟩

theorem oneChannel_trans {a b d : SoundRec} {c : Sounder} (h : oneChannel a b c) (h' : oneChannel b d c) : oneChannel a d c := by
  obtain ⟨hk, hf⟩ := h
  obtain ⟨hk', hf'⟩ := h'
  refine ⟨fun e he => ⟨(hk' e he).1.trans (hk e he).1, (hk' e he).2.trans (hk e he).2⟩, ?_⟩
  exact (congrArg (fun r : SoundRec =>
    { r with slots := a.slots, level := a.level, toneHigh := a.toneHigh, toneDue := a.toneDue }) hf' :).trans hf

theorem putSlot_oneChannel (r : SoundRec) (now : Nat) (c : Sounder) (i : Option Instance) : oneChannel r (r.putSlot now c i) c :=
  ⟨fun _ he => ⟨by simp [SoundRec.slot_putSlot, he], rfl⟩, rfl⟩

theorem putReq_oneChannel (r : SoundRec) (c : Sounder) (q : LevelReq) : oneChannel r (r.putReq c q) c :=
  ⟨fun _ he => ⟨rfl, by simp [SoundRec.req_putReq, he]⟩, rfl⟩

theorem oneChannel_patterns {a b : SoundRec} {c : Sounder} (h : oneChannel a b c) : b.patterns = a.patterns :=
  (congrArg SoundRec.patterns h.2 :)

theorem startLevel_oneChannel (r : SoundRec) (now : Nat) (c : Sounder) : oneChannel r (r.startLevel now c) c := by
  unfold SoundRec.startLevel
  split
  · exact oneChannel_refl r c
  · exact putSlot_oneChannel r now c _

theorem endSlot_oneChannel (r : SoundRec) (now : Nat) (c : Sounder) : oneChannel r (r.endSlot now c) c := by
  unfold SoundRec.endSlot
  split
  · exact oneChannel_trans (putSlot_oneChannel r now c none) (startLevel_oneChannel _ now c)
  · exact putSlot_oneChannel r now c none

/-- CHIME has no level requester: its ended slot is empty. -/
theorem endSlot_chime (r : SoundRec) (now : Nat) : r.endSlot now .chime = r.putSlot now .chime none := by
  unfold SoundRec.endSlot
  split <;> rfl

theorem levelRequester_of_ne_chime {c : Sounder} (h : c ≠ .chime) : ∃ who p, levelRequester c = some (who, p) := by
  cases c <;> first | exact ⟨_, _, rfl⟩ | exact absurd rfl h

/-- An ended slot whose request stands unspent holds the level instance anew (R102). -/
theorem endSlot_starts (r : SoundRec) (now : Nat) {c : Sounder} (hc : c ≠ .chime) (h : r.req c = .placed false) :
    ∃ j, (r.endSlot now c).slot c = some j ∧ levelStarts r now c j := by
  obtain ⟨who, p, hwho⟩ := levelRequester_of_ne_chime hc
  have hend : r.endSlot now c = (r.putSlot now c none).startLevel now c := by simp [SoundRec.endSlot, h]
  rw [hend]
  exact startLevel_starts (r.putSlot now c none) now hwho

/-! ### TONE -/

theorem waves_iff (r : SoundRec) : waves r ↔ r.waving = true := by
  unfold waves SoundRec.waving SoundRec.tone SoundRec.stepOf SoundRec.patternOf
  cases r.slot .chime with
  | none => simp
  | some i =>
    by_cases hon : ((cell r.patterns i.pattern).stepAt i.step).on = true
    · simp [hon]
    · simp [hon]

theorem halfPeriod_eq {f : Nat} (h : f ≠ 0) : halfPeriod f = toneHalf f := by
  have hpos : 0 < 2 * f := by omega
  have hsplit : 1000000 + f = (2 * (500000 % f) + f) + 2 * f * (500000 / f) := by
    have := Nat.div_add_mod 500000 f
    linarith
  have hlt : 500000 % f < f := Nat.mod_lt _ (Nat.pos_of_ne_zero h)
  unfold halfPeriod toneHalf
  rw [hsplit, Nat.add_mul_div_left _ _ hpos, Nat.add_comm]
  congr 1
  split
  case isTrue hle => exact Nat.div_eq_of_lt_le (by omega) (by omega)
  case isFalse hle => exact Nat.div_eq_of_lt (by omega)

/-- With a wave TONE's frequency is that of CHIME's step. -/
theorem tone_of_waving {r : SoundRec} {i : Instance} (hw : r.waving = true) (hi : r.slot .chime = some i) :
    r.tone ≠ 0 ∧ r.tone = ((cell r.patterns i.pattern).stepAt i.step).tone := by
  have hne : r.tone ≠ 0 := by simpa [SoundRec.waving] using hw
  refine ⟨hne, ?_⟩
  unfold SoundRec.tone at hne ⊢
  rw [hi] at hne ⊢
  simp only [SoundRec.stepOf, SoundRec.patternOf] at hne ⊢
  exact if_pos (by_contra fun hoff => hne (if_neg hoff))

/-- TONE whose level and next change follow from CHIME's slot is TONE as the statements start it. -/
theorem waveStarts_of {r : SoundRec} {now : Nat} (hhigh : r.toneHigh = r.waving) (hdue : r.toneDue = r.waveDue now) :
    waveStarts r now := by
  refine ⟨by rw [hhigh, waves_iff], fun hno => ?_, fun hw i hi => ?_⟩
  · rw [hdue, SoundRec.waveDue, if_neg fun e => hno ((waves_iff r).mpr e)]
  · have hwaving := (waves_iff r).mp hw
    obtain ⟨hne, htone⟩ := tone_of_waving hwaving hi
    rw [hdue, SoundRec.waveDue, if_pos hwaving, halfPeriod_eq hne, htone]

/-- New contents of CHIME's slot start its wave anew. -/
theorem putSlot_waveStarts (r : SoundRec) (now : Nat) (i : Option Instance) : waveStarts (r.putSlot now .chime i) now := by
  obtain ⟨hhigh, hdue⟩ := SoundRec.tone_putSlot_chime r now i
  exact waveStarts_of hhigh hdue

/-- An empty slot of CHIME is silent. -/
theorem putSlot_chime_none (r : SoundRec) (now : Nat) :
    (r.putSlot now .chime none).toneHigh = false ∧ (r.putSlot now .chime none).toneDue = none := by
  obtain ⟨hhigh, hdue⟩ := SoundRec.tone_putSlot_chime r now none
  have hslot : (r.putSlot now .chime none).slot .chime = none := by simp [SoundRec.slot_putSlot]
  have hwaving : (r.putSlot now .chime none).waving = false := by simp [SoundRec.waving, SoundRec.tone, hslot]
  rw [hhigh, hdue, SoundRec.waveDue, hwaving]
  exact ⟨rfl, rfl⟩

theorem putSlot_toneKept (r : SoundRec) (now : Nat) {c : Sounder} (i : Option Instance) (h : c ≠ .chime) :
    toneKept r (r.putSlot now c i) := SoundRec.tone_putSlot r now i h

theorem startLevel_toneKept (r : SoundRec) (now : Nat) (c : Sounder) : toneKept r (r.startLevel now c) := by
  cases c with
  | chime => exact ⟨rfl, rfl⟩
  | _ => exact putSlot_toneKept r now _ (by decide)

theorem toneKept_trans {a b d : SoundRec} (h : toneKept a b) (h' : toneKept b d) : toneKept a d :=
  ⟨h'.1.trans h.1, h'.2.trans h.2⟩

theorem endSlot_toneKept (r : SoundRec) (now : Nat) {c : Sounder} (h : c ≠ .chime) : toneKept r (r.endSlot now c) := by
  unfold SoundRec.endSlot
  split
  · exact toneKept_trans (putSlot_toneKept r now none h) (startLevel_toneKept _ now c)
  · exact putSlot_toneKept r now none h

end Sys2Proof.Proofs
end

section
/-! The obligations of SOUND's requests and of the running patterns (O34, O33). -/

namespace Sys2Proof.Proofs

open Sys2Proof Sys2Proof.Machine

/-! ### One-shot and level requests -/

/-- A one-shot that is not kept out takes the slot. -/
theorem oneShot_eq_putSlot {r : SoundRec} {c : Sounder} {p : Fin 8} {who : Requester} (now : Nat)
    (h : ∀ i, r.slot c = some i → ¬ keepsOut r p who i) :
    r.oneShot now c p who = r.putSlot now c (some (r.newInstance now p who false)) := by
  cases hslot : r.slot c with
  | none => simp [SoundRec.oneShot, hslot]
  | some i =>
    obtain ⟨hown, hpriority⟩ := not_or.mp (h i hslot)
    have hhigh : r.priorityOf i < (cell r.patterns p).priority := not_le.mp hpriority
    simp [SoundRec.oneShot, hslot, hown, hhigh]

theorem oneShot_oneChannel (r : SoundRec) (now : Nat) (c : Sounder) (p : Fin 8) (who : Requester) :
    oneChannel r (r.oneShot now c p who) c := by
  unfold SoundRec.oneShot
  dsimp only
  split
  · exact putSlot_oneChannel r now c _
  · split
    · exact oneChannel_refl r c
    · split
      · exact putSlot_oneChannel r now c _
      · exact oneChannel_refl r c

theorem newInstance_oneShot_repeats (r : SoundRec) (now : Nat) (p : Fin 8) (who : Requester) :
    (r.newInstance now p who false).repeatsLeft = some ((cell r.patterns p).rep.getD 1) := by
  simp only [SoundRec.newInstance]
  cases (cell r.patterns p).rep <;> rfl

/-- TONE once a slot takes an instance. -/
theorem putSlot_tone (r : SoundRec) (now : Nat) (c : Sounder) (i : Option Instance) :
    if c = .chime then waveStarts (r.putSlot now c i) now else toneKept r (r.putSlot now c i) := by
  by_cases hc : c = .chime
  · subst hc
    rw [if_pos rfl]
    exact putSlot_waveStarts r now i
  · rw [if_neg hc]
    exact putSlot_toneKept r now i hc

theorem ownLevel_iff {c : Sounder} {who : Requester} {p : Fin 8} (h : levelRequester c = some (who, p)) (i : Instance) :
    ownLevel c i = true ↔ i.isLevel = true ∧ i.requester = who := by
  simp [ownLevel, h]

/-- A placing by what the slot holds (R100). -/
theorem place_some {r : SoundRec} {c : Sounder} {who : Requester} {p : Fin 8} (now : Nat) (hwho : levelRequester c = some (who, p))
    (hreq : r.req c = .notPlaced) {i : Instance} (hslot : r.slot c = some i) :
    r.place now c =
      if ownLevel c i = true then (r.putReq c (.placed false)).putSlot now c (some { i with kind := .level true })
      else if (cell r.patterns i.pattern).priority < (cell r.patterns p).priority then (r.putReq c (.placed false)).startLevel now c
      else r.putReq c (.placed false) := by
  simp only [SoundRec.place, hreq, hslot, hwho]
  rfl

theorem place_none {r : SoundRec} {c : Sounder} (now : Nat) (hreq : r.req c = .notPlaced) (hslot : r.slot c = none) :
    r.place now c = (r.putReq c (.placed false)).startLevel now c := by
  simp [SoundRec.place, hreq, hslot]

theorem place_placed {r : SoundRec} {c : Sounder} {who : Requester} {p : Fin 8} (now : Nat) (hwho : levelRequester c = some (who, p))
    (hreq : r.req c = .notPlaced) : (r.place now c).req c = .placed false := by
  have hput : (r.putReq c (.placed false)).req c = .placed false := by simp [SoundRec.req_putReq]
  cases hslot : r.slot c with
  | none => rw [place_none now hreq hslot, SoundRec.startLevel_req, hput]
  | some i =>
    rw [place_some now hwho hreq hslot]
    split
    · exact hput
    · split
      · rw [SoundRec.startLevel_req, hput]
      · exact hput

/-- A withdrawing of the channel's own instance (R100). -/
theorem withdraw_own {r : SoundRec} {c : Sounder} {b : Bool} (now : Nat) (hreq : r.req c = .placed b) {i : Instance}
    (hslot : r.slot c = some i) (hown : ownLevel c i = true) :
    (r.withdraw now c).slot c =
      if i.started + (cell r.patterns i.pattern).minRun * 10 ≤ now then none else some { i with kind := .level false } := by
  have hput : (r.putReq c .notPlaced).req c ≠ .placed false := by simp [SoundRec.req_putReq]
  simp only [SoundRec.withdraw, hreq, hslot, hown, if_true]
  change SoundRec.slot (if i.started + (cell r.patterns i.pattern).minRun * 10 ≤ now then _ else _) c = _
  split
  · rw [SoundRec.endSlot_empty now hput]
    simp [SoundRec.slot_putSlot]
  · simp [SoundRec.slot]

theorem withdraw_slot_kept {r : SoundRec} {c : Sounder} {b : Bool} (now : Nat) (hreq : r.req c = .placed b)
    (h : ∀ i, r.slot c = some i → ownLevel c i = false) : (r.withdraw now c).slot c = r.slot c := by
  cases hslot : r.slot c with
  | none => simp [SoundRec.withdraw, hreq, hslot]
  | some i => simp [SoundRec.withdraw, hreq, hslot, h i hslot]

/-- Settles O34: one-shots and level requests by what the slot holds. -/
theorem soundRequestsDecided : Obligations.SoundRequestsDecided := by
  unfold Obligations.SoundRequestsDecided
  refine ⟨fun r now c p who => ?oneShot, fun r now c who p hwho => ⟨fun hreq => ?place, fun b hreq => ?withdraw⟩⟩
  case oneShot =>
    have hstarts (h : ∀ i, r.slot c = some i → ¬ keepsOut r p who i) :
        (∃ i, (r.oneShot now c p who).slot c = some i ∧ i.pattern = p ∧ i.requester = who ∧ i.kind = .oneShot ∧ i.step = 0 ∧
          i.started = now ∧ i.stepEnd = now + ((cell r.patterns p).stepAt 0).duration * 10 ∧
          i.repeatsLeft = some ((cell r.patterns p).rep.getD 1)) ∧
        if c = .chime then waveStarts (r.oneShot now c p who) now else toneKept r (r.oneShot now c p who) := by
      rw [oneShot_eq_putSlot now h]
      exact ⟨⟨_, by simp [SoundRec.slot_putSlot], rfl, rfl, rfl, rfl, rfl, rfl, newInstance_oneShot_repeats r now p who⟩,
        putSlot_tone r now c _⟩
    obtain ⟨hothers, hframe⟩ := oneShot_oneChannel r now c p who
    have hlevel : (r.oneShot now c p who).level = r.level := by
      unfold SoundRec.oneShot
      dsimp only
      split <;> [rfl; (split <;> [rfl; (split <;> rfl)])]
    refine ⟨fun hnone => hstarts (by simp [hnone]), fun i hi => ⟨fun hown => oneShot_dropped now hi (.inl hown), fun hown => ⟨fun hlow => ?_,
      fun hhigh => oneShot_dropped now hi (.inr hhigh)⟩⟩, hothers, hlevel, (congrArg SoundRec.testSlot hframe :),
      (congrArg SoundRec.patterns hframe :)⟩
    refine hstarts fun j hj => ?_
    obtain rfl : i = j := Option.some_inj.mp (hi.symm.trans hj)
    exact not_or.mpr ⟨hown, not_le.mpr hlow⟩
  case place =>
    have hkept := place_soundKept r now c
    refine ⟨place_placed now hwho hreq, fun e he => hkept.1 e (by simpa using he), hkept.2,
      fun hslot => place_starts hwho hslot hreq, fun i hi => ?_⟩
    rw [place_some now hwho hreq hi]
    by_cases hown : i.isLevel = true ∧ i.requester = who
    · rw [if_pos hown, if_pos ((ownLevel_iff hwho i).mpr hown)]
      simp [SoundRec.slot_putSlot]
    · rw [if_neg hown, if_neg fun e => hown ((ownLevel_iff hwho i).mp e)]
      by_cases hlow : (cell r.patterns i.pattern).priority < (cell r.patterns p).priority
      · rw [if_pos hlow, if_pos hlow]
        exact startLevel_starts (r.putReq c (.placed false)) now hwho
      · rw [if_neg hlow, if_neg hlow]
        exact hi
  case withdraw =>
    have hkept := withdraw_soundKept r now c
    refine ⟨SoundRec.withdraw_req r now c, fun e he => hkept.1 e (by simpa using he), hkept.2, fun hslot => ?_, fun i hi => ?_⟩
    · rw [withdraw_slot_kept now hreq (by simp [hslot]), hslot]
    · by_cases hown : i.isLevel = true ∧ i.requester = who
      · rw [if_pos hown]
        exact withdraw_own now hreq hi ((ownLevel_iff hwho i).mpr hown)
      · rw [if_neg hown, ← hi]
        refine withdraw_slot_kept now hreq fun j hj => ?_
        obtain rfl : i = j := Option.some_inj.mp (hi.symm.trans hj)
        exact Bool.eq_false_iff.mpr fun e => hown ((ownLevel_iff hwho i).mp e)

/-! ### Steps that run out -/

theorem stepsOn_eq (r : SoundRec) (now : Nat) (i : Instance) : stepsOn r now i = r.advance now i := by
  unfold stepsOn SoundRec.advance SoundRec.patternOf
  dsimp only
  split
  · rfl
  · cases hrep : i.repeatsLeft with
    | none => simp only [← hrep]
    | some n =>
      by_cases hn : 2 ≤ n
      · simp only [if_pos hn, if_neg (by omega : ¬n ≤ 1)]
      · simp only [if_neg hn, if_pos (by omega : n ≤ 1)]

section
variable {r : SoundRec} {c : Sounder} {i : Instance} (now : Nat) (hslot : r.slot c = some i)
include hslot

theorem stepExpiry_goes {j : Instance} (h : r.advance now i = some j) : r.stepExpiry now c = r.putSlot now c (some j) := by
  simp [SoundRec.stepExpiry, hslot, h]

/-- An instance that has run its count ends; a level instance whose request stands marks it spent (R102). -/
theorem stepExpiry_ends (h : r.advance now i = none) :
    r.stepExpiry now c =
      if i.isLevel = true ∧ r.req c ≠ .notPlaced then (r.putReq c (.placed true)).endSlot now c else r.endSlot now c := by
  by_cases hspent : i.isLevel = true ∧ r.req c ≠ .notPlaced
  · rw [if_pos hspent]
    simp [SoundRec.stepExpiry, hslot, h, hspent]
  · rw [if_neg hspent]
    have hkeeps : (i.isLevel && decide (r.req c ≠ .notPlaced)) = false := by
      rw [Bool.eq_false_iff]
      intro e
      rw [Bool.and_eq_true, decide_eq_true_eq] at e
      exact hspent e
    simp only [SoundRec.stepExpiry, hslot, h, hkeeps]
    rfl

theorem stepExpiry_oneChannel : oneChannel r (r.stepExpiry now c) c := by
  cases h : r.advance now i with
  | some j =>
    rw [stepExpiry_goes now hslot h]
    exact putSlot_oneChannel r now c _
  | none =>
    rw [stepExpiry_ends now hslot h]
    split
    · exact oneChannel_trans (putReq_oneChannel r c _) (endSlot_oneChannel _ now c)
    · exact endSlot_oneChannel r now c

theorem stepExpiry_tone :
    (c = .chime → waveStarts (r.stepExpiry now c) now) ∧ (c ≠ .chime → toneKept r (r.stepExpiry now c)) := by
  cases h : r.advance now i with
  | some j =>
    rw [stepExpiry_goes now hslot h]
    exact ⟨fun hc => hc ▸ putSlot_waveStarts r now _, fun hc => putSlot_toneKept r now _ hc⟩
  | none =>
    rw [stepExpiry_ends now hslot h]
    split
    · refine ⟨fun hc => ?_, fun hc => endSlot_toneKept (r.putReq c (.placed true)) now hc⟩
      rw [hc, endSlot_chime]
      exact putSlot_waveStarts _ now none
    · refine ⟨fun hc => ?_, fun hc => endSlot_toneKept r now hc⟩
      rw [hc, endSlot_chime]
      exact putSlot_waveStarts r now none

end

/-- The slot and the request of a channel whose step runs out (R99, R102). -/
theorem stepExpiry_channel {r : SoundRec} {c : Sounder} {i : Instance} (now : Nat) (hslot : r.slot c = some i) :
    (∀ j, r.advance now i = some j → (r.stepExpiry now c).slot c = some j ∧ (r.stepExpiry now c).req c = r.req c) ∧
    (r.advance now i = none →
      (i.isLevel = true → r.req c ≠ .notPlaced → (r.stepExpiry now c).req c = .placed true ∧ (r.stepExpiry now c).slot c = none) ∧
      (i.isLevel = false ∨ r.req c = .notPlaced → (r.stepExpiry now c).req c = r.req c ∧
        (r.req c ≠ .placed false → (r.stepExpiry now c).slot c = none) ∧
        (r.req c = .placed false → c ≠ .chime → ∃ j, (r.stepExpiry now c).slot c = some j ∧ levelStarts r now c j))) := by
  refine ⟨fun j hj => ?_, fun hends => ⟨fun hlevel hreq => ?_, fun hother => ?_⟩⟩
  · rw [stepExpiry_goes now hslot hj]
    exact ⟨by simp [SoundRec.slot_putSlot], rfl⟩
  · have hput : (r.putReq c (.placed true)).req c = .placed true := by simp [SoundRec.req_putReq]
    rw [stepExpiry_ends now hslot hends, if_pos ⟨hlevel, hreq⟩, SoundRec.endSlot_req, hput,
      SoundRec.endSlot_empty now (by rw [hput]; simp)]
    exact ⟨rfl, by simp [SoundRec.slot_putSlot]⟩
  · have hkeeps : ¬(i.isLevel = true ∧ r.req c ≠ .notPlaced) := by
      rintro ⟨hlevel, hreq⟩
      obtain h | h := hother
      · rw [hlevel] at h
        exact Bool.noConfusion h
      · exact hreq h
    rw [stepExpiry_ends now hslot hends, if_neg hkeeps]
    refine ⟨SoundRec.endSlot_req r now c c, fun hne => ?_, fun hplaced hc => endSlot_starts r now hc hplaced⟩
    rw [SoundRec.endSlot_empty now hne]
    simp [SoundRec.slot_putSlot]

/-- The minimum run's end, for a channel whose request is not placed (R100). -/
theorem minRunReached_eq {r : SoundRec} {c : Sounder} {i : Instance} (now : Nat) (hslot : r.slot c = some i)
    (hreq : r.req c = .notPlaced) : r.minRunReached now c = if i.kind = .level false then r.putSlot now c none else r := by
  have hkind : (i.isLevel && !i.isHeld) = true ↔ i.kind = .level false := by
    unfold Instance.isLevel Instance.isHeld
    cases i.kind <;> simp
  have hend : r.endSlot now c = r.putSlot now c none := SoundRec.endSlot_empty now (by simp [hreq])
  simp only [SoundRec.minRunReached, hslot, hend]
  exact if_congr hkind rfl rfl

theorem minRunReached_leaves {r : SoundRec} {c : Sounder} {i : Instance} (now : Nat) (hslot : r.slot c = some i)
    (hreq : r.req c = .notPlaced) :
    (r.minRunReached now c).slot c = (if i.kind = .level false then none else some i) ∧ othersKept r (r.minRunReached now c) c ∧
      ((r.minRunReached now c).toneHigh, (r.minRunReached now c).toneDue) =
        (if c = .chime ∧ i.kind = .level false then (false, none) else (r.toneHigh, r.toneDue)) ∧
      { r.minRunReached now c with slots := r.slots, toneHigh := r.toneHigh, toneDue := r.toneDue } = r := by
  rw [minRunReached_eq now hslot hreq]
  by_cases hk : i.kind = .level false
  · simp only [if_pos hk, and_iff_left hk]
    refine ⟨by simp [SoundRec.slot_putSlot], (putSlot_oneChannel r now c none).1, ?_, rfl⟩
    by_cases hc : c = .chime
    · obtain ⟨hhigh, hdue⟩ := putSlot_chime_none r now
      rw [if_pos hc, hc, hhigh, hdue]
    · obtain ⟨hhigh, hdue⟩ := putSlot_toneKept r now none hc
      rw [if_neg hc, hhigh, hdue]
  · simp only [if_neg hk, if_neg fun e : c = .chime ∧ i.kind = .level false => hk e.2]
    exact ⟨hslot, (oneChannel_refl r c).1, trivial, trivial⟩

/-- An event whose effect raises nothing leaves its effect. -/
theorem exec_event_quiet {s t : State} {i : Instr} {f : State → State} (hrun : Running s) (hi : exec i s = .next (s.event f))
    (hf : f s = t) (hquiet : t.raised = 0) : exec i s = .next t := by
  subst hf
  rw [exec_event hrun hi, State.deliver_quiet hquiet]

/-- Settles O33: what runs out in a slot, in the test slot, at the minimum run and at TONE's half-period. -/
theorem patternsRun : Obligations.PatternsRun := by
  unfold Obligations.PatternsRun
  refine ⟨⟨fun s c i hrun hslot => ?step, fun s ch i hrun htest => ?test, fun s k hrun hnone => ?idle⟩,
    fun s c i hrun hslot hreq => ?minRun, fun s hrun => ⟨fun i due hw hslot hdue => ?toggles, fun hno => ?still⟩⟩
  case step =>
    let w := s.reach i.stepEnd
    have hexpiry : s.slotExpiry (.sounder c) = { w with sound := s.sound.stepExpiry w.now c } := by
      simp [State.slotExpiry, SoundRec.dueOf, hslot, SoundRec.expire, w]
    obtain ⟨hgoes, hends⟩ := stepExpiry_channel w.now hslot
    obtain ⟨hothers, hframe⟩ := stepExpiry_oneChannel w.now hslot
    obtain ⟨hwave, htone⟩ := stepExpiry_tone w.now hslot
    exact ⟨_, exec_event_quiet hrun rfl hexpiry hrun.2, rfl, fun j hj => hgoes j (stepsOn_eq _ _ _ ▸ hj),
      fun hnone => hends (stepsOn_eq _ _ _ ▸ hnone), hothers, hwave, htone, hframe, rfl⟩
  case test =>
    have hexpiry : s.slotExpiry .test = { s.reach i.stepEnd with
        sound := { s.sound with testSlot := (stepsOn s.sound (s.reach i.stepEnd).now i).map fun j => (ch, j) } } := by
      simp [State.slotExpiry, SoundRec.dueOf, htest, SoundRec.expire, SoundRec.testExpiry, stepsOn_eq]
    exact ⟨_, exec_event_quiet hrun rfl hexpiry hrun.2, rfl, rfl, rfl⟩
  case idle =>
    have hidle : s.slotExpiry k = s := by simp [State.slotExpiry, hnone]
    exact congrArg Host.Outcome.next (event_idle hrun hidle)
  case minRun =>
    let w := s.reach (i.started + (cell s.sound.patterns i.pattern).minRun * 10)
    have hrun' : s.minRun c = { w with sound := s.sound.minRunReached w.now c } := by
      simp only [State.minRun, hslot]
      rfl
    obtain ⟨hleft, hothers, htone, hframe⟩ := minRunReached_leaves w.now hslot hreq
    exact ⟨_, exec_event_quiet hrun rfl hrun' hrun.2, rfl, hleft, hothers, htone, hframe, rfl⟩
  case toggles =>
    have hwaving := (waves_iff _).mp hw
    obtain ⟨hne, htone⟩ := tone_of_waving hwaving hslot
    have hchange : s.toneChange = { s.reach (due / 1000) with sound := s.sound.toneToggle due } := by
      simp [State.toneChange, hdue, hwaving]
    refine (exec_event_quiet hrun rfl hchange hrun.2).trans ?_
    rw [SoundRec.toneToggle, halfPeriod_eq hne, htone]
    rfl
  case still =>
    have hidle : s.toneChange = s := by
      obtain hno | hnone := hno
      · have hsilent : s.sound.waving = false := Bool.eq_false_iff.mpr fun e => hno ((waves_iff _).mpr e)
        cases hdue : s.sound.toneDue <;> simp [State.toneChange, hdue, hsilent]
      · simp [State.toneChange, hnone]
    exact congrArg Host.Outcome.next (event_idle hrun hidle)

end Sys2Proof.Proofs
end

/-! ## Proofs: the data of the replies (R185) -/

section
/-! SUPPORT. Fields packed into bits: what a list of fields becomes, put together from what its members become. -/

namespace Sys2Proof.Proofs

open Sys2Proof Sys2Proof.Machine

theorem toNat_append_eq {n m : Nat} (x : BitVec n) (y : BitVec m) : (x ++ y).toNat = x.toNat * 2 ^ m + y.toNat := by
  rw [BitVec.toNat_append, ← Nat.shiftLeft_add_eq_or_of_lt y.isLt, Nat.shiftLeft_eq]

/-- The fields take k bits and these become v, whatever room and whatever fields follow. -/
def Packs (fs : List Field) {k : Nat} (v : BitVec k) : Prop :=
  ∀ (m : Nat) (rest : List Field),
    packInto (k + m) (fs ++ rest) = v.toNat * 2 ^ m + packInto m rest ∧
      leftOver (k + m) (fs ++ rest) = leftOver m rest ∧ roomLeft (k + m) (fs ++ rest) = roomLeft m rest

theorem Packs.nil : Packs [] 0#0 := fun m rest => by simp

theorem Packs.append {fs gs : List Field} {k l : Nat} {v : BitVec k} {w : BitVec l} (h : Packs fs v) (h' : Packs gs w) :
    Packs (fs ++ gs) (v ++ w) := by
  intro m rest
  obtain ⟨hpack, hleft, hroom⟩ := h (l + m) (gs ++ rest)
  obtain ⟨hpack', hleft', hroom'⟩ := h' m rest
  rw [List.append_assoc, Nat.add_assoc, hpack, hleft, hroom, hpack', hleft', hroom']
  refine ⟨?_, rfl, rfl⟩
  rw [toNat_append_eq, Nat.pow_add]
  ring

/-- One field: its low bits. -/
theorem Packs.one (w x : Nat) : Packs [(w, x)] (BitVec.ofNat w x) := by
  intro m rest
  simp [packInto, leftOver, roomLeft]

theorem Packs.bit (b : Bool) : Packs [bitField b] (BitVec.ofBool b) := by
  have hone := Packs.one 1 b.toNat
  rwa [show BitVec.ofNat 1 b.toNat = BitVec.ofBool b by cases b <;> rfl] at hone

/-- A code held in bits. -/
theorem Packs.bits {w : Nat} (x : BitVec w) : Packs [(w, x.toNat)] x := by
  have hone := Packs.one w x.toNat
  rwa [BitVec.ofNat_toNat, BitVec.setWidth_eq] at hone

/-- A field of one bit followed by a field of w bits, as one field. -/
theorem Packs.pair {w : Nat} {b : Bool} {x : Nat} (h : x < 2 ^ w) :
    Packs [(w + 1, b.toNat * 2 ^ w + x)] (BitVec.ofBool b ++ BitVec.ofNat w x) := by
  have hlt : b.toNat * 2 ^ w + x < 2 ^ (w + 1) := by
    have := Bool.toNat_le b
    rw [Nat.pow_succ]
    nlinarith
  have hvalue : (BitVec.ofNat (w + 1) (b.toNat * 2 ^ w + x)).toNat = (BitVec.ofBool b ++ BitVec.ofNat w x).toNat := by
    rw [toNat_append_eq, BitVec.toNat_ofNat, BitVec.toNat_ofNat, BitVec.toNat_ofBool, Nat.mod_eq_of_lt hlt, Nat.mod_eq_of_lt h]
  intro m rest
  rw [← hvalue, Nat.add_comm 1 w]
  exact Packs.one (w + 1) (b.toNat * 2 ^ w + x) m rest

/-- A field that may be absent (R185, log 21). -/
theorem Packs.opt (w : Nat) (x : Option Nat) : Packs [optField w x] (optBits w x) := by
  cases x with
  | none =>
    have hpair := Packs.pair (w := w) (b := false) (x := 0) (Nat.two_pow_pos w)
    rwa [show (w + 1, false.toNat * 2 ^ w + 0) = optField w none by simp [optField]] at hpair
  | some n =>
    have hpair := Packs.pair (w := w) (b := true) (x := n % 2 ^ w) (Nat.mod_lt _ (Nat.two_pow_pos w))
    rw [show (w + 1, true.toNat * 2 ^ w + n % 2 ^ w) = optField w (some n) by simp [optField]] at hpair
    have hmod : BitVec.ofNat w (n % 2 ^ w) = BitVec.ofNat w n := BitVec.eq_of_toNat_eq (by simp)
    rwa [hmod] at hpair

/-- A signed field, two's complement (R185). -/
theorem Packs.signed (w : Nat) (x : Int) : Packs [signedField w x] (BitVec.ofInt w x) := by
  have hone := Packs.one w (x % (2 ^ w : Nat)).toNat
  have hvalue : BitVec.ofNat w (x % (2 ^ w : Nat)).toNat = BitVec.ofInt w x := by
    apply BitVec.eq_of_toNat_eq
    have hpos : (0 : Int) < (2 ^ w : Nat) := by exact_mod_cast Nat.two_pow_pos w
    have hlt := Int.emod_lt_of_pos x hpos
    have hnonneg := Int.emod_nonneg x hpos.ne'
    rw [BitVec.toNat_ofNat, BitVec.toNat_ofInt, Nat.mod_eq_of_lt (by omega)]
  rwa [hvalue] at hone

/-! ### Flags -/

/-- The first n bits of a function, the first of them sent first. -/
def flagBits (f : Nat → Bool) : (n : Nat) → BitVec n
  | 0 => 0#0
  | n + 1 => flagBits f n ++ BitVec.ofBool (f n)

theorem getLsbD_flagBits (f : Nat → Bool) (n i : Nat) : (flagBits f n).getLsbD i = (decide (i < n) && f (n - 1 - i)) := by
  induction n generalizing i with
  | zero => simp [flagBits]
  | succ n ih =>
    rw [flagBits, BitVec.getLsbD_append, ih]
    cases i with
    | zero => simp
    | succ i => simp [Nat.sub_sub, Nat.add_comm]

theorem Packs.flagBits (f : Nat → Bool) (n : Nat) : Packs ((List.range n).map fun i => bitField (f i)) (flagBits f n) := by
  induction n with
  | zero => exact Packs.nil
  | succ n ih =>
    rw [List.range_succ, List.map_append]
    exact ih.append (Packs.bit (f n))

theorem flagBits_getLsbD {n : Nat} (x : BitVec n) : Proofs.flagBits x.getLsbD n = x.reverse := by
  apply BitVec.eq_of_getLsbD_eq
  intro i hi
  rw [getLsbD_flagBits, BitVec.getLsbD_reverse, BitVec.getMsbD]

/-- A set of kinds, its first kind sent first (R185, log 25). -/
theorem Packs.flags {n : Nat} (x : BitVec n) : Packs (flagFields x) x.reverse := by
  rw [← flagBits_getLsbD]
  exact Packs.flagBits x.getLsbD n

/-! ### The data of a reply -/

/-- Fields that take k of the 40 bits: the rest is 0. -/
theorem Packs.data {fs : List Field} {k m : Nat} {v : BitVec k} (h : Packs fs v) (hk : k + m = 40) :
    packData fs = BitVec.cast hk (v ++ 0#m) := by
  apply BitVec.eq_of_toNat_eq
  have hpack := (h m []).1
  rw [List.append_nil, hk] at hpack
  have hlt : v.toNat * 2 ^ m < 2 ^ 40 := by
    rw [← hk, Nat.pow_add]
    exact Nat.mul_lt_mul_of_pos_right v.isLt (Nat.two_pow_pos m)
  rw [packData, hpack, BitVec.toNat_cast, toNat_append_eq, BitVec.toNat_ofNat]
  simpa [packInto] using Nat.mod_eq_of_lt hlt

/-- Fields that fill the 40 bits. -/
theorem Packs.full {fs : List Field} {v : BitVec 40} (h : Packs fs v) : packData fs = v := by
  rw [h.data (m := 0) rfl]
  exact BitVec.eq_of_toNat_eq (by simp)

end Sys2Proof.Proofs
end

/-! ## Proofs: output tests and pattern writes (07) -/

section
/-! The obligation of OUTPUT TEST (O36). -/

namespace Sys2Proof.Proofs

open Sys2Proof Sys2Proof.Machine

section
variable {s : State} {n : BitVec 8} (h : Taking .V s)
include h

theorem exec_outputTest : exec (.outputTest .V n) s = .next (State.conclude .V 0x42 (s.testRule n.toNat)) :=
  congrArg Host.Outcome.next (State.command_taken h (f := permitVehicle) rfl rfl)

theorem exec_outputTest_refused {r : Reason} (hr : s.testRule n.toNat = (s, .refused r)) :
    exec (.outputTest .V n) s = .next (s.refuse .V 0x42 r) := by
  rw [exec_outputTest h, hr, State.conclude_refusal h.2.2]

end

/-- OUTPUT TEST of a channel number, at rest under VACANT. -/
theorem testRule_sounder {s : State} (hv : s.auth = .vacant) (hst : s.wheel.stationary = true) (c : Sounder) :
    s.testRule (channelOf c).val = s.testSounder c := by
  cases c <;> simp [State.testRule, hv, hst, Auth.isVacant, channelOf]

theorem testRule_set {s : State} (hv : s.auth = .vacant) (hst : s.wheel.stationary = true) (ch : SetChannel) :
    s.testRule ch.number = s.testSet ch := by
  cases ch <;> simp [State.testRule, hv, hst, Auth.isVacant, SetChannel.number]

theorem testRule_out {s : State} (hv : s.auth = .vacant) (hst : s.wheel.stationary = true) {n : Nat} (h : 11 ≤ n) :
    s.testRule n = (s, .refused .outOfRange) := by
  obtain ⟨k, rfl⟩ := Nat.exists_eq_add_of_le h
  simp [State.testRule, hv, hst, Auth.isVacant, Nat.add_comm 11 k]

/-- An instance of the test's priority or above keeps the test out. -/
theorem testSounder_eq (s : State) (c : Sounder) :
    s.testSounder c =
      if ((s.sound.slot c).any fun i => decide ((cell s.sound.patterns 7).priority ≤ (cell s.sound.patterns i.pattern).priority)) then
        (s, .refused .inUse)
      else ({ s with sound := s.sound.oneShot s.now c 7 .outputTest }, .done 0) := by
  unfold State.testSounder
  cases s.sound.slot c with
  | none => rfl
  | some i =>
    simp only [Option.any_some, decide_eq_true_eq]
    rfl

/-- A test that is taken changes SOUND and the reply alone. -/
theorem exec_outputTest_done {s : State} {n : BitVec 8} {r : SoundRec} (h : Taking .V s)
    (hr : s.testRule n.toNat = ({ s with sound := r }, .done 0)) :
    exec (.outputTest .V n) s = .next { s.reply .V (doneReply 0x42 0) with sound := r } := by
  rw [exec_outputTest h, hr, State.conclude_quiet h.2.2]
  rfl

/-- Settles O36: the tests in their order, then the slot or the test slot. -/
theorem outputTestAnswered : Obligations.OutputTestAnswered := by
  unfold Obligations.OutputTestAnswered
  intro s n h
  refine ⟨fun hv => ?notVacant, fun hv hst => ?moving, fun hv hst => ⟨fun hn => ?out, fun c hn => ?sounder, fun ch hn => ?set⟩⟩
  case notVacant =>
    have hvacant : s.auth.isVacant = false := Bool.eq_false_iff.mpr fun e => hv ((isVacant_iff _).mp e)
    exact exec_outputTest_refused h (by simp [State.testRule, hvacant])
  case moving => exact exec_outputTest_refused h (by simp [State.testRule, hv, hst, Auth.isVacant])
  case out => exact exec_outputTest_refused h (testRule_out hv hst hn)
  case sounder =>
    have hrule : s.testRule n.toNat = s.testSounder c := by rw [hn, testRule_sounder hv hst]
    rw [testSounder_eq] at hrule
    split
    case isTrue hused =>
      rw [if_pos hused] at hrule
      exact exec_outputTest_refused h hrule
    case isFalse hfree =>
      rw [if_neg hfree] at hrule
      have hstarts : s.sound.oneShot s.now c 7 .outputTest =
          s.sound.putSlot s.now c (some (s.sound.newInstance s.now 7 .outputTest false)) := by
        refine oneShot_eq_putSlot s.now fun i hi hkeeps => hfree ?_
        have hle : (cell s.sound.patterns 7).priority ≤ (cell s.sound.patterns i.pattern).priority := by
          obtain ⟨hpattern, -⟩ | hle := hkeeps
          · rw [hpattern]
          · exact hle
        simp [hi, hle]
      rw [hstarts] at hrule
      obtain ⟨hothers, -⟩ := putSlot_oneChannel s.sound s.now c (some (s.sound.newInstance s.now 7 .outputTest false))
      refine ⟨_, exec_outputTest_done h hrule, ?_, ⟨s.sound.newInstance s.now 7 .outputTest false, ?_, rfl, rfl, rfl, rfl⟩, hothers, putSlot_tone _ _ _ _, rfl, rfl⟩
      · simp [State.replyOf, State.reply, PortRec.answered]
      · simp [SoundRec.slot_putSlot]
  case set =>
    have hrule : s.testRule n.toNat = s.testSet ch := by rw [hn, testRule_set hv hst]
    unfold State.testSet at hrule
    split
    case isTrue hused =>
      rw [if_pos hused] at hrule
      exact exec_outputTest_refused h hrule
    case isFalse hfree =>
      rw [if_neg hfree] at hrule
      refine ⟨_, exec_outputTest_done h hrule, ?_, ⟨s.sound.newInstance s.now 7 .outputTest false, rfl, rfl, rfl, rfl⟩, rfl, fun hon => ?_, rfl⟩
      · simp [State.replyOf, State.reply, PortRec.answered]
      · have htest : ({ s.sound with testSlot := some (ch, s.sound.newInstance s.now 7 .outputTest false) } : SoundRec).testOn ch = true :=
          (testOn_iff _ _).mpr ⟨_, rfl, hon⟩
        cases ch <;> simp [State.requested, htest]

end Sys2Proof.Proofs
end

section
/-! The obligation of PATTERN HEADER and PATTERN STEP (O37). -/

namespace Sys2Proof.Proofs

open Sys2Proof Sys2Proof.Machine

/-! ### Slots emptied where a test holds -/

/-- A channel whose instance ends where a test holds of it (R98, R102, R103). -/
def endedWhere (a b : SoundRec) (now : Nat) (test : Instance → Bool) (c : Sounder) : Prop :=
  ((a.slot c).any test = false → b.slot c = a.slot c) ∧
    ((a.slot c).any test = true →
      if a.req c = .placed false ∧ c ≠ .chime then ∃ j, b.slot c = some j ∧ levelStarts a now c j else b.slot c = none)

theorem endIf_eq (r : SoundRec) (now : Nat) (test : Instance → Bool) (c : Sounder) :
    r.endIf now test c = if (r.slot c).any test then r.endSlot now c else r := by
  unfold SoundRec.endIf
  cases r.slot c <;> rfl

theorem endIf_oneChannel (r : SoundRec) (now : Nat) (test : Instance → Bool) (c : Sounder) : oneChannel r (r.endIf now test c) c := by
  rw [endIf_eq]
  split
  · exact endSlot_oneChannel r now c
  · exact oneChannel_refl r c

theorem endSlot_level (r : SoundRec) (now : Nat) (c : Sounder) : (r.endSlot now c).level = r.level := by
  unfold SoundRec.endSlot
  split
  · unfold SoundRec.startLevel
    split <;> rfl
  · rfl

theorem endIf_level (r : SoundRec) (now : Nat) (test : Instance → Bool) (c : Sounder) : (r.endIf now test c).level = r.level := by
  rw [endIf_eq]
  split
  · exact endSlot_level r now c
  · rfl

theorem endIf_ended (r : SoundRec) (now : Nat) (test : Instance → Bool) (c : Sounder) :
    endedWhere r (r.endIf now test c) now test c := by
  rw [endIf_eq]
  refine ⟨fun hno => by rw [hno]; rfl, fun hends => ?_⟩
  rw [hends, if_pos rfl]
  by_cases hstarts : r.req c = .placed false ∧ c ≠ .chime
  · rw [if_pos hstarts]
    exact endSlot_starts r now hstarts.2 hstarts.1
  · rw [if_neg hstarts]
    by_cases hc : c = .chime
    · rw [hc, endSlot_chime]
      simp [SoundRec.slot_putSlot]
    · rw [SoundRec.endSlot_empty now fun e => hstarts ⟨e, hc⟩]
      simp [SoundRec.slot_putSlot]

/-- TONE once a channel's instance may have ended. -/
theorem endIf_tone (r : SoundRec) (now : Nat) (test : Instance → Bool) (c : Sounder) :
    ((r.endIf now test c).toneHigh, (r.endIf now test c).toneDue) =
      if c = .chime ∧ (r.slot .chime).any test = true then (false, none) else (r.toneHigh, r.toneDue) := by
  rw [endIf_eq]
  by_cases hc : c = .chime
  · subst hc
    cases hends : (r.slot .chime).any test with
    | false => simp
    | true =>
      obtain ⟨hhigh, hdue⟩ := putSlot_chime_none r now
      simp only [if_true, endSlot_chime, hhigh, hdue, and_self]
  · rw [if_neg fun e : c = .chime ∧ (r.slot .chime).any test = true => hc e.1]
    split
    · obtain ⟨hhigh, hdue⟩ := endSlot_toneKept r now hc
      rw [hhigh, hdue]
    · rfl

/-- A run over channels, each once. -/
theorem foldl_endIf (now : Nat) (test : Instance → Bool) (l : List Sounder) (hl : l.Nodup) (r : SoundRec) :
    let t := l.foldl (fun r c => r.endIf now test c) r
    (∀ c, c ∉ l → t.slot c = r.slot c) ∧ (∀ c ∈ l, endedWhere r t now test c) ∧ t.level = r.level ∧
      (t.toneHigh, t.toneDue) =
        (if .chime ∈ l ∧ (r.slot .chime).any test = true then (false, none) else (r.toneHigh, r.toneDue)) ∧
      { t with slots := r.slots, level := r.level, toneHigh := r.toneHigh, toneDue := r.toneDue } = r := by
  induction l generalizing r with
  | nil => exact ⟨fun _ _ => rfl, by simp, rfl, by simp, rfl⟩
  | cons e l ih =>
    obtain ⟨he, hl'⟩ := List.nodup_cons.mp hl
    obtain ⟨hkept, hended, hlevel, htone, hframe⟩ := ih hl' (r.endIf now test e)
    obtain ⟨hothers, hframe1⟩ := endIf_oneChannel r now test e
    have hpatterns := oneChannel_patterns (endIf_oneChannel r now test e)
    have hslot (c : Sounder) (hc : c ≠ e) : (r.endIf now test e).slot c = r.slot c := (hothers c hc).1
    dsimp only at hkept hended hlevel htone hframe ⊢
    rw [List.foldl_cons]
    refine ⟨fun c hc => ?_, fun c hc => ?_, hlevel.trans (endIf_level r now test e), ?_, ?_⟩
    · obtain ⟨hne, hout⟩ := not_or.mp (mt List.mem_cons.mpr hc)
      rw [hkept c hout, hslot c hne]
    · by_cases hne : c = e
      · subst hne
        have hself := endIf_ended r now test c
        unfold endedWhere at hself ⊢
        rwa [hkept c he]
      · have hthen := hended c ((List.mem_cons.mp hc).resolve_left hne)
        unfold endedWhere levelStarts at hthen ⊢
        rwa [hslot c hne, (hothers c hne).2, hpatterns] at hthen
    · rw [htone, endIf_tone]
      by_cases hc : e = .chime
      · subst hc
        simp [he]
      · have hchime : Sounder.chime ≠ e := Ne.symm hc
        rw [hslot _ hchime]
        simp [hc, hchime]
    · exact (congrArg (fun x : SoundRec =>
        { x with slots := r.slots, level := r.level, toneHigh := r.toneHigh, toneDue := r.toneDue }) hframe :).trans hframe1

/-! ### The two writes -/

/-- A pattern entry replaced in the table. -/
def withPattern (r : SoundRec) (n : Fin 8) (p : Pattern) : SoundRec := { r with patterns := putCell r.patterns n p }

theorem mem_allSounders (c : Sounder) : c ∈ allSounders := by cases c <;> decide

/-- A run over all channels, with the test slot. -/
theorem foldl_endIf_put (now : Nat) (n : Fin 8) (l : List Sounder) (hl : l.Nodup) (hall : ∀ c, c ∈ l) (r : SoundRec) :
    let u := l.foldl (fun r c => r.endIf now (fun i => decide (i.pattern = n)) c) r
    let t : SoundRec := { u with testSlot := u.testSlot.filter fun q => decide (q.2.pattern ≠ n) }
    (∀ c, endedWhere r t now (fun i => decide (i.pattern = n)) c) ∧ t.level = r.level ∧
      (t.toneHigh, t.toneDue) =
        (if (r.slot .chime).any fun i => decide (i.pattern = n) then (false, none) else (r.toneHigh, r.toneDue)) ∧
      t.testSlot = (r.testSlot.filter fun q => decide (q.2.pattern ≠ n)) ∧
      { t with slots := r.slots, level := r.level, toneHigh := r.toneHigh, toneDue := r.toneDue, testSlot := r.testSlot } = r := by
  obtain ⟨-, hended, hlevel, htone, hframe⟩ := foldl_endIf now (fun i => decide (i.pattern = n)) l hl r
  have htest := (congrArg SoundRec.testSlot hframe :)
  refine ⟨fun c => hended c (hall c), hlevel, htone.trans ?_, ?_, ?_⟩
  · rw [if_congr (and_iff_right (hall .chime)) rfl rfl]
  · exact congrArg (fun x => Option.filter (fun q : SetChannel × Instance => decide (q.2.pattern ≠ n)) x) htest
  · exact (congrArg (fun x : SoundRec => { x with testSlot := r.testSlot }) hframe :)

/-- SOUND once a pattern is written and its instances ended. -/
@[irreducible] def patternPut (r : SoundRec) (now : Nat) (n : Fin 8) (p : Pattern) : SoundRec := (withPattern r n p).endPattern now n

section
variable (r : SoundRec) (now : Nat) (n : Fin 8) (p : Pattern)

theorem patternPut_ends :
    (∀ c, endedWhere (withPattern r n p) (patternPut r now n p) now (fun i => decide (i.pattern = n)) c) ∧
      (patternPut r now n p).level = r.level ∧
      ((patternPut r now n p).toneHigh, (patternPut r now n p).toneDue) =
        (if (r.slot .chime).any fun i => decide (i.pattern = n) then (false, none) else (r.toneHigh, r.toneDue)) ∧
      (patternPut r now n p).testSlot = (r.testSlot.filter fun q => decide (q.2.pattern ≠ n)) ∧
      { patternPut r now n p with
        slots := r.slots, level := r.level, toneHigh := r.toneHigh, toneDue := r.toneDue, testSlot := r.testSlot } =
          withPattern r n p := by
  unfold patternPut
  exact foldl_endIf_put now n allSounders (by decide) mem_allSounders (withPattern r n p)

theorem patternPut_patterns : (patternPut r now n p).patterns = putCell r.patterns n p := by
  obtain ⟨-, -, -, -, hframe⟩ := patternPut_ends r now n p
  exact (congrArg SoundRec.patterns hframe :)

/-- A channel of another pattern is kept. -/
theorem patternPut_kept {c : Sounder} (hc : ∀ i ∈ r.slot c, i.pattern ≠ n) : (patternPut r now n p).slot c = r.slot c := by
  refine ((patternPut_ends r now n p).1 c).1 ?_
  change (r.slot c).any _ = false
  rw [Option.any_eq_false]
  exact fun i hi => by simpa using hc i hi

/-- A channel that runs the pattern ends, and starts its level instance anew where the request stands unspent. -/
theorem patternPut_ended {c : Sounder} (hc : ∃ i ∈ r.slot c, i.pattern = n) :
    if r.req c = .placed false ∧ c ≠ .chime then
      ∃ j, (patternPut r now n p).slot c = some j ∧ levelStarts (patternPut r now n p) now c j
    else (patternPut r now n p).slot c = none := by
  have hany : ((withPattern r n p).slot c).any (fun i => decide (i.pattern = n)) = true := by
    obtain ⟨i, hi, hpattern⟩ := hc
    change (r.slot c).any _ = true
    rw [Option.mem_def] at hi
    simp [hi, hpattern]
  have hslot := ((patternPut_ends r now n p).1 c).2 hany
  have hpatterns := patternPut_patterns r now n p
  by_cases hstarts : r.req c = .placed false ∧ c ≠ .chime
  · rw [if_pos hstarts]
    rw [if_pos (by exact hstarts)] at hslot
    obtain ⟨j, hj, hlevelStarts⟩ := hslot
    exact ⟨j, hj, levelStarts_of_patterns hpatterns.symm hlevelStarts⟩
  · rw [if_neg hstarts]
    rw [if_neg (by exact hstarts)] at hslot
    exact hslot

theorem patternPut_frame :
    { patternPut r now n p with
      slots := r.slots, patterns := r.patterns, testSlot := r.testSlot, toneHigh := r.toneHigh, toneDue := r.toneDue } = r := by
  obtain ⟨-, hlevel, -, -, hframe⟩ := patternPut_ends r now n p
  have hrest := (congrArg (fun x : SoundRec => { x with patterns := r.patterns }) hframe :)
  refine Eq.trans ?_ hrest
  rw [← hlevel]

end

/-- A pattern write concluded is as the statements say of it (R98, R106). -/
theorem patternWritten_of {s : State} (n : Fin 8) (p : Pattern) (reply : Reply) :
    patternWritten s { s.reply .V reply with sound := patternPut s.sound s.now n p } n p := by
  obtain ⟨-, -, htone, htest, -⟩ := patternPut_ends s.sound s.now n p
  have hreply : State.replyOf { s.reply .V reply with sound := patternPut s.sound s.now n p } .V = reply := by
    simp [State.replyOf, State.reply, PortRec.answered]
  refine ⟨fun k => ?_, fun c hc => patternPut_kept s.sound s.now n p hc, fun c hc => patternPut_ended s.sound s.now n p hc, htest, htone,
    patternPut_frame s.sound s.now n p, ?_⟩
  · change cell (patternPut s.sound s.now n p).patterns k = _
    rw [patternPut_patterns, cell_putCell]
  · rw [hreply]
    rfl

theorem conclude_putPattern {s : State} (n : Fin 8) (p : Pattern) (code : Byte) (a : Answer) (hquiet : s.raised = 0) :
    State.conclude .V code (s.putPattern n p, a) = { s.reply .V (a.reply code) with sound := patternPut s.sound s.now n p } := by
  have hput : s.putPattern n p = { s with sound := patternPut s.sound s.now n p } := by
    unfold patternPut
    rfl
  rw [State.conclude_quiet (by rw [hput]; exact hquiet), hput]
  rfl

section
variable {s : State} {n a b q m : BitVec 8} {on : Bool} {tone : BitVec 16} (h : Taking .V s)
include h

theorem exec_patternHeader :
    exec (.patternHeader .V n a b q m) s =
      .next (State.conclude .V 0x54 (s.headerRule n.toNat a.toNat b.toNat q.toNat m.toNat)) :=
  congrArg Host.Outcome.next (State.command_taken h (f := permitVehicle) rfl rfl)

theorem exec_patternStep :
    exec (.patternStep .V n a on b tone) s =
      .next (State.conclude .V 0x55 (s.stepRule n.toNat a.toNat on b.toNat tone.toNat)) :=
  congrArg Host.Outcome.next (State.command_taken h (f := permitVehicle) rfl rfl)

end

theorem patternRefusal_eq (s : State) (n index : Nat) :
    s.patternRefusal n index =
      if s.auth ≠ .vacant then some Reason.notVacant
      else if s.wheel.stationary = false then some .moving
      else if 7 < n ∨ 7 < index then some .outOfRange
      else none := by
  unfold State.patternRefusal
  refine if_congr ?_ rfl (if_congr (by simp) rfl rfl)
  rw [Bool.not_eq_true', ← Bool.not_eq_true, isVacant_iff]

theorem header_data (p : Pattern) : packData p.header = headerBits p ++ 0#22 :=
  (Packs.one 4 p.count |>.append (.one 4 (p.rep.getD 0)) |>.append (.one 2 p.priority) |>.append (.one 8 p.minRun)).data (m := 22) rfl

theorem step_data (p : Pattern) (x : PatStep) :
    packData (p.header ++ x.fields) =
      (headerBits p ++ BitVec.ofBool x.on ++ BitVec.ofNat 8 x.duration ++ BitVec.ofNat 11 x.tone ++ 0#2 : BitVec 40) :=
  ((Packs.one 4 p.count |>.append (.one 4 (p.rep.getD 0)) |>.append (.one 2 p.priority) |>.append (.one 8 p.minRun)).append
    (.bit x.on) |>.append (.one 8 x.duration) |>.append (.one 11 x.tone)).data (m := 2) rfl

theorem toNat_eq_zero_iff {w : Nat} (x : BitVec w) : x.toNat = 0 ↔ x = 0 :=
  ⟨fun h => BitVec.eq_of_toNat_eq (by simpa using h), fun h => by simp [h]⟩

theorem headerRule_taken {s : State} {n a b q m : BitVec 8} {k : Fin 8} (hnone : s.patternRefusal n.toNat 0 = none)
    (hk : n.toNat = k.val) :
    s.headerRule n.toNat a.toNat b.toNat q.toNat m.toNat =
      (s.putPattern k { cell s.sound.patterns k with
          count := max 1 (min 8 a.toNat), rep := if b = 0 then none else some (min 15 b.toNat), priority := min 3 q.toNat
          minRun := m.toNat },
        .taken (decide (a = 0 ∨ 8 < a.toNat ∨ 15 < b.toNat ∨ 3 < q.toNat))
          (headerBits { cell s.sound.patterns k with
            count := max 1 (min 8 a.toNat), rep := if b = 0 then none else some (min 15 b.toNat), priority := min 3 q.toNat
            minRun := m.toNat } ++ 0#22)) := by
  have hindex : Fin.ofNat 8 n.toNat = k := by rw [hk]; exact Fin.ofNat_val_eq_self k
  have hclamped : (decide (clampTo 1 8 a.toNat ≠ a.toNat) || decide (15 < b.toNat) || decide (3 < q.toNat)) =
      decide (a = 0 ∨ 8 < a.toNat ∨ 15 < b.toNat ∨ 3 < q.toNat) := by
    rw [Bool.eq_iff_iff]
    simp only [Bool.or_eq_true, decide_eq_true_eq, ← toNat_eq_zero_iff]
    unfold clampTo
    omega
  simp only [State.headerRule, hnone, hindex, header_data, hclamped, toNat_eq_zero_iff]
  rfl

theorem stepRule_taken {s : State} {n a b : BitVec 8} {on : Bool} {tone : BitVec 16} {k j : Fin 8}
    (hnone : s.patternRefusal n.toNat a.toNat = none) (hk : n.toNat = k.val) (hj : a.toNat = j.val) {f : Nat}
    (hf : f = if tone = 0 then 0 else max 200 (min 2000 tone.toNat)) :
    s.stepRule n.toNat a.toNat on b.toNat tone.toNat =
      (s.putPattern k { cell s.sound.patterns k with
          steps := putCell (cell s.sound.patterns k).steps j { on := on, duration := max 1 b.toNat, tone := f } },
        .taken (decide (b = 0 ∨ f ≠ tone.toNat))
          (headerBits (cell s.sound.patterns k) ++ BitVec.ofBool on ++ BitVec.ofNat 8 (max 1 b.toNat) ++ BitVec.ofNat 11 f ++ 0#2)) := by
  have hindex : Fin.ofNat 8 n.toNat = k := by rw [hk]; exact Fin.ofNat_val_eq_self k
  have hstep : Fin.ofNat 8 a.toNat = j := by rw [hj]; exact Fin.ofNat_val_eq_self j
  have htone : clampTone tone.toNat = f := by
    rw [hf, clampTone, if_congr (toNat_eq_zero_iff tone) rfl rfl]
    rfl
  have hclamped : (decide (max 1 b.toNat ≠ b.toNat) || decide (f ≠ tone.toNat)) = decide (b = 0 ∨ f ≠ tone.toNat) := by
    rw [Bool.eq_iff_iff]
    simp only [Bool.or_eq_true, decide_eq_true_eq, ← toNat_eq_zero_iff]
    omega
  simp only [State.stepRule, hnone, hindex, hstep, step_data, htone, hclamped]
  rfl

/-- Settles O37: the tests of both commands are one, and both are the same write with another entry. -/
theorem patternWrites : Obligations.PatternWrites := by
  unfold Obligations.PatternWrites
  intro s n a b q m on tone h
  have hquiet : s.raised = 0 := h.2.2
  refine ⟨fun r hr => ?headerRefused, fun r hr => ?stepRefused, fun k hnone hk => ?header, fun k j hnone hk hj => ?step⟩
  case headerRefused =>
    have hrefusal := (patternRefusal_eq s n.toNat 0).trans hr
    rw [exec_patternHeader h, show s.headerRule n.toNat a.toNat b.toNat q.toNat m.toNat = (s, .refused r) by
      simp [State.headerRule, hrefusal], State.conclude_refusal hquiet]
  case stepRefused =>
    have hrefusal := (patternRefusal_eq s n.toNat a.toNat).trans hr
    rw [exec_patternStep h, show s.stepRule n.toNat a.toNat on b.toNat tone.toNat = (s, .refused r) by
      simp [State.stepRule, hrefusal], State.conclude_refusal hquiet]
  case header =>
    have hrule := headerRule_taken (b := b) (a := a) (q := q) (m := m) ((patternRefusal_eq s n.toNat 0).trans hnone) hk
    refine ⟨_, (exec_patternHeader h).trans (by rw [hrule, conclude_putPattern _ _ _ _ hquiet]), patternWritten_of k _ _, ?_⟩
    simp [State.replyOf, State.reply, PortRec.answered, Answer.taken, Answer.reply]
  case step =>
    have hrule := stepRule_taken (b := b) (on := on) (tone := tone) ((patternRefusal_eq s n.toNat a.toNat).trans hnone) hk hj rfl
    refine ⟨_, (exec_patternStep h).trans (by rw [hrule, conclude_putPattern _ _ _ _ hquiet]), patternWritten_of k _ _, ?_⟩
    simp [State.replyOf, State.reply, PortRec.answered, Answer.taken, Answer.reply]

end Sys2Proof.Proofs
end

/-! ## Proofs: the reading commands (11, 09, 12) -/

section
/-! SUPPORT. Fields answered in parts (R185), and reads. -/

namespace Sys2Proof.Proofs

open Sys2Proof Sys2Proof.Machine

/-! ### Parts -/

section
variable {fs : List Field} {k m room : Nat} {v : BitVec k} {f : Field} {rest : List Field}

/-- A part ends before a field that does not fit. -/
theorem Packs.leftOver_cut (h : Packs fs v) (hk : k + m = room) (hf : m < f.1) : leftOver room (fs ++ f :: rest) = f :: rest := by
  rw [← hk, (h m (f :: rest)).2.1]
  exact if_neg (not_le.mpr hf)

theorem Packs.packData_cut (h : Packs fs v) (hk : k + m = 40) (hf : m < f.1) :
    packData (fs ++ f :: rest) = BitVec.cast hk (v ++ 0#m) := by
  have hzero : packInto m (f :: rest) = packInto m [] := if_neg (not_le.mpr hf)
  rw [← h.data hk]
  have hcut := (h m (f :: rest)).1
  have hall := (h m []).1
  rw [hk] at hcut hall
  rw [packData, packData, hcut, hzero, ← hall, List.append_nil]

/-- Fields that fill the 40 bits before another. -/
theorem Packs.packData_full {v : BitVec 40} (h : Packs fs v) (hf : 0 < f.1) : packData (fs ++ f :: rest) = v := by
  rw [h.packData_cut (m := 0) rfl hf]
  exact BitVec.eq_of_toNat_eq (by simp)

theorem Packs.partStart_cut (h : Packs fs v) (hk : k + m = room) (hf : m < f.1) (n : Nat) :
    partStart room (n + 1) (fs ++ f :: rest) = partStart room n (f :: rest) :=
  congrArg (partStart room n) (h.leftOver_cut hk hf)

theorem Packs.partStart_end (h : Packs fs v) (hk : k + m = room) (n : Nat) : partStart room (n + 1) fs = partStart room n [] := by
  have hleft := (h m []).2.1
  rw [List.append_nil, hk] at hleft
  exact congrArg (partStart room n) hleft

end

theorem partStart_nil (room n : Nat) : partStart room n [] = [] := by
  induction n with
  | zero => rfl
  | succ n ih => exact ih

/-- A part that holds a field. -/
theorem partData_some {ident fs rest : List Field} {n : Nat} {f : Field}
    (h : partStart (roomLeft 40 ident) n fs = f :: rest) : partData ident fs n = some (packData (ident ++ f :: rest)) := by
  simp [partData, h]

theorem partData_none {ident fs : List Field} {n : Nat} (h : partStart (roomLeft 40 ident) n fs = []) : partData ident fs n = none := by
  simp [partData, h]

/-! ### Reads -/

/-- A read that is answered changes the port's reply alone. -/
theorem conclude_read {s : State} (p : Port) (code : Byte) (d : BitVec 40) (hquiet : s.raised = 0) :
    State.conclude p code (s, .done d) = s.reply p (doneReply code d) := State.conclude_quiet hquiet

theorem conclude_part {s : State} (p : Port) (code : Byte) (ident fs : List Field) (n : Nat) (hquiet : s.raised = 0) :
    State.conclude p code (s, Answer.part ident fs n) = partReply s p code (partData ident fs n) := by
  unfold Answer.part
  cases partData ident fs n with
  | none => exact State.conclude_refusal hquiet
  | some d => exact conclude_read p code d hquiet

end Sys2Proof.Proofs
end

section
/-! SUPPORT. The groups of GET STATUS, bit by bit (R177). -/

namespace Sys2Proof.Proofs

open Sys2Proof Sys2Proof.Machine

theorem Packs.cab (c : Option Cab) : Packs [cabField c] (cabBits c) := by
  have hopt := Packs.opt 1 (c.map fun
    | .A => 0
    | .B => 1)
  cases c with
  | none => exact hopt
  | some c => cases c <;> exact hopt

theorem Packs.tu (t : TuRec) :
    Packs t.fields (BitVec.ofBool (!t.answering) ++ BitVec.ofNat 3 t.missRun ++ BitVec.ofBool t.last.isSome ++
      BitVec.ofNat 2 ((t.last.map fun r => unitCode r.unit).getD 0) ++ BitVec.ofNat 10 ((t.last.map fun r => r.effort.toNat).getD 0) ++
      BitVec.ofBool ((t.last.map TuReply.slip).getD false) ++ BitVec.ofBool ((t.last.map TuReply.lineVoltage).getD false)) := by
  have hhead := (Packs.bit (!t.answering)).append (.one 3 t.missRun)
  unfold TuRec.fields
  cases t.last with
  | none => exact hhead |>.append (.bit false) |>.append (.one 2 0) |>.append (.one 10 0) |>.append (.bit false) |>.append (.bit false)
  | some r =>
    exact hhead |>.append (.bit true) |>.append (.one 2 (unitCode r.unit)) |>.append (.one 10 r.effort.toNat) |>.append (.bit r.slip)
      |>.append (.bit r.lineVoltage)

theorem Packs.brk (s : State) :
    Packs s.group8 (BitVec.ofBool (!s.tlink.brk.answering) ++ BitVec.ofNat 3 s.tlink.brk.missRun ++
      BitVec.ofBool s.tlink.brk.last.isSome ++ BitVec.ofNat 2 ((s.tlink.brk.last.map fun r => unitCode r.unit).getD 0) ++
      BitVec.ofBool ((s.tlink.brk.last.map BrkReply.brakeApplied).getD false) ++
      BitVec.ofBool ((s.tlink.brk.last.map BrkReply.brakeAvailable).getD false) ++ BitVec.ofNat 4 s.tlink.cycle) := by
  have hhead := (Packs.bit (!s.tlink.brk.answering)).append (.one 3 s.tlink.brk.missRun)
  unfold State.group8
  cases s.tlink.brk.last with
  | none =>
    exact hhead |>.append (.bit false) |>.append (.one 2 0) |>.append (.bit false) |>.append (.bit false) |>.append (.one 4 s.tlink.cycle)
  | some r =>
    exact hhead |>.append (.bit true) |>.append (.one 2 (unitCode r.unit)) |>.append (.bit r.brakeApplied)
      |>.append (.bit r.brakeAvailable) |>.append (.one 4 s.tlink.cycle)

theorem isHeld_eq (i : Instance) : i.isHeld = decide (i.kind = .level true) := by
  unfold Instance.isHeld
  cases i.kind with
  | level h => cases h <;> rfl
  | oneShot => rfl

theorem Packs.slot (r : SoundRec) (c : Sounder) : Packs (r.slotFields c) (slotBits r c) := by
  unfold SoundRec.slotFields slotBits
  cases r.slot c with
  | none =>
    exact (Packs.one 1 0 |>.append (.one 3 0) |>.append (.one 3 0) |>.append (.one 3 0) |>.append (.one 1 0) |>.append (.one 1 0))
  | some i =>
    have hheld : Packs [bitField i.isHeld] (BitVec.ofBool (decide (i.kind = .level true))) := by
      rw [← isHeld_eq]
      exact .bit i.isHeld
    exact Packs.one 1 1 |>.append (.one 3 i.pattern.val) |>.append (.one 3 i.requester.code) |>.append (.one 3 i.step)
      |>.append (.bit (r.stepOf i).on) |>.append hheld

theorem Packs.level (r : SoundRec) (c : Sounder) : Packs (r.req c).fields (levelBits r c) := by
  unfold levelBits
  cases r.req c with
  | notPlaced => exact (Packs.one 1 0).append (.one 1 0)
  | placed spent => exact (Packs.one 1 1).append (.bit spent)

section
variable (s : State)

theorem group0_data :
    packData s.group0 = (BitVec.ofNat 2 s.auth.code ++ cabBits s.auth.cab ++ BitVec.ofNat 2 (directionCode s.auth.direction) ++
      BitVec.ofNat 2 s.auth.vdir.code ++ cabBits s.auth.leading ++ BitVec.ofNat 2 (s.auth.standing .A).code ++
      BitVec.ofNat 2 (s.auth.standing .B).code ++ BitVec.ofNat 2 (s.auth.standing .V).code ++ 0#24 : BitVec 40) :=
  (Packs.one 2 s.auth.code |>.append (.cab s.auth.cab) |>.append (.one 2 (directionCode s.auth.direction))
    |>.append (.one 2 s.auth.vdir.code) |>.append (.cab s.auth.leading) |>.append (.one 2 (s.auth.standing .A).code)
    |>.append (.one 2 (s.auth.standing .B).code) |>.append (.one 2 (s.auth.standing .V).code)).data (m := 24) rfl

theorem group1_data :
    packData s.group1 = (BitVec.ofNat 11 s.wheel.v ++ BitVec.ofBool s.wheel.stationary ++ BitVec.ofBool s.wheel.s1.failed ++
      BitVec.ofBool s.wheel.s2.failed ++ BitVec.ofNat 2 s.wheel.adhesion.code ++ BitVec.ofBool s.wheel.runOn.isSome ++
      BitVec.ofBool s.wheel.rollback ++ 0#22 : BitVec 40) :=
  (Packs.one 11 s.wheel.v |>.append (.bit s.wheel.stationary) |>.append (.bit s.wheel.s1.failed) |>.append (.bit s.wheel.s2.failed)
    |>.append (.one 2 s.wheel.adhesion.code) |>.append (.bit s.wheel.runOn.isSome)
    |>.append (.bit s.wheel.rollback)).data (m := 22) rfl

theorem group3_data :
    packData s.group3 =
      (BitVec.ofInt 11 s.shaper.o ++ BitVec.ofInt 11 s.shaper.t ++ BitVec.ofNat 10 s.shaper.vLim ++ 0#8 : BitVec 40) :=
  (Packs.signed 11 s.shaper.o |>.append (.signed 11 s.shaper.t) |>.append (.one 10 s.shaper.vLim)).data (m := 8) rfl

theorem group4_data :
    packData s.group4 = (BitVec.ofNat 10 s.shaper.c ++ s.shaper.stage.code ++ BitVec.ofBool s.shaper.zeroPass ++
      BitVec.ofBool s.shaper.overspeed ++ BitVec.ofBool s.shaper.holdingBrake ++ BitVec.ofBool s.shaper.sandReq ++
      BitVec.ofBool s.shaper.trackReq ++ 0#23 : BitVec 40) :=
  (Packs.one 10 s.shaper.c |>.append (.bits s.shaper.stage.code) |>.append (.bit s.shaper.zeroPass) |>.append (.bit s.shaper.overspeed)
    |>.append (.bit s.shaper.holdingBrake) |>.append (.bit s.shaper.sandReq) |>.append (.bit s.shaper.trackReq)).data (m := 23) rfl

theorem group9_data :
    packData s.group9 = (s.vigil.state.code ++ BitVec.ofBool s.vigil.buzzer ++ BitVec.ofBool s.vigil.releaseTime.isSome ++
      BitVec.ofNat 10 s.vigilLeft ++ 0#26 : BitVec 40) :=
  (Packs.bits s.vigil.state.code |>.append (.bit s.vigil.buzzer) |>.append (.bit s.vigil.releaseTime.isSome)
    |>.append (.one 10 s.vigilLeft)).data (m := 26) rfl

theorem group12_data :
    packData s.group12 = (slotBits s.sound .chime ++ slotBits s.sound .hazard ++ optBits 4 (s.sound.testSlot.map fun x => x.1.number) ++
      BitVec.ofBool s.sound.departurePending ++ BitVec.ofBool s.sound.waving ++ 0#9 : BitVec 40) := by
  have hfields : s.group12 = s.sound.slotFields .chime ++ s.sound.slotFields .hazard ++
      [optField 4 (s.sound.testSlot.map fun t => t.1.number)] ++ [bitField s.sound.departurePending] ++ [bitField s.sound.waving] := by
    simp [State.group12]
  rw [hfields]
  exact (Packs.slot s.sound .chime |>.append (.slot s.sound .hazard) |>.append (.opt 4 (s.sound.testSlot.map fun x => x.1.number))
    |>.append (.bit s.sound.departurePending) |>.append (.bit s.sound.waving)).data (m := 9) rfl

theorem group13_data :
    packData s.group13 = (levelBits s.sound .hornA ++ levelBits s.sound .hornB ++ levelBits s.sound .bellA ++
      levelBits s.sound .bellB ++ levelBits s.sound .buzzA ++ levelBits s.sound .buzzB ++ levelBits s.sound .chime ++
      levelBits s.sound .hazard ++ 0#24 : BitVec 40) := by
  have hfields : s.group13 = (s.sound.req .hornA).fields ++ (s.sound.req .hornB).fields ++ (s.sound.req .bellA).fields ++
      (s.sound.req .bellB).fields ++ (s.sound.req .buzzA).fields ++ (s.sound.req .buzzB).fields ++ (s.sound.req .chime).fields ++
      (s.sound.req .hazard).fields := by
    simp [State.group13, allSounders]
  rw [hfields]
  exact (Packs.level s.sound .hornA |>.append (.level s.sound .hornB) |>.append (.level s.sound .bellA)
    |>.append (.level s.sound .bellB) |>.append (.level s.sound .buzzA) |>.append (.level s.sound .buzzB)
    |>.append (.level s.sound .chime) |>.append (.level s.sound .hazard)).data (m := 24) rfl

end

end Sys2Proof.Proofs
end

section
/-! SUPPORT. The parts of GET STOP RECORD and of TOUCH READ, bit by bit (R142, R143). -/

namespace Sys2Proof.Proofs

open Sys2Proof Sys2Proof.Machine

/-! ### The current record -/

section
variable (s : State)

/-- The fields of each part of the current record. -/
def stopPart0 (s : State) : List Field :=
  [bitField s.stop.record.requested] ++ flagFields s.stop.record.doors ++ [bitField s.stop.record.wheelchair] ++
    [optField 2 (s.stop.record.first.map fun f => f.source.code)]

def stopMark (s : State) : Field := optField 32 (s.stop.record.first.map FirstRequest.mark)

def stopTimeField (s : State) : Field := optField 32 (s.stop.record.first.map FirstRequest.time)

def stopPart3 (s : State) : List Field :=
  [(8, s.stop.record.presses)] ++ [bitField s.stop.record.chime] ++ [bitField (decide (s.stop.sect = .atStop))] ++ [bitField s.lines.dcl]

theorem stopFields_eq : s.stopFields = stopPart0 s ++ stopMark s :: [stopTimeField s] ++ stopPart3 s := by
  simp [State.stopFields, stopPart0, stopMark, stopTimeField, stopPart3]

theorem packs_stopPart0 :
    Packs (stopPart0 s) (BitVec.ofBool s.stop.record.first.isSome ++ s.stop.record.doors.reverse ++
      BitVec.ofBool s.stop.record.wheelchair ++ optBits 2 (s.stop.record.first.map fun f => f.source.code)) :=
  Packs.bit s.stop.record.requested |>.append (.flags s.stop.record.doors) |>.append (.bit s.stop.record.wheelchair)
    |>.append (.opt 2 (s.stop.record.first.map fun f => f.source.code))

theorem packs_stopPart3 :
    Packs (stopPart3 s) (BitVec.ofNat 8 s.stop.record.presses ++ BitVec.ofBool s.stop.record.chime ++
      BitVec.ofBool (decide (s.stop.sect = .atStop)) ++ BitVec.ofBool s.lines.dcl) :=
  Packs.one 8 s.stop.record.presses |>.append (.bit s.stop.record.chime) |>.append (.bit (decide (s.stop.sect = .atStop)))
    |>.append (.bit s.lines.dcl)

/-- Where each part begins. -/
theorem stop_partStart (n : Nat) :
    partStart 40 (n + 1) s.stopFields = partStart 40 n (stopMark s :: stopTimeField s :: stopPart3 s) ∧
      partStart 40 (n + 2) s.stopFields = partStart 40 n (stopTimeField s :: stopPart3 s) ∧
      partStart 40 (n + 3) s.stopFields = partStart 40 n (stopPart3 s) ∧ partStart 40 (n + 4) s.stopFields = [] := by
  have h1 (n : Nat) : partStart 40 (n + 1) s.stopFields = partStart 40 n (stopMark s :: stopTimeField s :: stopPart3 s) := by
    rw [stopFields_eq, List.append_assoc]
    exact (packs_stopPart0 s).partStart_cut (m := 29) rfl (by simp [stopMark]) n
  have h2 (n : Nat) : partStart 40 (n + 2) s.stopFields = partStart 40 n (stopTimeField s :: stopPart3 s) :=
    (h1 (n + 1)).trans ((Packs.opt 32 _).partStart_cut (m := 7) rfl (by simp [stopTimeField]) n)
  have h3 (n : Nat) : partStart 40 (n + 3) s.stopFields = partStart 40 n (stopPart3 s) :=
    (h2 (n + 1)).trans ((Packs.opt 32 _).partStart_cut (m := 7) rfl (by simp) n)
  have h4 : partStart 40 (n + 4) s.stopFields = [] :=
    (h3 (n + 1)).trans (((packs_stopPart3 s).partStart_end (m := 29) rfl n).trans (partStart_nil 40 n))
  exact ⟨h1 n, h2 n, h3 n, h4⟩

theorem stop_partData (q : Nat) : partData [] s.stopFields q = recordPart s q :=
  match q with
  | 0 => by
    have hpart := partData_some (ident := []) (n := 0) (fs := s.stopFields) (rest := s.stopFields.tail) (f := bitField s.stop.record.requested) rfl
    rw [hpart, show [] ++ bitField s.stop.record.requested :: s.stopFields.tail = s.stopFields from rfl, stopFields_eq,
      List.append_assoc]
    exact congrArg some ((packs_stopPart0 s).packData_cut (m := 29) rfl (by simp [stopMark]))
  | 1 => by
    rw [partData_some (ident := []) (stop_partStart s 0).1]
    exact congrArg some ((Packs.opt 32 _).packData_cut (m := 7) rfl (by simp [stopTimeField]))
  | 2 => by
    rw [partData_some (ident := []) (stop_partStart s 0).2.1]
    exact congrArg some ((Packs.opt 32 _).packData_cut (m := 7) rfl (by simp))
  | 3 => by
    rw [partData_some (ident := []) (stop_partStart s 0).2.2.1]
    exact congrArg some ((packs_stopPart3 s).data (m := 29) rfl)
  | q + 4 => partData_none (stop_partStart s q).2.2.2

end

/-! ### A history entry -/

section
variable (h : HistoryEntry)

def historyPart0 (h : HistoryEntry) : List Field :=
  [(1, 1)] ++ flagFields h.doors ++ [bitField h.wheelchair] ++ [(2, h.first.source.code)]

theorem historyFields_eq :
    [(1, 1)] ++ h.fields = historyPart0 h ++ (32, h.first.mark) :: (32, h.first.time) :: (8, h.presses) :: bitField h.chime ::
      (32, h.endMark) :: [(32, h.endTime)] := by
  simp [HistoryEntry.fields, historyPart0]

theorem packs_historyPart0 :
    Packs (historyPart0 h) (1#1 ++ h.doors.reverse ++ BitVec.ofBool h.wheelchair ++ BitVec.ofNat 2 h.first.source.code) :=
  Packs.one 1 1 |>.append (.flags h.doors) |>.append (.bit h.wheelchair) |>.append (.one 2 h.first.source.code)

/-- Part 0 behind its identifier. -/
theorem packs_historyHead :
    Packs (h.ident ++ historyPart0 h) (BitVec.ofNat 8 h.endMark ++ 1#1 ++ h.doors.reverse ++ BitVec.ofBool h.wheelchair ++
      BitVec.ofNat 2 h.first.source.code) :=
  Packs.one 8 h.endMark |>.append (.one 1 1) |>.append (.flags h.doors) |>.append (.bit h.wheelchair)
    |>.append (.one 2 h.first.source.code)

theorem partStart_whole (x : Nat) (f : Field) (rest : List Field) (hf : 0 < f.1) (n : Nat) :
    partStart 32 (n + 1) ((32, x) :: f :: rest) = partStart 32 n (f :: rest) :=
  (Packs.one 32 x).partStart_cut (m := 0) rfl hf n

/-- Where each part begins. -/
theorem history_partStart (n : Nat) :
    partStart 32 (n + 1) ([(1, 1)] ++ h.fields) =
        partStart 32 n ((32, h.first.mark) :: (32, h.first.time) :: (8, h.presses) :: bitField h.chime :: (32, h.endMark) :: [(32, h.endTime)]) ∧
      partStart 32 (n + 2) ([(1, 1)] ++ h.fields) =
        partStart 32 n ((32, h.first.time) :: (8, h.presses) :: bitField h.chime :: (32, h.endMark) :: [(32, h.endTime)]) ∧
      partStart 32 (n + 3) ([(1, 1)] ++ h.fields) =
        partStart 32 n ((8, h.presses) :: bitField h.chime :: (32, h.endMark) :: [(32, h.endTime)]) ∧
      partStart 32 (n + 4) ([(1, 1)] ++ h.fields) = partStart 32 n ((32, h.endMark) :: [(32, h.endTime)]) ∧
      partStart 32 (n + 5) ([(1, 1)] ++ h.fields) = partStart 32 n [(32, h.endTime)] ∧
      partStart 32 (n + 6) ([(1, 1)] ++ h.fields) = [] := by
  have h1 (n : Nat) : partStart 32 (n + 1) ([(1, 1)] ++ h.fields) =
      partStart 32 n ((32, h.first.mark) :: (32, h.first.time) :: (8, h.presses) :: bitField h.chime :: (32, h.endMark) :: [(32, h.endTime)]) := by
    rw [historyFields_eq]
    exact (packs_historyPart0 h).partStart_cut (m := 22) rfl (by simp) n
  have h2 (n : Nat) := (h1 (n + 1)).trans (partStart_whole h.first.mark (32, h.first.time) _ (by simp) n)
  have h3 (n : Nat) := (h2 (n + 1)).trans (partStart_whole h.first.time (8, h.presses) _ (by simp) n)
  have h4 (n : Nat) := (h3 (n + 1)).trans
    (((Packs.one 8 h.presses).append (.bit h.chime)).partStart_cut (m := 23) (f := (32, h.endMark)) (rest := [(32, h.endTime)]) rfl (by simp) n)
  have h5 (n : Nat) := (h4 (n + 1)).trans (partStart_whole h.endMark (32, h.endTime) _ (by simp) n)
  have h6 := (h5 (n + 1)).trans (((Packs.one 32 h.endTime).partStart_end (m := 0) rfl n).trans (partStart_nil 32 n))
  exact ⟨h1 n, h2 n, h3 n, h4 n, h5 n, h6⟩

theorem history_partData (q : Nat) : partData h.ident ([(1, 1)] ++ h.fields) q = historyPart h q := by
  obtain ⟨h1, h2, h3, h4, h5, -⟩ := history_partStart h 0
  match q with
  | 0 =>
    rw [partData_some (ident := h.ident) (n := 0) (fs := [(1, 1)] ++ h.fields) (f := (1, 1)) (rest := h.fields) rfl,
      show (1, 1) :: h.fields = [(1, 1)] ++ h.fields from rfl, historyFields_eq, ← List.append_assoc]
    exact congrArg some ((packs_historyHead h).packData_cut (m := 22) rfl (by simp))
  | 1 =>
    rw [partData_some (ident := h.ident) h1]
    exact congrArg some (((Packs.one 8 h.endMark).append (.one 32 h.first.mark)).packData_full (by simp))
  | 2 =>
    rw [partData_some (ident := h.ident) h2]
    exact congrArg some (((Packs.one 8 h.endMark).append (.one 32 h.first.time)).packData_full (by simp))
  | 3 =>
    rw [partData_some (ident := h.ident) h3]
    exact congrArg some (((Packs.one 8 h.endMark).append (.one 8 h.presses) |>.append (.bit h.chime)).packData_cut (m := 23) rfl (by simp))
  | 4 =>
    rw [partData_some (ident := h.ident) h4]
    exact congrArg some (((Packs.one 8 h.endMark).append (.one 32 h.endMark)).packData_full (by simp))
  | 5 =>
    rw [partData_some (ident := h.ident) h5]
    exact congrArg some ((Packs.one 8 h.endMark).append (.one 32 h.endTime)).full
  | q + 6 => exact partData_none (history_partStart h q).2.2.2.2.2

end

/-! ### A touch channel -/

theorem Packs.assignment (a : Assignment) : Packs a.fields (assignmentBits a) := by
  cases a with
  | disabled => exact (Packs.one 2 0).append (.one 3 0)
  | door d => exact (Packs.one 2 1).append (.one 3 d)
  | wheelchair d => exact (Packs.one 2 2).append (.one 3 d)

/-- The bits of a channel's depth, with its presence. -/
def depthBits (c : TouchRec) : BitVec 14 :=
  match c.baseline, c.count with
  | some b, some n => 1#1 ++ BitVec.ofInt 13 ((b / 16 : Nat) - (n : Int))
  | _, _ => 0

theorem ofNat_signedField (w : Nat) (x : Int) : BitVec.ofNat w (signedField w x).2 = BitVec.ofInt w x := by
  have hpos : (0 : Int) < (2 ^ w : Nat) := by exact_mod_cast Nat.two_pow_pos w
  have hlt := Int.emod_lt_of_pos x hpos
  have hnonneg := Int.emod_nonneg x hpos.ne'
  apply BitVec.eq_of_toNat_eq
  rw [signedField, BitVec.toNat_ofNat, BitVec.toNat_ofInt, Nat.mod_eq_of_lt (by omega)]

theorem Packs.depth (c : TouchRec) : Packs [c.depthField] (depthBits c) := by
  unfold TouchRec.depthField depthBits
  cases c.baseline with
  | none => exact Packs.opt 13 none
  | some b =>
    cases c.count with
    | none => exact Packs.opt 13 none
    | some n =>
      have hopt := Packs.opt 13 (some (signedField 13 (Machine.depth b n)).2)
      have hbits : optBits 13 (some (signedField 13 (Machine.depth b n)).2) =
          1#1 ++ BitVec.ofInt 13 ((b / 16 : Nat) - (n : Int)) :=
        congrArg (fun x : BitVec 13 => 1#1 ++ x) (ofNat_signedField 13 (Machine.depth b n))
      rwa [hbits] at hopt

section
variable (s : State) (k : Fin 16)

/-- The fields of the first and of the later part. -/
def touchFirst (s : State) (k : Fin 16) : List Field :=
  (cell s.settings.touch k).fields ++ [(3, (cell s.stop.chans k).state.code)] ++ [optField 12 (cell s.stop.chans k).count] ++
    [optField 12 ((cell s.stop.chans k).baseline.map fun b => b / 16)]

def touchLater (s : State) (k : Fin 16) : List Field :=
  [(2, (cell s.stop.chans k).confirm)] ++ [(2, (cell s.stop.chans k).voidRun)] ++ [optField 6 (cell s.stop.chans k).rangeRun] ++
    [optField 8 ((cell s.stop.chans k).pressedAt.map fun t => min 255 ((s.now - s.epoch - t) / 100))]

theorem touchFields_eq : s.touchFields k = touchFirst s k ++ (cell s.stop.chans k).depthField :: touchLater s k := by
  simp only [State.touchFields, touchFirst, touchLater, State.stopTime]
  simp

theorem packs_touchFirst :
    Packs (touchFirst s k) (assignmentBits (cell s.settings.touch k) ++ BitVec.ofNat 3 (cell s.stop.chans k).state.code ++
      optBits 12 (cell s.stop.chans k).count ++ optBits 12 ((cell s.stop.chans k).baseline.map fun b => b / 16)) :=
  Packs.assignment _ |>.append (.one 3 _) |>.append (.opt 12 _) |>.append (.opt 12 _)

theorem packs_touchLater :
    Packs ((cell s.stop.chans k).depthField :: touchLater s k) (depthBits (cell s.stop.chans k) ++
      BitVec.ofNat 2 (cell s.stop.chans k).confirm ++ BitVec.ofNat 2 (cell s.stop.chans k).voidRun ++
      optBits 6 (cell s.stop.chans k).rangeRun ++
      optBits 8 ((cell s.stop.chans k).pressedAt.map fun t => min 255 ((s.now - s.epoch - t) / 100))) :=
  Packs.depth _ |>.append (.one 2 _) |>.append (.one 2 _) |>.append (.opt 6 _) |>.append (.opt 8 _)

theorem depthField_width (c : TouchRec) : c.depthField.1 = 14 := by
  unfold TouchRec.depthField
  split <;> simp

theorem touch_partData (later : Bool) : partData [] (s.touchFields k) (if later then 1 else 0) = some (touchPart s k later) := by
  have hcut : 6 < (cell s.stop.chans k).depthField.1 := by
    rw [depthField_width]
    decide
  cases later with
  | false =>
    have hhead : ∃ f rest, s.touchFields k = f :: rest := by
      unfold State.touchFields
      cases cell s.settings.touch k <;> exact ⟨_, _, rfl⟩
    obtain ⟨f, rest, hf⟩ := hhead
    have hpart := partData_some (ident := []) (n := 0) (fs := s.touchFields k) (f := f) (rest := rest) hf
    refine hpart.trans ?_
    rw [List.nil_append, ← hf, touchFields_eq]
    exact congrArg some ((packs_touchFirst s k).packData_cut (m := 6) rfl hcut)
  | true =>
    have hstart : partStart 40 1 (s.touchFields k) = (cell s.stop.chans k).depthField :: touchLater s k := by
      rw [touchFields_eq]
      exact (packs_touchFirst s k).partStart_cut (m := 6) rfl hcut 0
    refine (partData_some (ident := []) hstart).trans ?_
    exact congrArg some ((packs_touchLater s k).data (m := 6) rfl)

end

end Sys2Proof.Proofs
end

section
/-! The obligation of the status reads (O47). -/

namespace Sys2Proof.Proofs

open Sys2Proof Sys2Proof.Machine

/-! ### GET STATUS -/

section
variable {s : State} {p : Port} {g : BitVec 8} (h : Taking p s)
include h

theorem exec_getStatus : exec (.getStatus p g) s = .next (State.conclude p 0x02 (s, s.statusRule g.toNat)) :=
  congrArg Host.Outcome.next (State.command_taken h (f := permitAll) rfl rfl)

theorem exec_getStatus_out (hg : 13 < g.toNat) : exec (.getStatus p g) s = .next (s.refuse p 0x02 .outOfRange) := by
  have hnone : s.groupFields g.toNat = none := by
    obtain ⟨k, hk⟩ := Nat.exists_eq_add_of_le (Nat.succ_le_of_lt hg)
    rw [hk, Nat.add_comm]
    rfl
  rw [exec_getStatus h, State.statusRule, hnone, State.conclude_refusal h.2.2]

theorem exec_getStatus_group {n : Nat} {fs : List Field} (hg : g.toNat = n) (hfs : s.groupFields n = some fs) :
    exec (.getStatus p g) s = .next (s.reply p (doneReply 0x02 (packData fs))) := by
  rw [exec_getStatus h, State.statusRule, hg, hfs, conclude_read p 0x02 _ h.2.2]

end

theorem statusAnswered_holds : statusAnswered := by
  unfold statusAnswered
  intro p g s h
  refine ⟨exec_getStatus_out h, fun hg => ?_⟩
  have hfs : ∃ fs, s.groupFields g.toNat = some fs := by
    generalize g.toNat = n at hg
    interval_cases n <;> exact ⟨_, rfl⟩
  obtain ⟨fs, hfs⟩ := hfs
  refine ⟨packData fs, exec_getStatus_group h rfl hfs, ?_⟩
  have hgroup {n : BitVec 8} {gs : List Field} (hn : g = n) (hgs : s.groupFields n.toNat = some gs) : fs = gs := by
    rw [hn, hgs] at hfs
    exact (Option.some_inj.mp hfs).symm
  refine ⟨fun hn => ?_, fun hn => ?_, fun hn => ?_, fun hn => ?_, fun hn => ?_, fun hn => ?_, fun hn => ?_, fun hn => ?_, fun hn => ?_,
    fun hn => ?_, fun hn => ?_, fun hn => ?_, fun hn => ?_, fun hn => ?_⟩
  all_goals rw [hgroup hn rfl]
  · exact group0_data s
  · exact group1_data s
  · exact (Packs.one 32 s.wheel.odometer).data (m := 8) rfl
  · exact group3_data s
  · exact group4_data s
  · exact ((Packs.flags s.shaper.sources).append (.bit s.supply.batteryLow)).data (m := 31) rfl
  · exact (Packs.tu s.tlink.tu1).data (m := 21) rfl
  · exact (Packs.tu s.tlink.tu2).data (m := 21) rfl
  · exact (Packs.brk s).data (m := 27) rfl
  · exact group9_data s
  · exact (Packs.slot s.sound .hornA |>.append (.slot s.sound .hornB) |>.append (.slot s.sound .bellA)).data (m := 4) rfl
  · exact (Packs.slot s.sound .bellB |>.append (.slot s.sound .buzzA) |>.append (.slot s.sound .buzzB)).data (m := 4) rfl
  · exact group12_data s
  · exact group13_data s

/-! ### The other reads -/

theorem cause_data (s : State) :
    packData (flagFields s.supply.causes ++ [s.supply.latest.field]) =
      (BitVec.ofBool (hasFlag s.supply.causes 0) ++ BitVec.ofBool (hasFlag s.supply.causes 1) ++
        BitVec.ofBool (hasFlag s.supply.causes 2) ++ BitVec.ofNat 2 s.supply.latest.idx ++ 0#35 : BitVec 40) :=
  (Packs.bit (hasFlag s.supply.causes 0) |>.append (.bit (hasFlag s.supply.causes 1)) |>.append (.bit (hasFlag s.supply.causes 2))
    |>.append (.one 2 s.supply.latest.idx)).data (m := 35) rfl

section
variable {s : State} {p : Port} {x q : BitVec 8} (h : Taking p s)
include h

theorem exec_getStopRecord :
    exec (.getStopRecord p x q) s = .next (State.conclude p 0x32 (s, s.stopRecordRule x.toNat q.toNat)) :=
  congrArg Host.Outcome.next (State.command_taken h (f := permitAll) rfl rfl)

end

/-- Settles O47: each read is its fields, packed. -/
theorem statusReadsAnswered : Obligations.StatusReadsAnswered := by
  unfold Obligations.StatusReadsAnswered
  refine ⟨statusAnswered_holds, fun s h => ?cause, fun s p x q h => ⟨fun hx => ?out, fun h1 h8 habsent => ?absent, fun hx => ?record,
    fun e he h1 h8 => ?entry⟩, fun s x later h => ⟨fun hx => ?touchOut, fun k hk => ?touch⟩⟩
  case cause =>
    have hexec : exec (.resetCause .V) s = .next (State.conclude .V 0x70 (s, s.causeRule)) :=
      congrArg Host.Outcome.next (State.command_taken h (f := permitVehicle) rfl rfl)
    rw [hexec, State.causeRule, conclude_read .V 0x70 _ h.2.2, cause_data]
  case out => rw [exec_getStopRecord h, State.stopRecordRule, if_pos hx, State.conclude_refusal h.2.2]
  case absent =>
    have hnone : s.stop.history[x.toNat - 1]? = none := List.getElem?_eq_none (by omega)
    rw [exec_getStopRecord h, State.stopRecordRule, if_neg (by omega), if_neg (by omega), hnone, conclude_read p 0x32 _ h.2.2]
  case record =>
    have hzero : x.toNat = 0 := (toNat_eq_zero_iff x).mpr hx
    rw [exec_getStopRecord h, State.stopRecordRule, hzero, if_neg (by omega), if_pos rfl, conclude_part p 0x32 _ _ _ h.2.2,
      stop_partData]
  case entry =>
    rw [exec_getStopRecord h, State.stopRecordRule, if_neg (by omega), if_neg (by omega), he, conclude_part p 0x32 _ _ _ h.2.2,
      history_partData]
  case touchOut =>
    have hexec : exec (.touchRead .V ⟨x, later⟩) s = .next (State.conclude .V 0x33 (s, s.touchRule x.toNat later)) :=
      congrArg Host.Outcome.next (State.command_taken h (f := permitVehicle) rfl rfl)
    rw [hexec, State.touchRule, if_pos hx, State.conclude_refusal h.2.2]
  case touch =>
    have hexec : exec (.touchRead .V ⟨x, later⟩) s = .next (State.conclude .V 0x33 (s, s.touchRule x.toNat later)) :=
      congrArg Host.Outcome.next (State.command_taken h (f := permitVehicle) rfl rfl)
    have hindex : Fin.ofNat 16 x.toNat = k := by rw [hk]; exact Fin.ofNat_val_eq_self k
    rw [hexec, State.touchRule, if_neg (by have := k.isLt; omega), hindex, conclude_part .V 0x33 _ _ _ h.2.2, touch_partData]
    rfl

end Sys2Proof.Proofs
end

/-! ## Proofs: output switches and diagnostics (08) -/

section
/-! The obligations of the drive frame and of the switch die (O39, O40). -/

namespace Sys2Proof.Proofs

open Sys2Proof Sys2Proof.Machine

/-! ### The drive frame at the switch die -/

theorem drive_eq_chanDriven (c : SwitchChan) (bit : Bool) : c.drive bit = chanDriven c bit := by
  obtain ⟨sw, history, hot⟩ := c
  cases sw <;> cases bit <;> rfl

theorem physicallyOn_iff (d : DieRec) (n : Fin 12) : d.physicallyOn n = true ↔ outputOn d n := by
  simp [DieRec.physicallyOn, outputOn, and_assoc]

theorem waiting_iff (c : SwitchChan) : c.waiting = true ↔ ∃ e, c.sw = .retryWait e := by
  unfold SwitchChan.waiting
  cases c.sw <;> simp

/-- The status frame that a die answers tells its state. -/
theorem answer_tells (d : DieRec) (openLoad : BitVec 12) (g : Option StatusFrame) :
    statusTells { d with status := g } openLoad (d.answer openLoad) := by
  refine ⟨rfl, rfl, rfl, rfl, fun n => ?_⟩
  have hchan : cell (d.answer openLoad).chans n = d.chanStatus (hasFlag openLoad n.val) n := cell_rowOf _ n
  have hon : outputOn { d with status := g } n ↔ d.physicallyOn n = true := (physicallyOn_iff d n).symm
  rw [hchan, hon]
  simp [DieRec.chanStatus, waiting_iff]

theorem take_chans (d : DieRec) (bits : BitVec 12) (n : Fin 12) :
    cell (d.take bits).chans n = chanDriven (cell d.chans n) (hasFlag bits n.val) :=
  (cell_rowOf _ n).trans (drive_eq_chanDriven _ _)

/-- What a good frame leaves of the die. -/
theorem goodFrame_leaves (d : DieRec) (now : Nat) (f : DriveFrame) :
    (d.goodFrame now f).following = (d.following || decide (7 ≤ d.recovery)) ∧
      (d.goodFrame now f).recovery = (if d.following then d.recovery else min 8 (d.recovery + 1)) ∧
      (if d.following = true ∨ 7 ≤ d.recovery then
        (d.goodFrame now f).taken = f.bits ∧
          ∀ n : Fin 12, cell (d.goodFrame now f).chans n = chanDriven (cell d.chans n) (hasFlag f.bits n.val)
       else (d.goodFrame now f).taken = d.taken ∧ (d.goodFrame now f).chans = d.chans) ∧
      (d.goodFrame now f).echo = f.count ∧ (d.goodFrame now f).lastGood = now ∧ (d.goodFrame now f).uv = d.uv := by
  unfold DieRec.goodFrame
  cases hf : d.following with
  | true => exact ⟨rfl, rfl, ⟨rfl, take_chans _ _⟩, rfl, rfl, rfl⟩
  | false =>
    by_cases hr : 7 ≤ d.recovery
    · have hr' : 8 ≤ d.recovery + 1 := by omega
      simp only [hr, hr', Bool.false_eq_true, if_false, if_true, or_true, Bool.false_or]
      exact ⟨rfl, (by omega : 8 = min 8 (d.recovery + 1)), ⟨rfl, take_chans _ _⟩, rfl, rfl, rfl⟩
    · have hr' : ¬8 ≤ d.recovery + 1 := by omega
      simp only [hr, hr', Bool.false_eq_true, if_false, or_self, Bool.false_or, decide_false]
      exact ⟨trivial, (by omega : d.recovery + 1 = min 8 (d.recovery + 1)), ⟨trivial, trivial⟩, trivial, trivial, trivial⟩

/-! ### The frame's bytes (13.4) -/

theorem driveWord (f : DriveFrame) : BitVec.ofNat 16 (f.bits.toNat * 16 + f.count.toNat) = f.bits ++ f.count := by
  apply BitVec.eq_of_toNat_eq
  rw [toNat_append_eq, BitVec.toNat_ofNat]
  have hbits := f.bits.isLt
  have hcount := f.count.isLt
  omega

theorem extract_high {n m : Nat} (x : BitVec n) (y : BitVec m) : (x ++ y).extractLsb' m n = x := by
  ext i hi
  simp [BitVec.getLsbD_append, BitVec.getLsbD_eq_getElem hi]

theorem extract_low {n m : Nat} (x : BitVec n) (y : BitVec m) : (x ++ y).extractLsb' 0 m = y := by
  ext i hi
  simp [BitVec.getLsbD_append, hi]

theorem append_extract {n m : Nat} (x : BitVec (n + m)) : x.extractLsb' m n ++ x.extractLsb' 0 m = x := by
  apply BitVec.eq_of_getLsbD_eq
  intro i hi
  rw [BitVec.getLsbD_append, BitVec.getLsbD_extractLsb', BitVec.getLsbD_extractLsb']
  by_cases h : i < m
  · simp [h]
  · have hlt : i - m < n := by omega
    have hsum : m + (i - m) = i := by omega
    simp [h, hlt, hsum]

theorem bytesOf16_word16 (x y : Byte) : bytesOf16 (word16 x y) = [x, y] := by
  rw [bytesOf16, word16, extract_high, extract_low]

theorem readDrive_eq (x y k : Byte) :
    readDrive [x, y, k] =
      if k = crc8 [x, y] then some { bits := (word16 x y).extractLsb' 4 12, count := (word16 x y).extractLsb' 0 4 } else none := rfl

theorem driveFrame_bytes (f : DriveFrame) :
    f.bytes = [(f.bits ++ f.count).extractLsb' 8 8, (f.bits ++ f.count).extractLsb' 0 8,
      crc8 [(f.bits ++ f.count).extractLsb' 8 8, (f.bits ++ f.count).extractLsb' 0 8]] := rfl

theorem readDrive_bytes (f : DriveFrame) : readDrive f.bytes = some f := by
  rw [driveFrame_bytes, readDrive_eq, if_pos rfl, word16_bytes, extract_high, extract_low]

/-- What is read as a frame is that frame's bytes. -/
theorem bytes_of_readDrive {bytes : List Byte} {f : DriveFrame} (h : readDrive bytes = some f) : bytes = f.bytes := by
  unfold readDrive at h
  split at h
  next x y k =>
    split at h
    next hk =>
      obtain rfl := Option.some_inj.mp h
      have hbody : bytesOf16 ((word16 x y).extractLsb' 4 12 ++ (word16 x y).extractLsb' 0 4) = [x, y] :=
        (congrArg bytesOf16 (append_extract (n := 12) (m := 4) (word16 x y))).trans (bytesOf16_word16 x y)
      rw [DriveFrame.bytes, hbody, hk]
      rfl
    next => exact absurd h (by simp)
  next => exact absurd h (by simp)

/-- The clock at which a drive frame is sent: 1 ms after the one before. -/
theorem driveAt_reach (s : State) :
    max s.now ((s.outbank.driveAt.map fun t => t + 1).getD s.now) =
      (match s.outbank.driveAt with | some x => max s.now (x + 1) | none => s.now) := by
  cases s.outbank.driveAt <;> simp

theorem sendDrive_raised (a : DriveArrival) (openLoad : BitVec 12) (s : State) : (s.sendDrive a openLoad).raised = s.raised := rfl

theorem exec_driveFrame {s : State} (a : DriveArrival) (openLoad : BitVec 12) (hrun : Running s) :
    exec (.driveFrame a openLoad) s = .next (s.sendDrive a openLoad) :=
  exec_event_quiet hrun rfl rfl hrun.2

/-- What the die's record becomes by a frame (R110). -/
theorem receive_leaves (d : DieRec) (now : Nat) (f : DriveFrame) (a : DriveArrival) (openLoad : BitVec 12) :
    let takes := a = .good ∧ (d.following = true ∨ 7 ≤ d.recovery)
    let e := d.receive now f a openLoad
    e.following = (d.following || decide takes) ∧
      (d.following = false → e.recovery = (match a with | .good => min 8 (d.recovery + 1) | .bad => 0 | .lost => d.recovery)) ∧
      (d.following = true → e.recovery = d.recovery) ∧
      (if takes then e.taken = f.bits ∧ ∀ n : Fin 12, cell e.chans n = chanDriven (cell d.chans n) (hasFlag f.bits n.val)
       else e.taken = d.taken ∧ e.chans = d.chans) ∧
      (if a = .good then e.echo = f.count ∧ e.lastGood = now else e.echo = d.echo ∧ e.lastGood = d.lastGood) ∧
      (a = .lost → e.status = none) ∧ (a ≠ .lost → ∃ g, e.status = some g ∧ statusTells e openLoad g) ∧ e.uv = d.uv := by
  cases a with
  | good =>
    obtain ⟨hfollowing, hrecovery, htaken, hecho, hgood, huv⟩ := goodFrame_leaves d now f
    refine ⟨?_, fun hf => ?_, fun hf => ?_, ?_, ?_, nofun, fun _ => ⟨_, rfl, answer_tells _ openLoad _⟩, huv⟩
    · rw [show (d.receive now f .good openLoad).following = (d.goodFrame now f).following from rfl, hfollowing]
      cases d.following <;> simp
    · rw [show (d.receive now f .good openLoad).recovery = (d.goodFrame now f).recovery from rfl, hrecovery, hf]
      rfl
    · rw [show (d.receive now f .good openLoad).recovery = (d.goodFrame now f).recovery from rfl, hrecovery, hf]
      rfl
    · rw [if_congr (and_iff_right rfl) rfl rfl]
      exact htaken
    · rw [if_pos rfl]
      exact ⟨hecho, hgood⟩
  | bad =>
    refine ⟨by simp [DieRec.receive, DieRec.badFrame], fun hf => ?_, fun hf => ?_, ?_, ?_, nofun,
      fun _ => ⟨_, rfl, answer_tells _ openLoad _⟩, rfl⟩
    · simp [DieRec.receive, DieRec.badFrame, hf]
    · simp [DieRec.receive, DieRec.badFrame, hf]
    · rw [if_neg (by simp)]
      exact ⟨rfl, rfl⟩
    · rw [if_neg (by simp)]
      exact ⟨rfl, rfl⟩
  | lost =>
    refine ⟨by simp [DieRec.receive], fun _ => rfl, fun _ => rfl, ?_, ?_, fun _ => rfl, fun h => absurd rfl h, rfl⟩
    · rw [if_neg (by simp)]
      exact ⟨rfl, rfl⟩
    · rw [if_neg (by simp)]
      exact ⟨rfl, rfl⟩

/-- Settles O39: the sending, the die's table, and the three bytes both ways. -/
theorem driveFrameSent : Obligations.DriveFrameSent := by
  unfold Obligations.DriveFrameSent
  refine ⟨fun s a openLoad hrun => ?_, fun f => ⟨?_, readDrive_bytes f⟩, fun bytes f h => bytes_of_readDrive h⟩
  · obtain ⟨hfollowing, hrecovery, hkept, htaken, hecho, hlost, hstatus, huv⟩ :=
      receive_leaves s.die (s.sendDrive a openLoad).now { bits := s.driveBits, count := s.outbank.driveCount } a openLoad
    exact ⟨_, exec_driveFrame a openLoad hrun, driveAt_reach s, rfl, hfollowing, hrecovery, hkept, htaken, hecho, hlost, hstatus, huv, rfl⟩
  · rw [driveWord]
    exact driveFrame_bytes f

/-! ### The switch die's own protections -/

theorem overload_history (now : Nat) (h : List Nat) :
    (h.filter fun t => decide (now ≤ t + 60000)) = h.filter fun e => decide (now - e ≤ 60000) :=
  List.filter_congr fun _ _ => decide_eq_decide.mpr (by omega)

/-- Settles O40: each event of the die is its rule on the die's record. -/
theorem switchDieFaults : Obligations.SwitchDieFaults := by
  unfold Obligations.SwitchDieFaults
  refine ⟨fun s => ⟨fun hf => ?safe, fun hf => ?already, _, rfl, rfl, rfl, rfl, rfl, fun n => cell_rowOf _ n, rfl, rfl⟩,
    fun s n => ⟨fun hon => ?trips, fun hoff => ?quiet, fun e he => ?retry, fun hno => ?noRetry⟩,
    fun s => ⟨fun n hot => ⟨rfl, ?hot, ?cools⟩, ⟨rfl, fun n => ?uv⟩, _, rfl, rfl, fun n => cell_rowOf _ n, rfl, rfl⟩⟩
  case safe =>
    have hsafe : s.dieSafe = { s.reach (s.die.lastGood + 16) with die := s.die.enterSafe } := by simp [State.dieSafe, hf]
    refine ⟨_, congrArg Host.Outcome.next hsafe, rfl, rfl, rfl, fun n => cell_rowOf _ n, fun n hon => ?_, ?_, rfl⟩
    · exact Bool.noConfusion hon.2.2.2
    · rw [← hf]
      rfl
  case already => exact congrArg Host.Outcome.next (by simp [State.dieSafe, hf])
  case trips =>
    have htrip : s.die.trip s.now n = { s.die with chans := putCell s.die.chans n ((cell s.die.chans n).overload s.now) } :=
      if_pos ((physicallyOn_iff _ n).mpr hon)
    refine congrArg (fun d => Host.Outcome.next { s with die := d }) (htrip.trans ?_)
    rw [SwitchChan.overload, overload_history]
  case quiet =>
    have htrip : s.die.trip s.now n = s.die := if_neg fun h => hoff ((physicallyOn_iff _ n).mp h)
    exact congrArg (fun d => Host.Outcome.next { s with die := d }) htrip
  case retry =>
    refine congrArg Host.Outcome.next ?_
    simp only [State.retryExpiry, he, Bool.and_eq_true]
    rfl
  case noRetry =>
    refine congrArg Host.Outcome.next ?_
    cases hsw : (cell s.die.chans n).sw with
    | retryWait e => exact absurd hsw (hno e)
    | _ => simp [State.retryExpiry, hsw]
  case hot =>
    rintro ⟨-, hcool, -⟩
    rw [cell_putCell_self] at hcool
    exact Bool.noConfusion hcool
  case cools =>
    intro hf huv hon
    refine ⟨?_, ?_, huv, hf⟩
    · rw [cell_putCell_self]
      exact hon
    · rw [cell_putCell_self]
  case uv => exact fun hon => Bool.noConfusion hon.2.2.1

end Sys2Proof.Proofs
end

/-! ## Proofs: the bits of a desk port and of its frames (13.1, R169, R170) -/

section
/-! SUPPORT. Bits, bytes and numbers of two bytes. -/

namespace Sys2Proof.Proofs

open Sys2Proof Sys2Proof.Machine

/-- Eight bits make the byte whose bits they are. -/
theorem bitsOfByte_byteOfBits : ∀ a b c d e f g h : Bool,
    bitsOfByte (byteOfBits [a, b, c, d, e, f, g, h]) = [a, b, c, d, e, f, g, h] := by
  decide

theorem byteOfBits_bitsOfByte : ∀ b : Byte, byteOfBits (bitsOfByte b) = b := by
  decide

theorem bitsOfByte_length (b : Byte) : (bitsOfByte b).length = 8 := by
  simp [bitsOfByte]

/-- The bits of whole bytes are read back as those bytes. -/
theorem bytesOfBits_flatMap (bytes : List Byte) :
    bytesOfBits bytes.length (bytes.flatMap bitsOfByte) = bytes := by
  induction bytes with
  | nil => rfl
  | cons b bs ih =>
    have hlen := bitsOfByte_length b
    rw [List.flatMap_cons, List.length_cons, bytesOfBits, ← hlen, List.take_left, List.drop_left, byteOfBits_bitsOfByte, ih]

/-- A number of two bytes is read back from them. -/
theorem word16_hiByte_loByte (v : BitVec 16) : word16 (hiByte v) (loByte v) = v :=
  append_extract (n := 8) (m := 8) v

end Sys2Proof.Proofs
end

section
/-! The obligation of a desk command's frame (O11). -/

namespace Sys2Proof.Proofs

open Sys2Proof Sys2Proof.Machine

theorem flagByte_fields (f : DemandFrame) :
    ({ b1 := f.lever, b2 := f.flagByte, b3 := 0, b4 := 0, b5 := 0, b6 := 0 } : Params).demand = f := by
  have hall : ∀ (s b h g : Bool) (d : BitVec 2),
      let w := ((((0#2 ++ BitVec.ofBool s) ++ BitVec.ofBool b) ++ BitVec.ofBool h) ++ BitVec.ofBool g) ++ d
      w.extractLsb' 0 2 = d ∧ w.getLsbD 2 = g ∧ w.getLsbD 3 = h ∧ w.getLsbD 4 = b ∧ w.getLsbD 5 = s := by decide
  obtain ⟨hd, hg, hh, hb, hs⟩ := hall f.sand f.bell f.horn f.handle f.direction
  unfold Params.demand DemandFrame.flagByte
  rw [hd, hg, hh, hb, hs]

theorem append_extracts {a b c : Nat} (x : BitVec a) (y : BitVec b) (z : BitVec c) :
    ((x ++ y) ++ z).extractLsb' (b + c) a = x ∧ ((x ++ y) ++ z).extractLsb' c b = y := by
  constructor
  · ext i hi
    simp [BitVec.getLsbD_append, BitVec.getLsbD_eq_getElem hi, show ¬b + c + i < c by omega, show ¬b + c + i - c < b by omega,
      show b + c + i - c - b = i by omega]
  · ext i hi
    simp [BitVec.getLsbD_append, hi]

theorem append_ofBool_low {n : Nat} (x : BitVec n) (o : Bool) : (x ++ BitVec.ofBool o).getLsbD 0 = o := by
  rw [BitVec.getLsbD_append, if_pos Nat.one_pos]
  cases o <;> rfl

theorem entry_fields (e : EntryFrame) :
    ({ b1 := hiByte e.head, b2 := loByte e.head, b3 := e.defaultRoute, b4 := hiByte e.points, b5 := loByte e.points
       b6 := e.clear } : Params).entry = e := by
  obtain ⟨hid, hroutes⟩ := append_extracts e.id e.routes (BitVec.ofBool e.override)
  unfold Params.entry
  simp only [word16_hiByte_loByte]
  cases e
  exact EntryFrame.mk.injEq .. |>.mpr ⟨hid, hroutes, append_ofBool_low _ _, rfl, rfl, rfl⟩

theorem flagByte_low : ∀ b : Bool, ((BitVec.ofBool b).setWidth 8).getLsbD 0 = b := by
  decide

theorem command_of {r p : Port} {k c : Byte} {x q : Params} (h : some (r, k, x) = some (p, c, q)) : r = p ∧ k = c ∧ x = q := by
  simpa using h

/-- A code outside the catalogue is read as no command of it (R172). -/
theorem decodeCommand_unknown (p : Port) (c : Byte) (q : Params) (h : commandCodes.contains c = false) :
    decodeCommand p c q = .unknownCommand p c := by
  unfold decodeCommand
  split <;> simp_all [commandCodes, ← BitVec.toNat_inj]

/-- The parameter of a command is read back as its operands, each command under its own code. -/
theorem decodeCommand_encodeCommand (i : Instr) (p : Port) (c : Byte) (q : Params) (hw : wellFormed i = true)
    (he : encodeCommand i = some (p, c, q)) : decodeCommand p c q = i := by
  cases i with
  | unknownCommand r code =>
    obtain ⟨rfl, rfl, rfl⟩ := command_of he
    exact decodeCommand_unknown r code _ (by simpa [wellFormed] using hw)
  | demand r f =>
    obtain ⟨rfl, rfl, rfl⟩ := command_of he
    exact congrArg (Instr.demand r) (flagByte_fields f)
  | touchRead r x =>
    obtain ⟨rfl, rfl, rfl⟩ := command_of he
    exact congrArg (fun b => Instr.touchRead r { channel := x.channel, later := b }) (flagByte_low x.later)
  | patternStep r n k on d t =>
    obtain ⟨rfl, rfl, rfl⟩ := command_of he
    exact congrArg₂ (fun b w => Instr.patternStep r n k b d w) (flagByte_low on) (word16_hiByte_loByte t)
  | tableWrite r e =>
    obtain ⟨rfl, rfl, rfl⟩ := command_of he
    exact congrArg (Instr.tableWrite r) (entry_fields e)
  | setLineLimit r v =>
    obtain ⟨rfl, rfl, rfl⟩ := command_of he
    exact congrArg (Instr.setLineLimit r) (word16_hiByte_loByte v)
  | setRunNumber r v =>
    obtain ⟨rfl, rfl, rfl⟩ := command_of he
    exact congrArg (Instr.setRunNumber r) (word16_hiByte_loByte v)
  | tableDelete r v =>
    obtain ⟨rfl, rfl, rfl⟩ := command_of he
    exact congrArg (Instr.tableDelete r) (word16_hiByte_loByte v)
  | settingWrite r n v k =>
    obtain ⟨rfl, rfl, rfl⟩ := command_of he
    exact congrArg (fun w => Instr.settingWrite r n w k) (word16_hiByte_loByte v)
  | planAppend r v n =>
    obtain ⟨rfl, rfl, rfl⟩ := command_of he
    exact congrArg (fun w => Instr.planAppend r w n) (word16_hiByte_loByte v)
  | nop | getNotices | getStatus | deskClaim | deskRelease | vigilReset | vacate | routeOverride | junctionRepeat | getJunction
  | stopSet | stopCancel | getStopRecord | diagSummary | diagChannel | outputTest | settingRead | patternHeader | tableRead
  | tableSignature | planClear | planRead | resetCause =>
    obtain ⟨rfl, rfl, rfl⟩ := command_of he
    rfl
  | _ => exact absurd he (by simp [encodeCommand])

/-- 13.1, R185: every well-formed desk command's frame is read back as that command (settles O11). -/
theorem deskFramesRoundTrip : Obligations.DeskFramesRoundTrip := by
  intro i p bytes hw he
  obtain ⟨⟨r, c, q⟩, hc, hbytes⟩ := Option.map_eq_some_iff.1 he
  obtain ⟨rfl, rfl⟩ := Prod.mk.inj hbytes
  exact (if_pos rfl).trans (decodeCommand_encodeCommand i r c q hw hc)

end Sys2Proof.Proofs
end

section
/-! The obligation of a desk port's lines (O10). -/

namespace Sys2Proof.Proofs

open Sys2Proof Sys2Proof.Machine

/-- The bits of whole bytes, bit by bit: bit 7 of byte 0 first. -/
theorem flatMap_bits_get (bytes : List Byte) (k : Nat) :
    (bytes.flatMap bitsOfByte)[k]? = bytes[k / 8]?.map (·.getMsbD (k % 8)) := by
  induction bytes generalizing k with
  | nil => rfl
  | cons b bs ih =>
    rw [List.flatMap_cons]
    by_cases hk : k < 8
    · rw [List.getElem?_append_left (by rwa [bitsOfByte_length]), Nat.div_eq_of_lt hk, Nat.mod_eq_of_lt hk]
      simp [bitsOfByte, hk]
    · obtain ⟨j, rfl⟩ : ∃ j, k = j + 8 := ⟨k - 8, by omega⟩
      rw [List.getElem?_append_right (by rw [bitsOfByte_length]; omega), bitsOfByte_length, Nat.add_sub_cancel, ih,
        Nat.add_div_right j (by decide), Nat.add_mod_right]
      rfl

theorem flatMap_bits_length (bytes : List Byte) : (bytes.flatMap bitsOfByte).length = 8 * bytes.length := by
  induction bytes with
  | nil => rfl
  | cons b bs ih => rw [List.flatMap_cons, List.length_append, bitsOfByte_length, ih, List.length_cons]; omega

/-- A reply is shown bit by bit in the order of its bytes, then low (R169). -/
theorem bitAt_eq (r : Reply) (k : Nat) : r.bitAt k = ((r.bytes.flatMap bitsOfByte)[k]?.getD false) := by
  rw [flatMap_bits_get]
  unfold Reply.bitAt
  cases r.bytes[k / 8]? <;> rfl

theorem bitAt_low (r : Reply) (k : Nat) (hk : 64 ≤ k) : r.bitAt k = false := by
  have hlen : (r.bytes.flatMap bitsOfByte).length = 64 := flatMap_bits_length r.bytes
  rw [bitAt_eq, List.getElem?_eq_none (by omega)]
  rfl

/-- While a frame is open each clock adds its bit and counts, up to 255 (R169). -/
theorem sckRise_foldl (bits acc : List Bool) (n : Nat) (r : PortRec) (hn : n ≤ 255) :
    bits.foldl PortRec.sckRise { r with shift := .shifting n acc } =
      { r with shift := .shifting (min 255 (n + bits.length)) (acc ++ bits) } := by
  induction bits generalizing acc n with
  | nil => simp [Nat.min_eq_right hn]
  | cons b bs ih =>
    have hstep : PortRec.sckRise { r with shift := .shifting n acc } b =
        { r with shift := .shifting (min 255 (n + 1)) (acc ++ [b]) } := rfl
    rw [List.foldl_cons, hstep, ih _ _ (Nat.min_le_left ..), List.append_assoc, List.length_cons]
    congr 2
    omega

theorem selFall_open (r : PortRec) (hidle : r.shift = .idle) (hw : r.waiting = false) :
    r.selFall = { r with shift := .shifting 0 [] } := by
  simp [PortRec.selFall, hidle, hw]

/-- R169, R170: a desk port shifts 64 bits in and its reply out (settles O10). -/
theorem portShiftsFrame : Obligations.PortShiftsFrame := by
  intro p r bytes hidle hw hlen bits
  have hbits : bits.length = 64 := by rw [flatMap_bits_length, hlen]
  rw [selFall_open r hidle hw]
  refine ⟨?_, fun k _ => congrArg some (bitAt_eq r.reply k), fun k hk => congrArg some (bitAt_low r.reply k hk), ?_, ?_⟩
  · rw [sckRise_foldl _ _ _ _ (Nat.zero_le _), hbits]
    change some (decodeFrame p (bytesOfBits 8 bits)) = _
    rw [← hlen, bytesOfBits_flatMap]
  · simp [PortRec.sdo, hidle]
  · intro n sdi hn hmax
    rw [sckRise_foldl _ _ _ _ (Nat.zero_le _), List.length_replicate, Nat.zero_add, Nat.min_eq_right (by omega)]
    exact congrArg some (if_neg hn)

end Sys2Proof.Proofs
end

/-! ## Proofs: sticky faults read and status slots judged (R115 to R123) -/

section
/-! SUPPORT. A row of bits in a reply. -/

namespace Sys2Proof.Proofs

open Sys2Proof Sys2Proof.Machine

theorem flagBits_getMsbD (f : Nat → Bool) {n i : Nat} (hi : i < n) : (flagBits f n).getMsbD i = f i := by
  rw [BitVec.getMsbD, getLsbD_flagBits, decide_eq_true hi, decide_eq_true (by omega : n - 1 - i < n), Bool.true_and, Bool.true_and]
  congr 1
  omega

/-- A list of bits, sent in its order. -/
theorem Packs.row (l : List Bool) : Packs (l.map bitField) (Proofs.flagBits (fun i => l.getD i false) l.length) := by
  have hmap : l.map bitField = (List.range l.length).map fun i => bitField (l.getD i false) := by
    apply List.ext_getElem (by simp)
    intro i hi _
    have hi' : i < l.length := by simpa using hi
    simp [hi']
  rw [hmap]
  exact Packs.flagBits _ _

/-- Bits at the top of a reply's data, and nothing below them. -/
theorem packData_row {l : List Bool} {m : Nat} (hl : l.length + m = 40) :
    (∀ i, i < l.length → (packData (l.map bitField)).getMsbD i = l.getD i false) ∧
      (packData (l.map bitField)).extractLsb' 0 m = 0#m := by
  rw [(Packs.row l).data hl]
  refine ⟨fun i hi => ?_, ?_⟩
  · rw [BitVec.getMsbD_cast, BitVec.getMsbD_append, if_neg (by omega), flagBits_getMsbD _ hi]
  · rw [BitVec.extractLsb'_cast, extract_low]

end Sys2Proof.Proofs
end

section
/-! The obligation of DIAG SUMMARY and DIAG CHANNEL (O42). -/

namespace Sys2Proof.Proofs

open Sys2Proof Sys2Proof.Machine

/-- The bits of a summary in their order (R122). -/
def summaryBits (o : OutbankRec) (p : Port) : List Bool :=
  let k := o.sticky.get p
  k.chans.toList.map (fun x => x != 0) ++ [k.uv, k.te, k.linkLost, !o.linkUp, o.liveUv]

theorem summaryBits_length (o : OutbankRec) (p : Port) : (summaryBits o p).length = 17 := by
  simp [summaryBits]

theorem summaryData_eq (s : State) (p : Port) : s.summaryData p = packData ((summaryBits s.outbank p).map bitField) := by
  simp only [State.summaryData, summaryBits, List.map_append, List.map_map]
  rfl

theorem bne_eq_decide_ne {n : Nat} (x y : BitVec n) : (x != y) = decide (x ≠ y) := by
  by_cases h : x = y <;> simp [h]

theorem summaryBits_chan (o : OutbankRec) (p : Port) (n : Fin 12) :
    (summaryBits o p).getD n.val false = decide (cell (o.sticky.get p).chans n ≠ 0) := by
  have hn : n.val < ((o.sticky.get p).chans.toList.map fun x => x != 0).length := by simp
  rw [summaryBits, List.getD_append _ _ _ _ hn, List.getD_eq_getElem _ _ hn]
  rw [List.getElem_map, Vector.getElem_toList, bne_eq_decide_ne]
  rfl

theorem summaryBits_flag (o : OutbankRec) (p : Port) (j : Fin 5) :
    (summaryBits o p).getD (12 + j.val) false =
      ([(o.sticky.get p).uv, (o.sticky.get p).te, (o.sticky.get p).linkLost, !o.linkUp, o.liveUv] : List Bool).getD j.val false := by
  have hlen : ((o.sticky.get p).chans.toList.map fun x => x != 0).length = 12 := by simp
  rw [summaryBits, List.getD_append_right _ _ _ _ (by omega), hlen, Nat.add_sub_cancel_left]

theorem exec_diagSummary {s : State} {p : Port} (h : Taking p s) :
    exec (.diagSummary p) s =
      .next ({ s with outbank := s.outbank.summaryRead p }.reply p (doneReply 0x40 (s.summaryData p))) :=
  congrArg Host.Outcome.next
    ((State.command_taken h (f := permitAll) rfl rfl).trans (State.conclude_quiet (r := s.summaryRule p) h.2.2))

theorem exec_diagChannel {s : State} {p : Port} (n : BitVec 8) (h : Taking p s) :
    exec (.diagChannel p n) s = .next (State.conclude p 0x41 (s, s.channelRule p n.toNat)) :=
  congrArg Host.Outcome.next (State.command_taken h (f := permitAll) rfl rfl)

theorem channelRule_data {s : State} {p : Port} (k : Fin 12) :
    s.channelRule p k.val = .done
      ((cell (s.outbank.detail.get p) k).reverse ++ BitVec.ofBool (s.driveBit k) ++
            BitVec.ofBool (cell s.outbank.reported k).isSome ++ BitVec.ofBool ((cell s.outbank.reported k).getD false) ++
            (cell s.outbank.live k).reverse ++ BitVec.ofBool (decide (cell (s.outbank.sticky.get p).chans k ≠ 0)) ++
            BitVec.ofBool (!s.outbank.linkUp) ++ 0#27 : BitVec 40) := by
  have hfields := ((Packs.flags (cell (s.outbank.detail.get p) k)).append (.bit (s.driveBit k))
    |>.append (.opt 1 ((cell s.outbank.reported k).map Bool.toNat)) |>.append (.flags (cell s.outbank.live k))
    |>.append (.bit (cell (s.outbank.sticky.get p).chans k != 0)) |>.append (.bit (!s.outbank.linkUp)))
  have hreported : ∀ b : Option Bool, optBits 1 (b.map Bool.toNat) = BitVec.ofBool b.isSome ++ BitVec.ofBool (b.getD false) := by
    decide
  rw [hreported] at hfields
  rw [State.channelRule, dif_pos k.isLt]
  refine congrArg Answer.done ((congrArg packData ?_).trans ((hfields.data (m := 27) rfl).trans ?_))
  · rw [List.append_assoc _ [bitField _] [bitField _]]
    rfl
  · simp only [BitVec.append_assoc, BitVec.cast_eq, bne_eq_decide_ne]

theorem summaryRead_own (o : OutbankRec) (p : Port) :
    (o.summaryRead p).sticky.get p = (o.sticky.get p).reduce o ∧ (o.summaryRead p).detail.get p = (o.sticky.get p).chans :=
  ⟨ByPort.get_put_self .., ByPort.get_put_self ..⟩

theorem summaryRead_other (o : OutbankRec) {p r : Port} (hr : r ≠ p) :
    (o.summaryRead p).sticky.get r = o.sticky.get r ∧ (o.summaryRead p).detail.get r = o.detail.get r :=
  ⟨ByPort.get_put_other _ _ hr, ByPort.get_put_other _ _ hr⟩

theorem reduce_chans (k : Sticky) (o : OutbankRec) (n : Fin 12) :
    cell (k.reduce o).chans n = if o.linkUp then cell k.chans n &&& cell o.live n else cell k.chans n := by
  rw [Sticky.reduce]
  cases o.linkUp <;> simp

/-- R120, R122, R123: DIAG SUMMARY and DIAG CHANNEL (settles O42). -/
theorem faultReadsAnswered : Obligations.FaultReadsAnswered := by
  refine ⟨fun s p h => ?_, fun s p n h => ⟨fun hn => ?_, fun k hk => ?_⟩⟩
  · obtain ⟨hbits, hlow⟩ := packData_row (l := summaryBits s.outbank p) (m := 23) (by rw [summaryBits_length])
    rw [summaryBits_length] at hbits
    refine ⟨_, exec_diagSummary h, ?_⟩
    rw [State.reply_replyOf]
    refine ⟨rfl, rfl, fun n => ?_, fun j => ?_, ?_, ?_, ⟨fun n => ?_, ?_, ?_, ?_⟩, fun r hr => ⟨?_, ?_, ?_⟩, rfl, rfl⟩
    · exact (congrArg (·.getMsbD n.val) (summaryData_eq s p)).trans
        ((hbits n.val (by omega)).trans (summaryBits_chan s.outbank p n))
    · exact (congrArg (·.getMsbD (12 + j.val)) (summaryData_eq s p)).trans
        ((hbits (12 + j.val) (by omega)).trans (summaryBits_flag s.outbank p j))
    · exact (congrArg (·.extractLsb' 0 23) (summaryData_eq s p)).trans hlow
    · exact (summaryRead_own s.outbank p).2
    · exact (congrArg (fun k => cell k.chans n) (summaryRead_own s.outbank p).1).trans (reduce_chans _ _ n)
    · exact congrArg Sticky.uv (summaryRead_own s.outbank p).1
    · exact congrArg Sticky.te (summaryRead_own s.outbank p).1
    · exact congrArg Sticky.linkLost (summaryRead_own s.outbank p).1
    · exact (summaryRead_other s.outbank hr).1
    · exact (summaryRead_other s.outbank hr).2
    · exact ByPort.get_put_other _ _ hr
  · rw [exec_diagChannel n h, State.channelRule, dif_neg (by omega), State.conclude_refusal h.2.2]
  · rw [exec_diagChannel n h, hk, channelRule_data, conclude_read p 0x41 _ h.2.2]

end Sys2Proof.Proofs
end

/-! ## Proofs: the status slot (R66, R115 to R117, R121) -/

section
/-! SUPPORT. Faults added to the sticky sets, and a slot as one change. -/

namespace Sys2Proof.Proofs

open Sys2Proof Sys2Proof.Machine

/-- A port's sticky set goes from empty to non-empty by what is added (R121). -/
def newFault (s : State) (x : Additions) (p : Port) : Bool :=
  !(s.outbank.sticky.get p).nonEmpty && ((s.outbank.sticky.get p).add x).nonEmpty

theorem get_map {α β : Type} (f : α → β) (x : ByPort α) (p : Port) : (x.map f).get p = f (x.get p) := by
  cases p <;> rfl

theorem addSticky_sticky (s : State) (x : Additions) (p : Port) :
    (s.addSticky x).outbank.sticky.get p = (s.outbank.sticky.get p).add x := get_map _ _ p

theorem addSticky_ports (s : State) (x : Additions) (p : Port) :
    (s.addSticky x).ports.get p =
      { s.ports.get p with notices := (s.ports.get p).notices ||| kindIf (newFault s x p) .outputFault } := by
  have hnote : ∀ (b : Bool) (r : PortRec), (if b then r.notify (addFlag 0 Notice.outputFault.idx) else r) =
      { r with notices := r.notices ||| kindIf b .outputFault } := by
    intro b r
    cases b with
    | true => rfl
    | false => simp
  cases p <;> exact hnote _ _

/-- What a slot tells: OUTPUT_FAULT where a set was empty, and the change of the emergency set to all. -/
theorem slot_notified {s u : State} {b : Port → Bool} {e : Bool}
    (hports : ∀ p, u.ports.get p = { s.ports.get p with notices := (s.ports.get p).notices ||| kindIf (b p) .outputFault })
    (hraised : u.raised = kindIf e .emergencyChanged) :
    Notified s u.deliver (fun p => kindIf (b p) .outputFault ||| kindIf e .emergencyChanged) := by
  intro p
  rw [State.deliver_get, hports, hraised, noticesFor_kindIf, toldIf_emergencyChanged, ← BitVec.or_assoc]
  rfl

theorem told_outputFault {s t : State} {b : Port → Bool} {e : Bool}
    (h : Notified s t (fun p => kindIf (b p) .outputFault ||| kindIf e .emergencyChanged)) (p : Port) :
    Told t p .outputFault ↔ Told s p .outputFault ∨ b p = true := by
  have hkind : hasFlag (kindIf (b p) .outputFault ||| kindIf e .emergencyChanged) Notice.outputFault.idx = b p := by
    cases b p <;> cases e <;> decide
  rw [Told, h p]
  simp only [hasFlag_or, hkind, Bool.or_eq_true]
  rfl

theorem chanFlags_eq (c : ChanStatus) :
    chanFlags c =
      BitVec.ofBool c.latched ++ BitVec.ofBool c.overtemp ++ BitVec.ofBool c.overload ++ BitVec.ofBool c.openLoad := by
  have hall : ∀ o v t l : Bool,
      ((if o then addFlag 0 0 else 0) ||| (if v then addFlag 0 1 else 0) ||| (if t then addFlag 0 2 else 0) |||
        (if l then addFlag 0 3 else 0) : BitVec 4) =
      BitVec.ofBool l ++ BitVec.ofBool t ++ BitVec.ofBool v ++ BitVec.ofBool o := by decide
  exact hall c.openLoad c.overload c.overtemp c.latched

theorem goodStatus_iff (s : State) (f : StatusFrame) : goodStatus s.outbank.sent f = true ↔ slotGood s f := by
  simp [goodStatus, slotGood, and_assoc]

theorem arrived_eq (s : State) (a : StatusArrival) : s.arrived a = arrives s a := by
  cases a <;> rfl

/-! ### A good slot -/

/-- What a good frame adds to every sticky set (R121). -/
def goodAdditions (f : StatusFrame) : Additions :=
  { chans := rowOf fun n => chanFlags (cell f.chans n), uv := f.uv, te := false, linkLost := false }

/-- The link comes UP at this good slot (R116). -/
def comesUp (s : State) : Bool := !s.outbank.linkUp && decide (8 ≤ s.outbank.goodRun + 1)

/-- The EBLOOP mismatch run at a good frame (R66). -/
def loopRun (s : State) (f : StatusFrame) : Nat :=
  mismatchNext s.shaper.mismatch (loopCommanded s.outbank.sent) (cell f.chans 11).on

/-- The records a good frame leaves before the emergency sources are looked at. -/
def frameTaken (f : StatusFrame) (s : State) : State :=
  State.addSticky (goodAdditions f)
    { s with
      outbank :=
        { s.outbank.takeStatus f with
          badRun := 0, goodRun := min 8 (s.outbank.goodRun + 1), linkUp := s.outbank.linkUp || comesUp s }
      shaper := { s.shaper with mismatch := if loopRun s f = 3 then 0 else loopRun s f } }

theorem goodSlot_eq (f : StatusFrame) (s : State) :
    s.goodSlot f = shed (sourceIf (comesUp s && s.wheel.stationary) .loopDropped)
      ((frameTaken f s).addSourceIf (decide (loopRun s f = 3)) .loopDropped) := by
  have hup : ((frameTaken f s).addSourceIf (decide (loopRun s f = 3)) .loopDropped).outbank.linkUp =
      (s.outbank.linkUp || comesUp s) := by
    rw [addSourceIf_eq]
    rfl
  have hst : ((frameTaken f s).addSourceIf (decide (loopRun s f = 3)) .loopDropped).wheel.stationary = s.wheel.stationary := by
    rw [addSourceIf_eq]
    rfl
  change (if comesUp s then ((frameTaken f s).addSourceIf (decide (loopRun s f = 3)) .loopDropped).testLoopDropped
    else (frameTaken f s).addSourceIf (decide (loopRun s f = 3)) .loopDropped) = _
  cases hcu : comesUp s with
  | false => exact (shed_none _).symm
  | true =>
    rw [if_pos rfl, State.testLoopDropped, removeSourceIf_eq_shed, hup, hst, hcu, Bool.or_true, Bool.and_true, Bool.true_and]

/-- The status frame that the slot was given is used up (R115). -/
def statusUsed (s : State) : State := { s with die := { s.die with status := none } }

theorem slotClose_good {s : State} {a : StatusArrival} {f : StatusFrame} (ha : arrives s a = some f) (hg : slotGood s f) :
    s.slotClose a = statusUsed (s.goodSlot f) := by
  rw [State.slotClose, arrived_eq, ha]
  exact congrArg statusUsed (if_pos ((goodStatus_iff s f).mpr hg))

/-! ### A bad slot -/

/-- The link is lost at this bad slot (R116). -/
def goesDown (s : State) : Bool := s.outbank.linkUp && decide (16 ≤ s.outbank.badRun + 1)

/-- What a bad slot adds to every sticky set (R121). -/
def badAdditions (s : State) : Additions := { chans := Vector.replicate 12 0, uv := false, te := true, linkLost := goesDown s }

/-- The records a bad slot leaves before LOOP_DROPPED. -/
def slotMissed (s : State) : State :=
  State.addSticky (badAdditions s)
    { s with
      outbank :=
        { s.outbank with
          goodRun := 0, badRun := min 16 (s.outbank.badRun + 1), linkUp := s.outbank.linkUp && !goesDown s } }

theorem badSlot_eq (s : State) : s.badSlot = (slotMissed s).addSourceIf (goesDown s) .loopDropped := rfl

theorem slotClose_bad {s : State} {a : StatusArrival} (h : ∀ f, arrives s a = some f → ¬slotGood s f) :
    s.slotClose a = statusUsed s.badSlot := by
  rw [State.slotClose, arrived_eq]
  cases ha : arrives s a with
  | none => rfl
  | some f => exact congrArg statusUsed (if_neg fun hg => h f ha ((goodStatus_iff s f).mp hg))

end Sys2Proof.Proofs
end

section
/-! The obligation of the status slot (O41). -/

namespace Sys2Proof.Proofs

open Sys2Proof Sys2Proof.Machine

/-! ### What a good slot leaves -/

section
variable (s : State) (f : StatusFrame)

/-- The state a good slot leaves before its notices are routed. -/
def afterGood : State := statusUsed (s.goodSlot f)

/-- The sources once the mismatch is judged (R66). -/
def loopAdded : BitVec 8 :=
  if loopRun s f = 3 then addFlag s.shaper.sources EmSource.loopDropped.idx else s.shaper.sources

/-- The sources once the link's coming UP is judged (R67). -/
def loopLeft : BitVec 8 :=
  if comesUp s = true ∧ s.wheel.stationary = true then dropFlag (loopAdded s f) EmSource.loopDropped.idx else loopAdded s f

/-- The state in which a good slot tests LOOP_DROPPED. -/
def loopJudged : State := (frameTaken f s).addSourceIf (decide (loopRun s f = 3)) .loopDropped

theorem loopJudged_shaper :
    (loopJudged s f).shaper = { s.shaper with
      mismatch := if loopRun s f = 3 then 0 else loopRun s f
      sources := loopAdded s f
      o := if loopRun s f = 3 ∧ s.shaper.sources = 0 then -1000 else s.shaper.o
      oPrev := if loopRun s f = 3 ∧ s.shaper.sources = 0 then -1000 else s.shaper.oPrev } := by
  rw [loopJudged, addSourceIf_shaper]
  simp only [decide_eq_true_eq]
  rfl

theorem loopJudged_up (h : comesUp s = true) : (loopJudged s f).outbank.linkUp = true := by
  rw [loopJudged, addSourceIf_eq]
  exact (congrArg (s.outbank.linkUp || ·) h).trans (Bool.or_true _)

theorem loopJudged_frame :
    loopJudged s f = { frameTaken f s with
      shaper := (loopJudged s f).shaper, sound := (loopJudged s f).sound, raised := (loopJudged s f).raised } :=
  addSourceIf_eq ..

/-- What a good slot removes (R67). -/
def loopShed : BitVec 8 := sourceIf (comesUp s && s.wheel.stationary) .loopDropped

theorem afterGood_shaper :
    (afterGood s f).shaper = shedShaper (loopJudged s f).outbank.linkUp (loopShed s) (loopJudged s f).shaper := by
  rw [afterGood, goodSlot_eq]
  rfl

theorem afterGood_sources : (afterGood s f).shaper.sources = loopLeft s f := by
  have hadded : (loopJudged s f).shaper.sources = loopAdded s f := by rw [loopJudged_shaper]
  rw [afterGood_shaper, loopShed, loopLeft, ← hadded]
  cases hcu : comesUp s with
  | false => simp [sourceIf]
  | true =>
    rw [loopJudged_up s f hcu]
    cases s.wheel.stationary with
    | false => simp [sourceIf]
    | true => simp [sourceIf, shedShaper, dropFlag_eq_and_not]

/-- The set goes from some to none at a good slot exactly when the removal empties it (R59). -/
theorem loop_empties_iff :
    (emptiedBy (loopJudged s f).shaper (loopShed s) && (loopJudged s f).outbank.linkUp) = true ↔
      loopAdded s f ≠ 0 ∧ loopLeft s f = 0 := by
  rw [← emptied_iff, ← afterGood_shaper, afterGood_sources, loopJudged_shaper]

theorem ite_or_eq {α : Type} (p q : Prop) [Decidable p] [Decidable q] (x y : α) :
    (if p ∨ q then x else y) = if q then x else if p then x else y := by
  by_cases hq : q <;> simp [hq]

theorem afterGood_shaper_eq :
    (afterGood s f).shaper = { s.shaper with
      mismatch := if loopRun s f = 3 then 0 else loopRun s f
      sources := loopLeft s f
      o := if loopRun s f = 3 ∧ s.shaper.sources = 0 then -1000 else s.shaper.o
      oPrev := if (loopRun s f = 3 ∧ s.shaper.sources = 0) ∨ (loopAdded s f ≠ 0 ∧ loopLeft s f = 0) then -1000 else s.shaper.oPrev
      zeroPass := if loopAdded s f ≠ 0 ∧ loopLeft s f = 0 then false else s.shaper.zeroPass } := by
  have heq := shedShaper_eq (loopJudged s f).outbank.linkUp (loopShed s) (loopJudged s f).shaper
  rw [← afterGood_shaper, afterGood_sources, loopJudged_shaper] at heq
  rw [ite_or_eq]
  exact heq

/-- SOUND once the mismatch is judged: the hazard request placed with a first source (R58). -/
theorem loopJudged_sound :
    (loopJudged s f).sound =
      if loopRun s f = 3 ∧ s.shaper.sources = 0 then s.sound.place s.now .hazard else s.sound := by
  by_cases hrun : loopRun s f = 3
  · rw [loopJudged, decide_eq_true hrun]
    simp only [hrun, true_and]
    exact if_congr (calm_iff s.shaper) rfl rfl
  · rw [loopJudged, decide_eq_false hrun, if_neg fun h => hrun h.1]
    rfl

theorem afterGood_hazard :
    if loopAdded s f ≠ 0 ∧ loopLeft s f = 0 then
      channelAsked (loopJudged s f).sound (afterGood s f).sound s.now .hazard false
    else channelKept (loopJudged s f).sound (afterGood s f).sound .hazard := by
  have hshed := shed_hazard (loopShed s) (loopJudged s f)
  rw [show (shed (loopShed s) (loopJudged s f)).sound = (afterGood s f).sound by rw [afterGood, goodSlot_eq]; rfl,
    show (loopJudged s f).now = s.now by rw [loopJudged_frame]; rfl] at hshed
  by_cases hempties : loopAdded s f ≠ 0 ∧ loopLeft s f = 0
  · rw [if_pos hempties]
    rwa [if_pos ((loop_empties_iff s f).mpr hempties)] at hshed
  · rw [if_neg hempties]
    rwa [if_neg fun h => hempties ((loop_empties_iff s f).mp h)] at hshed

theorem afterGood_soundKept : soundKept s.sound (afterGood s f).sound [.hazard] := by
  rw [afterGood, goodSlot_eq]
  exact soundKept_trans (addSourceIf_soundKept (frameTaken f s) _ _) (shed_soundKept (loopShed s) (loopJudged s f))

theorem afterGood_raised (hquiet : s.raised = 0) :
    (afterGood s f).raised =
      kindIf (decide ((loopRun s f = 3 ∧ s.shaper.sources = 0) ∨ (loopAdded s f ≠ 0 ∧ loopLeft s f = 0))) .emergencyChanged := by
  have hshed := shed_raised (loopShed s) (loopJudged s f)
  have hempties : (emptiedBy (loopJudged s f).shaper (loopShed s) && (loopJudged s f).outbank.linkUp) =
      decide (loopAdded s f ≠ 0 ∧ loopLeft s f = 0) :=
    Bool.eq_iff_iff.mpr ((loop_empties_iff s f).trans decide_eq_true_iff.symm)
  have hfirst : (loopJudged s f).raised = kindIf (decide (loopRun s f = 3 ∧ s.shaper.sources = 0)) .emergencyChanged := by
    rw [loopJudged, addSourceIf_raised, ← Bool.decide_and]
    exact (congrArg (· ||| _) hquiet).trans (BitVec.zero_or)
  rw [hempties, hfirst, ← kindIf_or, ← Bool.decide_or] at hshed
  rw [afterGood, goodSlot_eq]
  exact hshed

theorem afterGood_frame :
    afterGood s f = { s with
      ports := (frameTaken f s).ports, shaper := (afterGood s f).shaper, sound := (afterGood s f).sound
      raised := (afterGood s f).raised, outbank := (frameTaken f s).outbank, die := { s.die with status := none } } := by
  rw [afterGood, goodSlot_eq]
  cases decide (loopRun s f = 3) <;> rfl

/-- The state the slot's close leaves. -/
theorem afterGood_notified (hquiet : s.raised = 0) :
    Notified s (afterGood s f).deliver (fun p => kindIf (newFault s (goodAdditions f) p) .outputFault |||
      kindIf (decide ((loopRun s f = 3 ∧ s.shaper.sources = 0) ∨ (loopAdded s f ≠ 0 ∧ loopLeft s f = 0))) .emergencyChanged) := by
  refine slot_notified (fun p => ?_) (afterGood_raised s f hquiet)
  rw [afterGood_frame]
  exact addSticky_ports _ (goodAdditions f) p

theorem loopRun_eq :
    loopRun s f =
      if (s.outbank.sent.map fun q => hasFlag q.bits 11) = some true ∧ (cell f.chans 11).on = false then s.shaper.mismatch + 1
      else 0 := by
  unfold loopRun mismatchNext loopCommanded
  refine if_congr ?_ rfl rfl
  cases s.outbank.sent <;> simp

theorem comesUp_iff : comesUp s = true ↔ s.outbank.linkUp = false ∧ 7 ≤ s.outbank.goodRun := by
  simp [comesUp]

theorem goesDown_iff : goesDown s = true ↔ s.outbank.linkUp = true ∧ 15 ≤ s.outbank.badRun := by
  simp [goesDown]

end

section
variable {s : State} {a : StatusArrival} {f : StatusFrame} (hrun : Running s) (ha : arrives s a = some f) (hg : slotGood s f)
include hrun ha hg

theorem exec_slot_good : exec (.statusSlotClose a) s = .next (afterGood s f).deliver := by
  rw [exec_event hrun rfl, slotClose_good ha hg]
  rfl

omit hrun ha hg in
theorem afterGood_outbank : (afterGood s f).deliver.outbank = (frameTaken f s).outbank :=
  (congrArg State.outbank (afterGood_frame s f) :)

omit hrun ha hg in
theorem afterGood_die : (afterGood s f).deliver.die = { s.die with status := none } :=
  (congrArg State.die (afterGood_frame s f) :)

omit ha hg in
theorem afterGood_rest :
    { (afterGood s f).deliver with
      ports := s.ports, shaper := s.shaper, sound := s.sound, outbank := s.outbank, die := s.die } = s := by
  have hframe := (congrArg (fun x : State => { x with
    ports := s.ports, shaper := s.shaper, sound := s.sound, outbank := s.outbank, die := s.die, raised := 0#20 })
    (afterGood_frame s f) :)
  exact hframe.trans (with_raised_none hrun.2)

omit hrun ha hg in
/-- The sticky sets after a good slot (R121). -/
theorem afterGood_sticky (p : Port) :
    let k := s.outbank.sticky.get p
    let k' := (afterGood s f).deliver.outbank.sticky.get p
    k' = k.add (goodAdditions f) ∧ newFault s (goodAdditions f) p = (!k.nonEmpty && k'.nonEmpty) := by
  have hsticky : (afterGood s f).deliver.outbank.sticky.get p = (s.outbank.sticky.get p).add (goodAdditions f) := by
    rw [afterGood_outbank]
    exact addSticky_sticky _ _ p
  exact ⟨hsticky, by rw [hsticky]; rfl⟩

end

/-- A frame's faults in the records and the sticky sets (R116, R117, R121). -/
theorem good_slot_records (s : State) (a : StatusArrival) (f : StatusFrame) (hrun : Running s) (ha : arrives s a = some f)
    (hg : slotGood s f) :
    let flags (n : Fin 12) : BitVec 4 := BitVec.ofBool (cell f.chans n).latched ++ BitVec.ofBool (cell f.chans n).overtemp ++
      BitVec.ofBool (cell f.chans n).overload ++ BitVec.ofBool (cell f.chans n).openLoad
    ∃ t, exec (.statusSlotClose a) s = .next t ∧ t.outbank.badRun = 0 ∧ t.outbank.goodRun = min 8 (s.outbank.goodRun + 1) ∧
      t.outbank.linkUp = (s.outbank.linkUp || decide (7 ≤ s.outbank.goodRun)) ∧ t.outbank.liveUv = f.uv ∧
      (∀ n : Fin 12, cell t.outbank.reported n = some (cell f.chans n).on ∧ cell t.outbank.live n = flags n) ∧
      (∀ p : Port, let k := s.outbank.sticky.get p
        let k' := t.outbank.sticky.get p
        (∀ n : Fin 12, cell k'.chans n = cell k.chans n ||| flags n) ∧ k'.uv = (k.uv || f.uv) ∧ k'.te = k.te ∧
          k'.linkLost = k.linkLost ∧ (k.nonEmpty = false → k'.nonEmpty = true → Told t p .outputFault) ∧
          (k.nonEmpty = true ∨ k'.nonEmpty = false → Told t p .outputFault → Told s p .outputFault)) ∧
      { t.outbank with
        badRun := s.outbank.badRun, goodRun := s.outbank.goodRun, linkUp := s.outbank.linkUp, reported := s.outbank.reported
        live := s.outbank.live, liveUv := s.outbank.liveUv, sticky := s.outbank.sticky } = s.outbank ∧
      t.die = { s.die with status := none } ∧
      { t with ports := s.ports, shaper := s.shaper, sound := s.sound, outbank := s.outbank, die := s.die } = s := by
  intro flags
  refine ⟨_, exec_slot_good hrun ha hg, ?_, ?_, ?_, ?_, fun n => ⟨?_, ?_⟩, fun p => ?sticky, ?_, afterGood_die, afterGood_rest hrun⟩
  case sticky =>
    obtain ⟨hsticky, hnew⟩ := afterGood_sticky (s := s) (f := f) p
    have htold := told_outputFault (afterGood_notified s f hrun.2) p
    rw [hnew] at htold
    refine ⟨fun n => ?_, ?_, ?_, ?_, fun hk hk' => htold.mpr (Or.inr (by rw [hk, hk']; rfl)), fun hk ht => ?_⟩
    · rw [hsticky]
      simp [Sticky.add, goodAdditions, chanFlags_eq, flags]
    · rw [hsticky]
      rfl
    · rw [hsticky]
      exact Bool.or_false _
    · rw [hsticky]
      exact Bool.or_false _
    · refine (htold.mp ht).resolve_right fun h => ?_
      obtain hk | hk := hk <;> rw [hk] at h <;> simp at h
  all_goals rw [afterGood_outbank]
  · rfl
  · rfl
  · change (s.outbank.linkUp || (!s.outbank.linkUp && decide (8 ≤ s.outbank.goodRun + 1))) = _
    cases s.outbank.linkUp <;> simp
  · rfl
  · exact cell_rowOf (fun n => some (cell f.chans n).on) n
  · exact (cell_rowOf (fun n => chanFlags (cell f.chans n)) n).trans (chanFlags_eq _)
  · rfl

/-- The mismatch run and what follows from it (R58, R59, R66, R67). -/
theorem good_slot_loop (s : State) (a : StatusArrival) (f : StatusFrame) (hrun : Running s) (ha : arrives s a = some f)
    (hg : slotGood s f) :
    ∃ t, exec (.statusSlotClose a) s = .next t ∧
      t.shaper = { s.shaper with
        mismatch := if loopRun s f = 3 then 0 else loopRun s f
        sources := loopLeft s f
        o := if loopRun s f = 3 ∧ s.shaper.sources = 0 then -1000 else s.shaper.o
        oPrev := if (loopRun s f = 3 ∧ s.shaper.sources = 0) ∨ (loopAdded s f ≠ 0 ∧ loopLeft s f = 0) then -1000 else s.shaper.oPrev
        zeroPass := if loopAdded s f ≠ 0 ∧ loopLeft s f = 0 then false else s.shaper.zeroPass } ∧
      (if loopAdded s f ≠ 0 ∧ loopLeft s f = 0 then channelAsked (loopJudged s f).sound t.sound s.now .hazard false
       else channelKept (loopJudged s f).sound t.sound .hazard) ∧
      soundKept s.sound t.sound [.hazard] ∧ t.driveBit 11 = decide (loopLeft s f = 0) ∧
      Notified s t (fun p =>
        (if (s.outbank.sticky.get p).nonEmpty = false ∧ (t.outbank.sticky.get p).nonEmpty = true then only .outputFault else 0) |||
          if (loopRun s f = 3 ∧ s.shaper.sources = 0) ∨ (loopAdded s f ≠ 0 ∧ loopLeft s f = 0) then only .emergencyChanged else 0) := by
  refine ⟨_, exec_slot_good hrun ha hg, afterGood_shaper_eq s f, afterGood_hazard s f, afterGood_soundKept s f, ?_, ?_⟩
  · change (afterGood s f).shaper.calm = _
    rw [calm_eq_decide, afterGood_sources]
  · refine notified_congr (afterGood_notified s f hrun.2) fun p => congrArg₂ (· ||| ·) ?_ ?_
    · rw [(afterGood_sticky p).2]
      unfold kindIf
      exact if_congr (by simp) rfl rfl
    · exact if_congr decide_eq_true_iff rfl rfl

section
variable {s : State} {a : StatusArrival} (hrun : Running s) (hb : ∀ f, arrives s a = some f → ¬slotGood s f)
include hrun hb

theorem exec_slot_bad : exec (.statusSlotClose a) s = .next (statusUsed s.badSlot).deliver := by
  rw [exec_event hrun rfl, slotClose_bad hb]

omit hrun hb in
theorem badSlot_frame :
    (statusUsed s.badSlot) = { s with
      ports := (slotMissed s).ports, shaper := (s.addSourceIf (goesDown s) .loopDropped).shaper
      sound := (s.addSourceIf (goesDown s) .loopDropped).sound, raised := (s.addSourceIf (goesDown s) .loopDropped).raised
      outbank := (slotMissed s).outbank, die := { s.die with status := none } } := by
  rw [badSlot_eq]
  cases goesDown s <;> rfl

omit hb in
theorem badSlot_notified :
    Notified s (statusUsed s.badSlot).deliver (fun p => kindIf (newFault s (badAdditions s) p) .outputFault |||
      kindIf (goesDown s && decide (s.shaper.sources = 0)) .emergencyChanged) := by
  rw [badSlot_frame]
  refine slot_notified (fun p => addSticky_ports _ (badAdditions s) p) ?_
  exact (addSourceIf_raised s _ _).trans ((congrArg (· ||| _) hrun.2).trans BitVec.zero_or)

omit hrun hb in
theorem badFault_eq (p : Port) : newFault s (badAdditions s) p = !(s.outbank.sticky.get p).nonEmpty := by
  simp [newFault, badAdditions, Sticky.add, Sticky.nonEmpty]

end

theorem bad_slot_leaves (s : State) (a : StatusArrival) (hrun : Running s) (hb : ∀ f, arrives s a = some f → ¬slotGood s f) :
    let falls := s.outbank.linkUp = true ∧ 15 ≤ s.outbank.badRun
    ∃ t, exec (.statusSlotClose a) s = .next t ∧ t.outbank.goodRun = 0 ∧ t.outbank.badRun = min 16 (s.outbank.badRun + 1) ∧
      t.outbank.linkUp = (s.outbank.linkUp && !decide falls) ∧
      (∀ p : Port, let k := s.outbank.sticky.get p
        let k' := t.outbank.sticky.get p
        k'.chans = k.chans ∧ k'.uv = k.uv ∧ k'.te = true ∧ k'.linkLost = (k.linkLost || decide falls) ∧
          (k.nonEmpty = false → Told t p .outputFault) ∧ (k.nonEmpty = true → Told t p .outputFault → Told s p .outputFault)) ∧
      (falls → sourceAdded s t .loopDropped) ∧ (¬falls → t.shaper = s.shaper ∧ t.sound = s.sound) ∧
      Notified s t (fun p => (if (s.outbank.sticky.get p).nonEmpty = false then only .outputFault else 0) |||
        if falls ∧ s.shaper.sources = 0 then only .emergencyChanged else 0) ∧
      { t.outbank with
        badRun := s.outbank.badRun, goodRun := s.outbank.goodRun, linkUp := s.outbank.linkUp, sticky := s.outbank.sticky } =
        s.outbank ∧
      t.die = { s.die with status := none } ∧
      { t with ports := s.ports, shaper := s.shaper, sound := s.sound, outbank := s.outbank, die := s.die } = s := by
  intro falls
  have hfalls : goesDown s = decide falls := Bool.eq_iff_iff.mpr ((goesDown_iff s).trans decide_eq_true_iff.symm)
  have hnote := badSlot_notified hrun
  refine ⟨_, exec_slot_bad hrun hb, ?_⟩
  rw [badSlot_frame] at hnote ⊢
  refine ⟨rfl, rfl, congrArg (s.outbank.linkUp && !·) hfalls, fun p => ?_, fun h => ?_, fun h => ?_, ?_, rfl, rfl,
    with_raised_none hrun.2⟩
  · have htold := told_outputFault hnote p
    rw [badFault_eq] at htold
    have hsticky : (slotMissed s).outbank.sticky.get p = (s.outbank.sticky.get p).add (badAdditions s) := addSticky_sticky _ _ p
    refine ⟨?_, ?_, ?_, ?_, fun hk => htold.mpr (Or.inr (by rw [hk]; rfl)), fun hk ht => (htold.mp ht).resolve_right (by simp [hk])⟩
    · refine (congrArg Sticky.chans hsticky).trans ?_
      apply Vector.ext
      intro i hi
      simp [Sticky.add, badAdditions, rowOf, cell]
    · exact (congrArg Sticky.uv hsticky).trans (Bool.or_false _)
    · exact (congrArg Sticky.te hsticky).trans (Bool.or_true _)
    · exact (congrArg Sticky.linkLost hsticky).trans (congrArg (_ || ·) hfalls)
  · have hadd : s.addSourceIf (goesDown s) .loopDropped = s.addSource .loopDropped := by
      rw [(goesDown_iff s).mpr h]
      rfl
    rw [hadd]
    exact sourceAdded_of rfl rfl (soundKept_refl _ _) (by simp)
  · have hnone : s.addSourceIf (goesDown s) .loopDropped = s := by
      rw [hfalls, decide_eq_false h]
      rfl
    rw [hnone]
    exact ⟨rfl, rfl⟩
  · refine notified_congr hnote fun p => congrArg₂ (· ||| ·) ?_ ?_
    · rw [badFault_eq]
      exact if_congr (by simp) rfl rfl
    · refine if_congr ?_ rfl rfl
      rw [hfalls, ← Bool.decide_and]
      exact decide_eq_true_iff

/-! ### The bytes of a status frame (13.4) -/

theorem bitsOfByte_eight : ∀ bits : List Bool, bits.length = 8 → bitsOfByte (byteOfBits bits) = bits
  | [a, b, c, d, e, f, g, h], _ => bitsOfByte_byteOfBits a b c d e f g h

theorem eight_of_length {α : Type} : ∀ l : List α, l.length = 8 → ∃ a b c d e f g h, l = [a, b, c, d, e, f, g, h]
  | [a, b, c, d, e, f, g, h], _ => ⟨a, b, c, d, e, f, g, h, rfl⟩

/-- Whole bytes of bits have those bits. -/
theorem flatMap_bytesOfBits (n : Nat) (bits : List Bool) (h : bits.length = 8 * n) :
    (bytesOfBits n bits).flatMap bitsOfByte = bits := by
  induction n generalizing bits with
  | zero => exact (List.length_eq_zero_iff.mp h).symm
  | succ n ih =>
    rw [bytesOfBits, List.flatMap_cons, ih _ (by rw [List.length_drop]; omega),
      bitsOfByte_eight _ (by rw [List.length_take]; omega), List.take_append_drop]

/-- The members of a row of equal lengths are found at its multiples. -/
theorem flatMap_member {α β : Type} {g : α → List β} {w : Nat} (hw : ∀ x, (g x).length = w) (xs : List α) (rest : List β)
    (n : Nat) (hn : n < xs.length) : ((xs.flatMap g ++ rest).drop (w * n)).take w = g xs[n] := by
  induction xs generalizing n with
  | nil => exact absurd hn (Nat.not_lt_zero n)
  | cons x xs ih =>
    rw [List.flatMap_cons, List.append_assoc]
    cases n with
    | zero => rw [Nat.mul_zero, List.drop_zero, ← hw x, List.take_left]; rfl
    | succ n =>
      rw [Nat.mul_succ, Nat.add_comm, ← List.drop_drop, ← hw x, List.drop_left, hw x]
      exact ih n (Nat.lt_of_succ_lt_succ hn)

/-- The 64 bits of bytes 1 to 8: five of each channel, then the last 4 zero bits. -/
def chanRow (f : StatusFrame) : List Bool :=
  (f.chans.toList.flatMap chanBits) ++ (List.range 4).map fun i => f.zeros.getMsbD (i + 2)

theorem chanBits_flatMap_length (l : List ChanStatus) : (l.flatMap chanBits).length = 5 * l.length := by
  induction l with
  | nil => rfl
  | cons c cs ih => rw [List.flatMap_cons, List.length_append, ih, List.length_cons]; simp [chanBits]; omega

theorem chanRow_length (f : StatusFrame) : (chanRow f).length = 64 := by
  rw [chanRow, List.length_append, chanBits_flatMap_length]
  simp

theorem chanRow_channel (f : StatusFrame) (rest : List Bool) (n : Fin 12) :
    ((chanRow f ++ rest).drop (5 * n.val)).take 5 = chanBits (cell f.chans n) := by
  rw [chanRow, List.append_assoc, flatMap_member (w := 5) (fun _ => rfl) _ _ _ (by simp)]
  rfl

theorem chanOf_row (f : StatusFrame) (n : Fin 12) : chanOf (chanRow f) n.val = cell f.chans n := by
  have hbit : ∀ k, k < 5 → (chanRow f)[5 * n.val + k]? = (chanBits (cell f.chans n))[k]? := by
    intro k hk
    rw [← chanRow_channel f [] n, List.append_nil, List.getElem?_take, if_pos hk, List.getElem?_drop]
  simp only [chanOf, hbit 0 (by decide), hbit 1 (by decide), hbit 2 (by decide), hbit 3 (by decide), hbit 4 (by decide)]
  rfl

theorem chanBytes_bits (f : StatusFrame) : (chanBytes f).flatMap bitsOfByte = chanRow f :=
  flatMap_bytesOfBits 8 (chanRow f) (chanRow_length f)

/-- Byte 0 of a status frame. -/
def statusHead (f : StatusFrame) : Byte :=
  ((BitVec.ofBool f.following ++ BitVec.ofBool f.uv) ++ f.zeros.extractLsb' 4 2) ++ f.echo

theorem statusBytes_eq (f : StatusFrame) :
    statusBytes f = (statusHead f :: chanBytes f) ++ [crc8 (statusHead f :: chanBytes f)] := rfl

theorem statusHead_eq (f : StatusFrame) :
    statusHead f = BitVec.ofNat 8 (128 * f.following.toNat + 64 * f.uv.toNat + f.zeros.toNat / 16 * 16 + f.echo.toNat) := by
  apply BitVec.eq_of_toNat_eq
  have hz := f.zeros.isLt
  have he := f.echo.isLt
  have hf := Bool.toNat_le f.following
  have hu := Bool.toNat_le f.uv
  unfold statusHead
  rw [toNat_append_eq, toNat_append_eq, toNat_append_eq, BitVec.toNat_ofBool, BitVec.toNat_ofBool, BitVec.extractLsb'_toNat,
    BitVec.toNat_ofNat, Nat.shiftRight_eq_div_pow]
  omega

/-- The last 4 zero bits stand at the end of byte 8. -/
theorem zeros_low (f : StatusFrame) (b : Byte) (h : (chanBytes f)[7]? = some b) :
    b.extractLsb' 0 4 = f.zeros.extractLsb' 0 4 := by
  apply BitVec.eq_of_getLsbD_eq
  intro i hi
  have hbit : (chanRow f)[63 - i]? = some (b.getMsbD (7 - i)) := by
    rw [← chanBytes_bits, flatMap_bits_get, show (63 - i) / 8 = 7 by omega, h, show (63 - i) % 8 = 7 - i by omega]
    rfl
  have hlen : (f.chans.toList.flatMap chanBits).length = 60 := by
    rw [chanBits_flatMap_length]
    simp
  rw [chanRow, List.getElem?_append_right (by omega), hlen] at hbit
  have hzero : b.getMsbD (7 - i) = f.zeros.getMsbD (63 - i - 60 + 2) := by
    simpa [show 63 - i - 60 < 4 by omega] using hbit.symm
  rw [BitVec.getLsbD_extractLsb', BitVec.getLsbD_extractLsb', Nat.zero_add]
  rw [BitVec.getMsbD, BitVec.getMsbD, show 8 - 1 - (7 - i) = i by omega, show 6 - 1 - (63 - i - 60 + 2) = i by omega,
    decide_eq_true (by omega), decide_eq_true (by omega)] at hzero
  simpa [hi] using hzero

/-- A frame of ten bytes reads by its check (R115). -/
theorem readStatus_ten (b0 : Byte) (body : List Byte) (b8 k : Byte) (hlen : body.length = 8) (hlast : body[7]? = some b8) :
    readStatus ((b0 :: body) ++ [k]) =
      if k = crc8 (b0 :: body) then
        some
          { following := b0.getLsbD 7, uv := b0.getLsbD 6, zeros := b0.extractLsb' 4 2 ++ b8.extractLsb' 0 4
            echo := b0.extractLsb' 0 4, chans := rowOf fun n => chanOf (body.flatMap bitsOfByte) n.val }
      else none := by
  obtain ⟨c1, c2, c3, c4, c5, c6, c7, c8, rfl⟩ := eight_of_length body hlen
  obtain rfl : c8 = b8 := by simpa using hlast
  rfl

theorem statusHead_fields (f : StatusFrame) :
    (statusHead f).getLsbD 7 = f.following ∧ (statusHead f).getLsbD 6 = f.uv ∧
      (statusHead f).extractLsb' 4 2 = f.zeros.extractLsb' 4 2 ∧ (statusHead f).extractLsb' 0 4 = f.echo := by
  have hall : ∀ (a u : Bool) (z : BitVec 2) (e : BitVec 4),
      let w := ((BitVec.ofBool a ++ BitVec.ofBool u) ++ z) ++ e
      w.getLsbD 7 = a ∧ w.getLsbD 6 = u ∧ w.extractLsb' 4 2 = z ∧ w.extractLsb' 0 4 = e := by decide
  exact hall f.following f.uv (f.zeros.extractLsb' 4 2) f.echo

theorem readStatus_statusBytes (f : StatusFrame) : readStatus (statusBytes f) = some f := by
  obtain ⟨b8, hlast⟩ : ∃ b, (chanBytes f)[7]? = some b := ⟨_, rfl⟩
  obtain ⟨hf, hu, hz, he⟩ := statusHead_fields f
  rw [statusBytes_eq, readStatus_ten _ _ b8 _ rfl hlast, if_pos rfl, chanBytes_bits, zeros_low f b8 hlast, hf, hu, hz, he,
    append_extract (n := 2) (m := 4)]
  have hchans : (rowOf fun n => chanOf (chanRow f) n.val) = f.chans := by
    apply Vector.ext
    intro i hi
    exact (cell_rowOf (fun n => chanOf (chanRow f) n.val) ⟨i, hi⟩).trans (chanOf_row f ⟨i, hi⟩)
  rw [hchans]

/-- The bytes read as a status frame: ten of them, the last the check of the others. -/
theorem readStatus_isSome (body : List Byte) (k : Byte) :
    (readStatus (body ++ [k])).isSome = true ↔ body.length = 9 ∧ k = crc8 body := by
  by_cases hlen : body.length = 9
  · obtain ⟨b0, rest, rfl⟩ := List.exists_cons_of_length_eq_add_one hlen
    have hrest : rest.length = 8 := Nat.succ.inj hlen
    obtain ⟨b8, hlast⟩ : ∃ b, rest[7]? = some b := ⟨rest[7], List.getElem?_eq_getElem (by omega)⟩
    rw [readStatus_ten b0 rest b8 k hrest hlast]
    by_cases hk : k = crc8 (b0 :: rest)
    · rw [if_pos hk]
      exact iff_of_true rfl ⟨hlen, hk⟩
    · rw [if_neg hk]
      exact iff_of_false (by simp) fun h => hk h.2
  · refine iff_of_false (fun h => ?_) fun h => hlen h.1
    unfold readStatus at h
    split at h
    next heq =>
      have := congrArg List.length heq
      simp at this
      exact hlen this
    next => exact absurd h (by simp)

theorem statusBytes_channel (f : StatusFrame) (n : Fin 12) :
    (((statusBytes f).flatMap bitsOfByte).drop (8 + 5 * n.val)).take 5 = chanBits (cell f.chans n) := by
  rw [statusBytes_eq, List.flatMap_append, List.flatMap_cons, List.append_assoc, chanBytes_bits, ← List.drop_drop,
    List.drop_left' (bitsOfByte_length _), chanRow_channel]

/-- Settles O41: a slot judged good or bad, and the bytes of a status frame. -/
theorem statusSlotJudged : Obligations.StatusSlotJudged := by
  refine ⟨good_slot_records, fun s a f hrun ha hg => ?_, bad_slot_leaves,
    fun f => ⟨rfl, readStatus_statusBytes f, congrArg some (statusHead_eq f), statusBytes_channel f⟩,
    fun body k => ⟨readStatus_isSome body k, rfl⟩⟩
  intro commanded run up added left first empties placed
  have hrunEq : run = loopRun s f := (loopRun_eq s f).symm
  have hadded : added = loopAdded s f := if_congr (by rw [hrunEq]) rfl rfl
  have hleft : left = loopLeft s f := by
    refine if_congr (and_congr (comesUp_iff s).symm Iff.rfl) ?_ hadded
    rw [hadded]
  have hplaced : placed = (loopJudged s f).sound := by
    refine (if_congr (and_congr ?_ Iff.rfl) rfl rfl).trans (loopJudged_sound s f).symm
    rw [hrunEq]
  clear_value placed
  subst hplaced
  clear_value left
  subst hleft
  clear_value added
  subst hadded
  clear_value run
  subst hrunEq
  exact good_slot_loop s a f hrun ha hg

end Sys2Proof.Proofs
end

/-! ## Proofs: the touch channels (R126 to R139) -/

section
/-! SUPPORT. What a measurement judges. -/

namespace Sys2Proof.Proofs

open Sys2Proof Sys2Proof.Machine

theorem voidCount_iff (n : Nat) : voidCount n = true ↔ n < 64 ∨ n = 4095 := by
  simp [voidCount]

/-- A judgement that confirms no press. -/
def unconfirmed (x : TouchRec × Bool) : Judgement := { chan := x.1, confirmed := false, fault := x.2 }

theorem judge_disabled {c : TouchRec} (n th time : Nat) (h : c.state = .disabled) :
    judge c n th time = unconfirmed ({ c with count := some n }, false) := if_pos h

theorem judge_void {c : TouchRec} {n : Nat} (th time : Nat) (h : c.state ≠ .disabled) (hv : n < 64 ∨ n = 4095) :
    judge c n th time = unconfirmed (voidLeaves c n) := by
  have hthird : min 3 (c.voidRun + 1) = 3 ↔ 2 ≤ c.voidRun := by omega
  have hjudge : judge c n th time = judgeVoid { c with count := some n } :=
    (if_neg h).trans (if_pos ((voidCount_iff n).mpr hv))
  rw [hjudge]
  cases hst : c.state with
  | disabled => exact absurd hst h
  | faulted => simp [judgeVoid, voidLeaves, unconfirmed, quiet, hst]
  | pressing => simp [judgeVoid, voidLeaves, unconfirmed, quiet, hst]
  | idle | pressed | releasing | stuck =>
    simp only [judgeVoid, voidLeaves, hst, hthird]
    by_cases h3 : 2 ≤ c.voidRun <;> simp [h3, unconfirmed, quiet, enterFaulted]

/-- An in-range count of a channel that is not DISABLED is judged in range. -/
theorem judge_range {c : TouchRec} {n : Nat} (th time : Nat) (h : c.state ≠ .disabled) (hv : ¬(n < 64 ∨ n = 4095)) :
    judge c n th time = judgeInRange { c with count := some n } n th time :=
  (if_neg h).trans (if_neg fun e => hv ((voidCount_iff n).mp e))

theorem judge_faulted {c : TouchRec} {n : Nat} (th time : Nat) (h : c.state = .faulted) (hv : ¬(n < 64 ∨ n = 4095)) :
    judge c n th time = unconfirmed
      (let c1 := { c with count := some n, voidRun := 0 }
       if 49 ≤ c.rangeRun.getD 0 then ({ c1 with state := .idle, baseline := some (n * 16), rangeRun := none }, true)
       else ({ c1 with rangeRun := some (c.rangeRun.getD 0 + 1), baseline := some (c.baseline.getD (n * 16)) }, false)) := by
  have hfifty : 50 ≤ c.rangeRun.getD 0 + 1 ↔ 49 ≤ c.rangeRun.getD 0 := by omega
  rw [judge_range th time (by simp [h]) hv]
  simp only [judgeInRange, h, judgeFaulted, hfifty]
  split <;> rfl

theorem judge_seeds {c : TouchRec} {n : Nat} (th time : Nat) (h : c.state ≠ .disabled) (hf : c.state ≠ .faulted)
    (hv : ¬(n < 64 ∨ n = 4095)) (hb : c.baseline = none) :
    judge c n th time = unconfirmed ({ c with count := some n, voidRun := 0, baseline := some (n * 16) }, false) := by
  rw [judge_range th time h hv]
  cases hst : c.state with
  | disabled => exact absurd hst h
  | faulted => exact absurd hst hf
  | idle | pressing | pressed | releasing | stuck =>
    simp only [judgeInRange, hb]
    rfl

/-- The stuck test of a channel left PRESSED (R132). -/
theorem stuckTest_eq (c : TouchRec) (n time : Nat) :
    stuckTest c n time = unconfirmed
      (if (c.pressedAt.map fun p => decide (p + 20000 ≤ time)).getD false = true then
        ({ c with state := .stuck, baseline := some (n * 16), confirm := 0 }, true) else (c, false)) := by
  unfold stuckTest
  split <;> rfl

/-- An in-range count against a present baseline (R129 to R132): the third deep count of PRESSING alone confirms. -/
theorem judge_present {c : TouchRec} {n b : Nat} (th time : Nat) (h : c.state ≠ .disabled) (hf : c.state ≠ .faulted)
    (hv : ¬(n < 64 ∨ n = 4095)) (hb : c.baseline = some b) :
    judge c n th time =
      { chan := (rangeLeaves c b n th time).1
        confirmed := decide (c.state = .pressing ∧ 2 ≤ c.confirm ∧ (th : Int) ≤ depthOf b n)
        fault := (rangeLeaves c b n th time).2 } := by
  rw [judge_range th time h hv]
  cases hst : c.state with
  | disabled => exact absurd hst h
  | faulted => exact absurd hst hf
  | idle =>
    simp only [judgeInRange, hst, hb, judgeIdle, rangeLeaves, depth, depthOf, drift]
    split <;> simp [quiet, mul_comm]
  | pressing =>
    simp only [judgeInRange, hst, hb, judgePressing, rangeLeaves, show depth = depthOf from rfl]
    generalize depthOf b n = d
    by_cases hd : (th : Int) ≤ d
    · by_cases h2 : c.confirm < 2
      · simp [hd, h2, quiet, not_lt.mpr hd, Nat.le_of_lt_succ h2, Nat.not_le.mpr h2]
      · simp [hd, h2, not_lt.mpr hd, show ¬c.confirm ≤ 1 by omega, not_lt.mp h2]
    · simp [hd, quiet, not_le.mp hd]
  | pressed =>
    simp only [judgeInRange, hst, hb, judgePressed, rangeLeaves, show depth = depthOf from rfl, stuckTest_eq]
    generalize depthOf b n = d
    by_cases hd : 2 * d < th
    · simp [hd, quiet]
    · cases hp : c.pressedAt with
      | none => simp [hd, unconfirmed]
      | some p => by_cases h20 : p + 20000 ≤ time <;> simp [hd, unconfirmed, h20]
  | releasing =>
    simp only [judgeInRange, hst, hb, judgeReleasing, rangeLeaves, show depth = depthOf from rfl, stuckTest_eq]
    generalize depthOf b n = d
    by_cases hd : 2 * d < th
    · by_cases h2 : c.confirm < 2
      · simp [hd, h2, quiet, Nat.le_of_lt_succ h2]
      · simp [hd, h2, quiet, show ¬c.confirm ≤ 1 by omega]
    · cases hp : c.pressedAt with
      | none => simp [hd, unconfirmed]
      | some p => by_cases h20 : p + 20000 ≤ time <;> simp [hd, unconfirmed, h20]
  | stuck =>
    simp only [judgeInRange, hst, hb, judgeStuck, rangeLeaves, show depth = depthOf from rfl]
    cases hsaved : c.saved with
    | none => simp [quiet]
    | some v =>
      by_cases hd : 2 * depthOf v n < th
      · by_cases h2 : c.confirm < 2
        · simp [hd, h2, quiet, Nat.le_of_lt_succ h2]
        · simp [hd, h2, show ¬c.confirm ≤ 1 by omega]
      · simp [hd, quiet]

end Sys2Proof.Proofs
end

section
/-! SUPPORT. The end of a gate. -/

namespace Sys2Proof.Proofs

open Sys2Proof Sys2Proof.Machine

section
variable (s : State) (k : Fin 16) (n : Nat)

/-- The clock at the end of gate k (R128). -/
def gateTime : Nat := max s.now ((s.stop.scanAt.map fun t => t + k.val + 1).getD s.now)

/-- What gate k's count is judged as. -/
def gateJudged : Judgement := judge (cell s.stop.chans k) n s.settings.threshold (gateTime s k - s.epoch)

/-- The state a gate's end leaves before a press reaches the stop record. -/
def gateEnded : State :=
  { s with
    now := gateTime s k
    stop := { s.stop with chans := putCell s.stop.chans k (gateJudged s k n).chan }
    raised := s.raised ||| kindIf (gateJudged s k n).fault .touchFault }

/-- The press of this gate reaches the stop record (R134). -/
def recorded : Prop := (gateJudged s k n).confirmed = true ∧ s.stop.sect = .running ∧ s.lines.dcl = true

theorem gateEnd_eq :
    s.gateEnd k n =
      if (gateJudged s k n).confirmed then (gateEnded s k n).confirmPress (cell s.settings.touch k) else gateEnded s k n := by
  have hraised := ite_addFlag_eq_or s.raised (gateJudged s k n).fault .touchFault
  unfold gateEnded
  rw [← hraised]
  rfl

variable {s k n}

theorem gateEnd_unrecorded (h : ¬recorded s k n) : s.gateEnd k n = gateEnded s k n := by
  rw [gateEnd_eq]
  by_cases hc : (gateJudged s k n).confirmed = true
  · rw [if_pos hc]
    exact if_neg fun hrun => h ⟨hc, hrun⟩
  · rw [if_neg hc]

theorem gateEnd_recorded (h : recorded s k n) :
    let w := gateEnded s k n
    let r := s.stop.record
    let a := cell s.settings.touch k
    s.gateEnd k n = { w with
      stop := { w.stop with record := r.confirm a s.wheel.odometer (gateTime s k - s.epoch) }
      sound := if !r.requested && !r.chime then s.sound.oneShot (gateTime s k) .chime 5 .stopreq else s.sound
      raised := w.raised ||| kindIf (r.news a) .stopChanged } := by
  obtain ⟨hc, hrun⟩ := h
  intro w r a
  rw [gateEnd_eq, if_pos hc, ← ite_addFlag_eq_or]
  exact if_pos hrun

theorem gateEnded_chan : cell (gateEnded s k n).stop.chans k = (gateJudged s k n).chan := cell_putCell_self ..

theorem gateEnded_other (j : Fin 16) (hj : j ≠ k) : cell (gateEnded s k n).stop.chans j = cell s.stop.chans j :=
  cell_putCell_other _ _ hj

theorem gateEnded_notified (hquiet : s.raised = 0) :
    Notified s (gateEnded s k n).deliver (fun p => toldIf (gateJudged s k n).fault .touchFault s.auth p) := by
  refine notified_of rfl fun p => ?_
  rw [← noticesFor_kindIf]
  exact congrArg (noticesFor s.auth · p) ((congrArg (· ||| _) hquiet).trans BitVec.zero_or)

theorem gateTime_scan {a : Nat} (h : s.stop.scanAt = some a) : gateTime s k = max s.now (a + k.val + 1) := by
  rw [gateTime, h]
  rfl

theorem gateTime_none (h : s.stop.scanAt = none) : gateTime s k = s.now := by
  rw [gateTime, h]
  exact Nat.max_self _

end

end Sys2Proof.Proofs
end

section
/-! The obligations of a touch channel's measurement (O43, O44). -/

namespace Sys2Proof.Proofs

open Sys2Proof Sys2Proof.Machine

section
variable {s : State} {k : Fin 16} {n : BitVec 12} (hrun : Running s)
include hrun

theorem exec_touch_unrecorded (h : ¬recorded s k n.toNat) :
    exec (.touchMeasurement k n) s = .next (gateEnded s k n.toNat).deliver := by
  rw [exec_event hrun rfl, gateEnd_unrecorded h]

theorem gateEnded_rest :
    { (gateEnded s k n.toNat).deliver with now := s.now, ports := s.ports, stop := s.stop } = s :=
  with_raised_none hrun.2

end

/-- Settles O43: a measurement in every state of a touch channel. -/
theorem touchMeasurementsJudged : Obligations.TouchMeasurementsJudged := by
  refine ⟨fun s k n hrun => ?_, fun s k n b hrun => ?_⟩
  · intro c void hcase
    have hout : ∃ x, gateJudged s k n.toNat = unconfirmed x ∧ x =
        if c.state = .disabled then ({ c with count := some n.toNat }, false)
        else if void then voidLeaves c n.toNat
        else if c.state = .faulted then
          (let c1 := { c with count := some n.toNat, voidRun := 0 }
           if 49 ≤ c.rangeRun.getD 0 then ({ c1 with state := .idle, baseline := some (n.toNat * 16), rangeRun := none }, true)
           else ({ c1 with rangeRun := some (c.rangeRun.getD 0 + 1), baseline := some (c.baseline.getD (n.toNat * 16)) }, false))
        else ({ c with count := some n.toNat, voidRun := 0, baseline := some (n.toNat * 16) }, false) := by
      by_cases hd : c.state = .disabled
      · exact ⟨_, judge_disabled _ _ _ hd, (if_pos hd).symm⟩
      rw [if_neg hd]
      by_cases hv : void
      · exact ⟨_, judge_void _ _ hd hv, (if_pos hv).symm⟩
      rw [if_neg hv]
      by_cases hf : c.state = .faulted
      · exact ⟨_, judge_faulted _ _ hf hv, (if_pos hf).symm⟩
      rw [if_neg hf]
      have hb : c.baseline = none := ((hcase.resolve_left hd).resolve_left hv).resolve_right hf
      exact ⟨_, judge_seeds _ _ hd hf hv hb, rfl⟩
    obtain ⟨x, hj, hx⟩ := hout
    have hunrecorded : ¬recorded s k n.toNat := fun h => absurd h.1 (by rw [hj]; simp [unconfirmed])
    refine ⟨_, exec_touch_unrecorded hrun hunrecorded, ?_, ⟨?_, ?_⟩, gateEnded_other, rfl, gateEnded_rest hrun⟩
    · split
      next a h => exact gateTime_scan h
      next h => exact gateTime_none h
    · rw [← hx]
      exact gateEnded_chan.trans (congrArg Judgement.chan hj)
    · rw [← hx]
      exact notified_congr (gateEnded_notified hrun.2) fun p => congrArg (fun j : Judgement => toldIf j.fault .touchFault s.auth p) hj
  · intro c hlow hhigh hb hd hf
    have hj : gateJudged s k n.toNat = _ :=
      judge_present s.settings.threshold (gateTime s k - s.epoch) hd hf (by omega) hb
    by_cases hrec : recorded s k n.toNat
    · refine ⟨_, exec_event hrun rfl, ?_⟩
      rw [gateEnd_recorded hrec]
      refine ⟨gateEnded_chan.trans (congrArg Judgement.chan hj), ?clock, gateEnded_other, rfl, with_raised_none hrun.2,
        fun hnot => absurd ⟨?_, hrec.2⟩ hnot⟩
      case clock =>
        change gateTime s k = _
        split
        next a h => exact gateTime_scan h
        next h => exact gateTime_none h
      have hconfirmed := hrec.1
      rw [hj] at hconfirmed
      exact of_decide_eq_true hconfirmed
    · refine ⟨_, exec_touch_unrecorded hrun hrec, gateEnded_chan.trans (congrArg Judgement.chan hj), ?clock, gateEnded_other, rfl,
        with_raised_none hrun.2, fun _ => ⟨rfl, rfl, ?_⟩⟩
      case clock =>
        change gateTime s k = _
        split
        next a h => exact gateTime_scan h
        next h => exact gateTime_none h
      exact notified_congr (gateEnded_notified hrun.2) fun p => congrArg (fun j : Judgement => toldIf j.fault .touchFault s.auth p) hj

/-! ### A recorded press (O44) -/

/-- The door of an assignment and its mark. -/
theorem assignment_fields {a : Assignment} {wheelchair : Bool} {d : Nat} (h : a = if wheelchair then .wheelchair d else .door d) :
    doorFlag a = addFlag 0 (d - 1) ∧ a.isWheelchair = wheelchair := by
  subst h
  cases wheelchair <;> exact ⟨rfl, rfl⟩

theorem or_addFlag_zero {n : Nat} (x : BitVec n) (i : Nat) : x ||| addFlag 0 i = addFlag x i := by
  simp [addFlag]

theorem addFlag_present {n : Nat} {x : BitVec n} {i : Nat} (hi : i < n) (h : hasFlag x i = true) : addFlag x i = x := by
  apply BitVec.eq_of_getLsbD_eq
  intro j _
  refine (hasFlag_addFlag x hi j).trans ?_
  by_cases hj : i = j
  · subst hj
    rw [h, Bool.true_or]
    exact h.symm
  · rw [decide_eq_false hj, Bool.or_false]
    rfl

theorem addFlag_ne_decide {n : Nat} (x : BitVec n) {i : Nat} (hi : i < n) : decide (addFlag x i ≠ x) = !hasFlag x i := by
  cases h : hasFlag x i with
  | true => simp [addFlag_present hi h]
  | false =>
    refine decide_eq_true fun heq => ?_
    have hflag := hasFlag_addFlag x hi i
    rw [heq, h] at hflag
    simp at hflag

/-- The third deep count of a pressing channel (R130). -/
theorem rangeLeaves_confirmed {c : TouchRec} {b n th : Nat} (time : Nat) (hst : c.state = .pressing) (hc : 2 ≤ c.confirm)
    (hd : (th : Int) ≤ depthOf b n) :
    rangeLeaves c b n th time =
      ({ c with state := .pressed, count := some n, voidRun := 0, confirm := 0, pressedAt := some time }, false) := by
  simp [rangeLeaves, hst, not_lt.mpr hd, show ¬c.confirm ≤ 1 by omega]

/-- Settles O44: a confirmed press in a running section with DCL high. -/
theorem confirmedPressRecorded : Obligations.ConfirmedPressRecorded := by
  intro s k n b d wheelchair hrun c r hlow hhigh hb hst hconfirm hdeep hsect hdcl hd1 hd6 hassigned
  obtain ⟨hdoor, hmark⟩ := assignment_fields hassigned
  have hj : gateJudged s k n.toNat = _ :=
    judge_present s.settings.threshold (gateTime s k - s.epoch) (by simp [c, hst]) (by simp [c, hst]) (by omega) hb
  have hrec : recorded s k n.toNat := ⟨by rw [hj]; exact decide_eq_true ⟨hst, hconfirm, hdeep⟩, hsect, hdcl⟩
  have hchan : (gateJudged s k n.toNat).chan =
      { c with state := .pressed, count := some n.toNat, voidRun := 0, confirm := 0, pressedAt := some (gateTime s k - s.epoch) } := by
    rw [hj, rangeLeaves_confirmed _ hst hconfirm hdeep]
  have hfault : (gateJudged s k n.toNat).fault = false := by
    rw [hj, rangeLeaves_confirmed _ hst hconfirm hdeep]
  have hrecord : r.confirm (cell s.settings.touch k) s.wheel.odometer (gateTime s k - s.epoch) =
      { first := some (r.first.getD { source := .touch, mark := s.wheel.odometer, time := gateTime s k - s.epoch })
        doors := addFlag r.doors (d - 1), wheelchair := r.wheelchair || wheelchair, presses := min 255 (r.presses + 1)
        chime := r.chime || r.first.isNone } := by
    rw [StopRec.confirm, hdoor, hmark, or_addFlag_zero, StopRec.requested, Option.not_isSome]
    cases r.first <;> rfl
  have hnews : r.news (cell s.settings.touch k) =
      (r.first.isNone || !hasFlag r.doors (d - 1) || (wheelchair && !r.wheelchair)) := by
    rw [StopRec.news, hdoor, hmark, or_addFlag_zero, StopRec.requested, Option.not_isSome, addFlag_ne_decide _ (by omega)]
  refine ⟨_, exec_event hrun rfl, ?_⟩
  rw [gateEnd_recorded hrec]
  refine ⟨hrecord, ?_, ?_, ?_, gateEnded_chan.trans hchan, gateEnded_other, rfl, with_raised_none hrun.2, ?_⟩
  · refine if_congr ?_ rfl rfl
    simp [StopRec.requested, r]
  · exact (Bool.or_eq_true ..).mpr (Or.inl ((congrArg StopRec.requested hrecord).trans rfl))
  · change gateTime s k = _
    split
    next a h => exact gateTime_scan h
    next h => exact gateTime_none h
  · refine notified_of rfl fun p => ?_
    rw [← noticesFor_kindIf, ← hnews]
    refine congrArg (noticesFor s.auth · p) ?_
    change s.raised ||| kindIf (gateJudged s k n.toNat).fault .touchFault ||| _ = _
    rw [hfault, show s.raised = 0#20 from hrun.2, kindIf_false, BitVec.zero_or, BitVec.zero_or]

end Sys2Proof.Proofs
end

/-! ## Proofs: the traction cycle, the touch scan and the bytes of a poll (R71 to R73, R128) -/

section
/-! The obligation of cycles and scans (O45). -/

namespace Sys2Proof.Proofs

open Sys2Proof Sys2Proof.Machine

/-- The time at which what recurs 20 ms after the one before is due (R71, R128). -/
def dueAgain (last : Option Nat) (now : Nat) : Nat := max now ((last.map fun t => t + 20).getD now)

theorem dueAgain_some {last : Option Nat} {a now : Nat} (h : last = some a) : dueAgain last now = max now (a + 20) := by
  rw [dueAgain, h]
  rfl

theorem dueAgain_none {last : Option Nat} {now : Nat} (h : last = none) : dueAgain last now = now := by
  rw [dueAgain, h]
  exact Nat.max_self _

theorem exec_touchScanStart {s : State} (hrun : Running s) :
    exec .touchScanStart s =
      .next { s with now := dueAgain s.stop.scanAt s.now, stop := { s.stop with scanAt := some (dueAgain s.stop.scanAt s.now) } } :=
  exec_event_quiet hrun rfl rfl hrun.2

theorem exec_tlinkCycleStart {s : State} (hrun : Running s) :
    exec .tlinkCycleStart s =
      .next { s with
        now := dueAgain s.tlink.cycleAt s.now
        tlink := s.tlink.startCycle (dueAgain s.tlink.cycleAt s.now) } :=
  exec_event_quiet hrun rfl rfl hrun.2

/-- The last byte of a traction unit's command, its parts in their bits (R72). -/
theorem tu_flags_byte (c : TuCommand) (h : c.count ≤ 15) :
    ((vdirBits c.direction ++ BitVec.ofBool c.brake) ++ BitVec.ofBool c.emergency) ++ BitVec.ofNat 4 c.count =
      BitVec.ofNat 8 (64 * c.direction.code + 32 * c.brake.toNat + 16 * c.emergency.toNat + c.count) := by
  have hdir : (vdirBits c.direction).toNat = c.direction.code := by cases c.direction <;> rfl
  have hcode : c.direction.code ≤ 2 := by cases c.direction <;> decide
  have hb := Bool.toNat_le c.brake
  have he := Bool.toNat_le c.emergency
  apply BitVec.eq_of_toNat_eq
  rw [toNat_append_eq, toNat_append_eq, toNat_append_eq, BitVec.toNat_ofBool, BitVec.toNat_ofBool, BitVec.toNat_ofNat,
    BitVec.toNat_ofNat, hdir]
  omega

/-- The last byte of BRK's command (R73). -/
theorem brk_flags_byte (c : BrkCommand) :
    (BitVec.ofBool c.brake ++ BitVec.ofBool c.emergency) ++ 0#6 = BitVec.ofNat 8 (128 * c.brake.toNat + 64 * c.emergency.toNat) := by
  cases c.brake <;> cases c.emergency <;> rfl

theorem bytesOf16_ofNat (n : Nat) : bytesOf16 (BitVec.ofNat 16 n) = [BitVec.ofNat 8 (n / 256), BitVec.ofNat 8 n] := by
  have hhigh : (BitVec.ofNat 16 n).extractLsb' 8 8 = BitVec.ofNat 8 (n / 256) := by
    apply BitVec.eq_of_toNat_eq
    rw [BitVec.extractLsb'_toNat, BitVec.toNat_ofNat, BitVec.toNat_ofNat, Nat.shiftRight_eq_div_pow]
    omega
  have hlow : (BitVec.ofNat 16 n).extractLsb' 0 8 = BitVec.ofNat 8 n := by
    apply BitVec.eq_of_toNat_eq
    rw [BitVec.extractLsb'_toNat, BitVec.toNat_ofNat, BitVec.toNat_ofNat, Nat.shiftRight_zero]
    omega
  rw [bytesOf16, hhigh, hlow]

/-- Settles O45: the starts of a cycle and of a scan, and the bytes of a poll. -/
theorem cyclesAndScansBegin : Obligations.CyclesAndScansBegin := by
  refine ⟨fun s hrun => ?_, fun s hrun => ?_, fun c second _ _ hcount => ?_, fun c _ => ?_⟩
  · intro n h
    refine ⟨_, exec_tlinkCycleStart hrun, ?_, rfl, rfl⟩
    change dueAgain s.tlink.cycleAt s.now = _
    split
    next a ha => exact dueAgain_some ha
    next ha => exact dueAgain_none ha
  · rw [exec_touchScanStart hrun]
    cases hscan : s.stop.scanAt with
    | none => rw [dueAgain_none rfl]
    | some a => rw [dueAgain_some rfl]
  · cases second <;> exact congrArg (fun x => close8 (_ ++ [x])) (tu_flags_byte c hcount)
  · intro body
    change close8 ([address .brk] ++ bytesOf16 (BitVec.ofNat 16 c.demand) ++ [_]) = close8 body
    rw [bytesOf16_ofNat, brk_flags_byte]
    rfl

end Sys2Proof.Proofs
end

/-! ## Proofs: the resets and the supply (12.1 to 12.3) -/

section
/-! SUPPORT. What a reset leaves, and what a held die does not do. -/

namespace Sys2Proof.Proofs

open Sys2Proof Sys2Proof.Machine

/-- The hazard request of the reset's end starts P6 (R96). -/
theorem silent_place (now : Nat) : SoundRec.silent.place now .hazard = SoundRec.reset now := rfl

theorem startSources_eq (l : Lines) (now : Nat) :
    startSources l = (ShaperRec.reset now).sources ||| (if l.emstopA then addFlag 0 EmSource.emstopA.idx else 0) |||
      if l.emstopB then addFlag 0 EmSource.emstopB.idx else 0 := by
  have hstartup : addFlag 0 EmSource.startup.idx = 0x40#8 := by decide
  unfold startSources
  rw [hstartup]
  rfl

/-- A reset's end leaves the blocks at their reset values with the lines as sampled (R178). -/
theorem endReset_eq (s : State) (sel : SelLow) :
    s.endReset sel = afterReset s s.lines sel s.supply.causes s.supply.latest := by
  unfold afterReset
  rw [← silent_place, startSources_eq s.lines s.now]
  rfl

/-- A frame's command is taken by its port, or the port's release ends with it. -/
theorem exec_frame_taking {i : Instr} {p : Port} {c : Byte} {q : Params} (h : encodeCommand i = some (p, c, q)) :
    ∃ f : State → State, ∀ s, exec i s = .next (s.taking p f) := by
  cases i with
  | nop | getNotices | getStatus | demand | deskClaim | deskRelease | vigilReset | vacate | routeOverride | junctionRepeat
  | getJunction | stopSet | stopCancel | getStopRecord | touchRead | diagSummary | diagChannel | outputTest | setLineLimit
  | setRunNumber | settingWrite | settingRead | patternHeader | patternStep | tableWrite | tableDelete | tableRead
  | tableSignature | planAppend | planClear | planRead | resetCause | unknownCommand =>
    obtain ⟨rfl, _, _⟩ := command_of h
    exact ⟨_, fun _ => rfl⟩
  | _ => exact absurd h (by simp [encodeCommand])

theorem taking_held {s : State} (p : Port) (f : State → State) (h : s.held = true) : s.taking p f = s := if_pos h

theorem event_held {s : State} (f : State → State) (h : s.held = true) : s.event f = s := if_pos h

/-- A held die takes no frame and does none of the listed events (R178, log 11). -/
theorem exec_held (i : Instr) (s : State) (h : s.held = true)
    (hi : (∃ p code q, encodeCommand i = some (p, code, q)) ∨ (∃ a o, i = .driveFrame a o) ∨ i = .tlinkCycleStart ∨
      (∃ id, i = .requestBeacon id) ∨ i = .shaperPeriod ∨ i = .windowEnd) : exec i s = .next s := by
  obtain ⟨p, code, q, hframe⟩ | ⟨a, o, rfl⟩ | rfl | ⟨id, rfl⟩ | rfl | rfl := hi
  · obtain ⟨f, hf⟩ := exec_frame_taking hframe
    rw [hf, taking_held p f h]
  all_goals exact congrArg Host.Outcome.next (event_held _ h)

end Sys2Proof.Proofs
end

section
/-! The obligation of the resets and the supply (O12). -/

namespace Sys2Proof.Proofs

open Sys2Proof Sys2Proof.Machine

section
variable {s : State} (hheld : s.held = false)
include hheld

/-- SUPPLY_LOW resets the blocks and holds the die (R178). -/
theorem enterSupplyLow_eq :
    s.enterSupplyLow = { s.resetBlocks with
      held := true, supply := { s.resetBlocks.supply.note .supplyLow with lowRun := 8 } } :=
  if_neg (by simp [hheld])

end

theorem startSources_has (l : Lines) :
    let r : ShaperRec := { ShaperRec.reset 0 with sources := startSources l }
    r.has .startup = true ∧ r.has .emstopA = l.emstopA ∧ r.has .emstopB = l.emstopB := by
  unfold startSources
  cases l.emstopA <;> cases l.emstopB <;> decide

theorem batteryLevel_eq (n : Nat) : batteryLevel n = ([18000, 19500, 21000] : List Nat).getD n 21000 := by
  unfold batteryLevel
  match n with
  | 0 => rfl
  | 1 => rfl
  | n + 2 => cases n <;> simp

theorem battery_sets (b : Bool) (p : Prop) [Decidable p] : (!b && decide p) = decide (p ∧ b = false) := by
  cases b <;> simp

/-- The flag by its two runs (R181). -/
theorem battery_flag (b : Bool) (p q : Prop) [Decidable p] [Decidable q] :
    ((b || !b && decide p) && !(b && decide q)) = if p ∧ b = false then true else if q ∧ b = true then false else b := by
  cases b <;> by_cases hp : p <;> by_cases hq : q <;> simp [hp, hq]

theorem exec_powerOnReset (l : Lines) (sel : SelLow) (s : State) :
    exec (.powerOnReset l sel) s = .next (afterReset s l sel (addFlag 0 ResetKind.powerOn.idx) .powerOn) :=
  congrArg Host.Outcome.next (endReset_eq ..)

section
variable {s : State} (hheld : s.held = false)
include hheld

/-- The rising edge of RESETn by the latch (R179). -/
theorem exec_resetnRise_armed (sel : SelLow) (h : s.supply.latch = .armed) :
    exec (.resetnRise sel) s =
      .next (afterReset s { s.lines with resetnLow := false } sel (addFlag s.supply.causes ResetKind.pin.idx) .pin) := by
  have hrise : s.resetRise sel = State.pinReset sel { s with lines := { s.lines with resetnLow := false } } := by
    unfold State.resetRise
    simp [hheld, h]
  exact (congrArg Host.Outcome.next (hrise.trans (endReset_eq ..)) :)

theorem exec_resetnRise_timing (sel : SelLow) (h : s.supply.latch = .timing) :
    exec (.resetnRise sel) s =
      .next { s with lines := { s.lines with resetnLow := false }, supply := { s.supply with latch := .idle } } := by
  have hrise : s.resetRise sel =
      { s with lines := { s.lines with resetnLow := false }, supply := { s.supply with latch := .idle } } := by
    unfold State.resetRise
    simp [hheld, h]
  exact (congrArg Host.Outcome.next hrise :)

theorem exec_resetnFall_idle (h : s.supply.latch = .idle) :
    exec .resetnFall s = .next { s with lines := { s.lines with resetnLow := true }, supply := { s.supply with latch := .timing } } := by
  have hfall : s.resetFall = { s with lines := { s.lines with resetnLow := true }, supply := { s.supply with latch := .timing } } := by
    unfold State.resetFall
    simp [hheld, h]
  exact (congrArg Host.Outcome.next hfall :)

theorem exec_pinLatchArmed_timing (h : s.supply.latch = .timing) :
    exec .pinLatchArmed s = .next { s with supply := { s.supply with latch := .armed } } := by
  have harm : s.latchArmed = { s with supply := { s.supply with latch := .armed } } := by
    unfold State.latchArmed
    simp [hheld, h]
  exact (congrArg Host.Outcome.next harm :)

/-- A sample at or above the threshold clears the run; a low one counts, to the reset at the eighth (R178). -/
theorem coreSample_good (sel : SelLow) :
    s.coreSample false sel =
      { s with
        now := max s.now (s.supply.coreAt + 1)
        supply := { s.supply with lowRun := 0, coreAt := max s.now (s.supply.coreAt + 1) } } := by
  unfold State.coreSample
  simp [State.reach, hheld]

omit hheld in
theorem coreSample_low (sel : SelLow) (h : s.supply.lowRun < 7) :
    s.coreSample true sel =
      { s with
        now := max s.now (s.supply.coreAt + 1)
        supply := { s.supply with lowRun := s.supply.lowRun + 1, coreAt := max s.now (s.supply.coreAt + 1) } } := by
  have hrun : min 8 (s.supply.lowRun + 1) = s.supply.lowRun + 1 := by omega
  have hne : s.supply.lowRun + 1 ≠ 8 := by omega
  unfold State.coreSample
  simp only [State.reach, hrun, if_neg hne, if_true]

omit hheld in
theorem coreSample_eighth (sel : SelLow) (h : s.supply.lowRun = 7) :
    s.coreSample true sel =
      State.enterSupplyLow { s with
        now := max s.now (s.supply.coreAt + 1)
        supply := { s.supply with lowRun := 8, coreAt := max s.now (s.supply.coreAt + 1) } } := by
  have hrun : min 8 (s.supply.lowRun + 1) = 8 := by omega
  unfold State.coreSample
  simp only [State.reach, hrun, if_true]

omit hheld in
/-- The first good sample ends the reset of a held die. -/
theorem coreSample_ends (sel : SelLow) (h : s.held = true) :
    s.coreSample false sel =
      afterReset { s with now := max s.now (s.supply.coreAt + 1) } s.lines sel s.supply.causes s.supply.latest := by
  unfold State.coreSample
  simp only [State.reach, h, if_true, Bool.false_eq_true, if_false]
  exact endReset_eq ..

end

/-- Settles O12: the three resets, the core samples, the pin latch and battery sense. -/
theorem resetsAndSupply : Obligations.ResetsAndSupply := by
  refine ⟨⟨exec_powerOnReset, fun sel s hheld => exec_resetnRise_armed hheld sel, fun s hheld => ?_, fun l sel s => ⟨rfl, rfl, ?_, ?_⟩⟩,
    ⟨fun low sel s hheld => ?_, exec_held⟩, fun s hheld => ⟨exec_resetnFall_idle hheld, exec_pinLatchArmed_timing hheld,
      exec_resetnRise_timing hheld, fun sel h => ⟨_, exec_resetnRise_armed hheld sel h, ?_⟩, fun sel => rfl⟩, fun mv s hrun => ?_⟩
  · refine ⟨_, congrArg Host.Outcome.next (enterSupplyLow_eq hheld), rfl, rfl, rfl, rfl, rfl, rfl, fun sel => ?_⟩
    exact congrArg Host.Outcome.next (coreSample_ends sel rfl)
  · exact (startSources_has l).1
  · exact Prod.ext (startSources_has l).2.1 (startSources_has l).2.2
  · intro due
    refine ⟨fun h => ?_, fun h hrun => ?_, fun h hrun => ?_⟩
    · subst h
      exact congrArg Host.Outcome.next (coreSample_good hheld sel)
    · subst h
      exact congrArg Host.Outcome.next (coreSample_low sel hrun)
    · subst h
      refine ⟨_, congrArg Host.Outcome.next ((coreSample_eighth sel hrun).trans (enterSupplyLow_eq hheld)), rfl, rfl, rfl, rfl,
        rfl, rfl⟩
  · exact ⟨rfl, rfl, rfl, rfl⟩
  · intro level low high sets clears
    have hlow : (s.supply.batRuns (batteryLevel s.settings.battery) mv).batLow = low := by
      rw [batteryLevel_eq]
      rfl
    have hhigh : (s.supply.batRuns (batteryLevel s.settings.battery) mv).batHigh = high := by
      rw [batteryLevel_eq]
      rfl
    have hleaves : s.batterySample mv = { s with
        now := max s.now (s.supply.batAt + 10)
        supply := { s.supply with
          batLow := low, batHigh := high
          batteryLow := (s.supply.batteryLow || !s.supply.batteryLow && decide (low = 12)) && !(s.supply.batteryLow && decide (high = 12))
          batAt := max s.now (s.supply.batAt + 10) }
        raised := s.raised ||| kindIf (decide sets) .batteryLow } := by
      rw [← battery_sets, ← ite_addFlag_eq_or, ← hlow, ← hhigh]
      rfl
    refine ⟨_, exec_event hrun rfl, ?_⟩
    rw [hleaves]
    refine ⟨rfl, rfl, battery_flag .., ?_, rfl, rfl, rfl, with_raised_none hrun.2⟩
    refine notified_of rfl fun p => ?_
    change noticesFor s.auth (s.raised ||| kindIf (decide sets) .batteryLow) p = _
    rw [show s.raised = 0#20 from hrun.2, BitVec.zero_or, noticesFor_kindIf, toldIf_batteryLow]
    exact if_congr decide_eq_true_iff rfl rfl

end Sys2Proof.Proofs
end

/-! ## Proofs: the settings (R127, R182 to R184) -/

section
/-! SUPPORT. A settings field and its range, and what a write of one leaves. -/

namespace Sys2Proof.Proofs

open Sys2Proof Sys2Proof.Machine

theorem settingRange_eq : ∀ n : Nat, settingRange n = ((settingRow n).1, (settingRow n).2.1)
  | 0 | 1 | 2 | 3 | 4 | 5 | 6 | 7 | 8 | _ + 9 => rfl

theorem settingWidth_eq : ∀ n : Nat, settingWidth n = (settingRow n).2.2
  | 0 | 1 | 2 | 3 | 4 | 5 | 6 | 7 | 8 | _ + 9 => rfl

theorem look_eq (r : SettingsRec) : ∀ n : Nat, r.look n = settingOf r n
  | 0 | 1 | 2 | 3 | 4 | 5 | 6 | 7 | 8 | _ + 9 => rfl

/-- The bits of a field hold its range, which is not empty, within the 40 bits of a reply. -/
theorem settingRow_fits : ∀ n : Nat,
    (settingRow n).1 ≤ (settingRow n).2.1 ∧ (settingRow n).2.1 < 2 ^ (settingRow n).2.2 ∧ (settingRow n).2.2 ≤ 40
  | 0 | 1 | 2 | 3 | 4 | 5 | 6 | 7 | 8 => by decide
  | _ + 9 => show 0 ≤ 2 ∧ 2 < 2 ^ 2 ∧ 2 ≤ 40 by decide

theorem clampTo_le {lo hi : Nat} (h : lo ≤ hi) (x : Nat) : clampTo lo hi x ≤ hi := by
  unfold clampTo
  omega

/-- One field at the top of a reply's data. -/
theorem packData_one {w x : Nat} (hw : w ≤ 40) (hx : x < 2 ^ w) : packData [(w, x)] = BitVec.ofNat 40 (x * 2 ^ (40 - w)) := by
  rw [packData, packInto, if_pos hw, packInto, Nat.add_zero, Nat.mod_eq_of_lt hx]

/-- A field but the touch assignment is written alone (R183). -/
theorem settingOf_put (r : SettingsRec) {n m : Nat} (x : Nat) (hn : n ≤ 10) (hm : m ≤ 10) (hn9 : n ≠ 9) (hm9 : m ≠ 9) :
    settingOf (r.put n x) m = if m = n then x else settingOf r m := by
  interval_cases n <;> first | contradiction | (interval_cases m <;> first | contradiction | rfl)

theorem put_touch (r : SettingsRec) (n x : Nat) : (r.put n x).touch = r.touch := by
  unfold SettingsRec.put
  split <;> rfl

theorem writeSetting_eq (s : State) (n v : Nat) : s.writeSetting n v = settingWritten s n v := by
  unfold State.writeSetting settingWritten clampTo
  rw [settingRange_eq]

/-- The reply to a taken write, and to a reading: the field as stored (R183). -/
theorem settingData_eq (n v : Nat) :
    let x := max (settingRow n).1 (min (settingRow n).2.1 v)
    packData [(settingWidth n, x)] = BitVec.ofNat 40 (x * 2 ^ (40 - (settingRow n).2.2)) := by
  obtain ⟨hle, hlt, h40⟩ := settingRow_fits n
  rw [settingWidth_eq]
  exact packData_one h40 (lt_of_le_of_lt (clampTo_le hle v) hlt)

theorem settingOut_iff (n k : Nat) : settingOut n k = true ↔ 10 < n ∨ (n = 9 ∧ 15 < k) := by
  simp [settingOut]

theorem restricted_iff (n : Nat) : restricted n = true ↔ n ∈ [2, 3, 4] := by
  simp [restricted, or_assoc]

section
variable {s : State} (n v k : Nat) (code : Byte) (hquiet : s.raised = 0)
include hquiet

theorem conclude_setting_out (h : 10 < n ∨ (n = 9 ∧ 15 < k)) :
    State.conclude .V code (s.settingRule n v k) = s.refuse .V code .outOfRange := by
  rw [State.settingRule, if_pos ((settingOut_iff n k).mpr h), State.conclude_refusal hquiet]

/-- A write of a field but the touch assignment, in the order of its tests (R183). -/
theorem conclude_setting (h : n ≤ 10) (h9 : n ≠ 9) :
    State.conclude .V code (s.settingRule n v k) =
      if n ∈ [2, 3, 4] ∧ s.auth ≠ .vacant then s.refuse .V code .notVacant
      else if n ∈ [2, 3, 4] ∧ s.wheel.stationary = false then s.refuse .V code .moving
      else (settingWritten s n v).reply .V (settingReply code n v) := by
  have hin : ¬settingOut n k = true := fun e => by
    obtain h10 | ⟨e9, _⟩ := (settingOut_iff n k).mp e
    · omega
    · exact h9 e9
  have hvacant : (restricted n && !s.auth.isVacant) = true ↔ n ∈ [2, 3, 4] ∧ s.auth ≠ .vacant := by
    rw [Bool.and_eq_true, restricted_iff]
    cases s.auth <;> simp [Auth.isVacant]
  have hmoving : (restricted n && !s.wheel.stationary) = true ↔ n ∈ [2, 3, 4] ∧ s.wheel.stationary = false := by
    rw [Bool.and_eq_true, restricted_iff, Bool.not_eq_true']
  rw [State.settingRule, if_neg hin, if_neg h9]
  by_cases hv : n ∈ [2, 3, 4] ∧ s.auth ≠ .vacant
  · rw [if_pos (hvacant.mpr hv), if_pos hv, State.conclude_refusal hquiet]
  rw [if_neg fun e => hv (hvacant.mp e), if_neg hv]
  by_cases hm : n ∈ [2, 3, 4] ∧ s.wheel.stationary = false
  · rw [if_pos (hmoving.mpr hm), if_pos hm, State.conclude_refusal hquiet]
  rw [if_neg fun e => hm (hmoving.mp e), if_neg hm, writeSetting_eq]
  have hlook : (settingWritten s n v).settings.look n = max (settingRow n).1 (min (settingRow n).2.1 v) := by
    rw [look_eq, settingWritten, settingOf_put _ _ h h h9 h9, if_pos rfl]
  have hfields : (settingWritten s n v).settings.fields n k = [(settingWidth n, max (settingRow n).1 (min (settingRow n).2.1 v))] := by
    rw [SettingsRec.fields, if_neg h9, hlook]
  change State.conclude .V code (settingWritten s n v, Answer.taken (decide ((settingWritten s n v).settings.look n ≠ v))
    (packData ((settingWritten s n v).settings.fields n k))) = _
  rw [hfields, hlook, settingData_eq]
  refine (State.conclude_quiet hquiet).trans (congrArg (fun a : Status => (settingWritten s n v).reply .V
    { status := a, code := code, data := _ }) ?_)
  by_cases hx : max (settingRow n).1 (min (settingRow n).2.1 v) = v <;> simp [hx, Answer.taken]

end

/-! ### A touch assignment (R127, R183) -/

theorem value_bytes (v : BitVec 16) : (hiByte v).toNat = v.toNat / 256 ∧ (loByte v).toNat = v.toNat % 256 := by
  have hv := v.isLt
  unfold hiByte loByte
  rw [BitVec.extractLsb'_toNat, BitVec.extractLsb'_toNat, Nat.shiftRight_eq_div_pow, Nat.shiftRight_zero]
  omega

/-- The assignment that a kind code of at most 2 and a door name. -/
def assigned (kind door : Nat) : Assignment :=
  if kind = 0 then .disabled else if kind = 1 then .door (clampTo 1 6 door) else .wheelchair (clampTo 1 6 door)

theorem assignmentOf_some {v : Nat} (h : v / 256 ≤ 2) : assignmentOf v = some (assigned (v / 256) (v % 256)) := by
  unfold assignmentOf
  generalize v / 256 = n at h
  interval_cases n <;> rfl

theorem assignmentOf_none {v : Nat} (h : 2 < v / 256) : assignmentOf v = none := by
  unfold assignmentOf
  obtain ⟨m, hm⟩ : ∃ m, v / 256 = m + 3 := ⟨v / 256 - 3, by omega⟩
  rw [hm]
  rfl

/-- A kind and a door at the top of a reply's data (R185). -/
theorem packData_assignment {kind door : Nat} (hk : kind < 4) (hd : door < 8) :
    packData [(2, kind), (3, door)] = BitVec.ofNat 40 ((kind * 8 + door) * 2 ^ 35) := by
  have hsum : packInto 40 [(2, kind), (3, door)] = kind * 2 ^ 38 + door * 2 ^ 35 := by
    rw [packInto, if_pos (by decide), packInto, if_pos (by decide), packInto,
      Nat.mod_eq_of_lt (show kind < 2 ^ 2 from hk), Nat.mod_eq_of_lt (show door < 2 ^ 3 from hd), Nat.add_zero]
  have hpow : kind * 2 ^ 38 + door * 2 ^ 35 = (kind * 8 + door) * 2 ^ 35 := by ring
  rw [packData, hsum, hpow]

/-- A touch assignment in a reply (R185). -/
theorem assigned_data (kind door : Nat) (h : kind ≤ 2) :
    packData (assigned kind door).fields =
      BitVec.ofNat 40 (if kind = 0 then 0 else (kind * 8 + clampTo 1 6 door) * 2 ^ 35) := by
  have hd : clampTo 1 6 door < 8 := by unfold clampTo; omega
  by_cases h0 : kind = 0
  · rw [assigned, if_pos h0, if_pos h0]
    exact packData_assignment (kind := 0) (door := 0) (by decide) (by decide)
  rw [assigned, if_neg h0, if_neg h0]
  by_cases h1 : kind = 1
  · rw [if_pos h1, h1]
    exact packData_assignment (by decide) hd
  · rw [if_neg h1, show kind = 2 by omega]
    exact packData_assignment (by decide) hd

theorem reassign_eq (r : TouchRec) (old new : Assignment) :
    r.reassign old new =
      if old = .disabled ∧ new ≠ .disabled then { r with state := .idle }
      else if old ≠ .disabled ∧ new = .disabled then
        { r with state := .disabled, baseline := none, saved := none, confirm := 0, pressedAt := none, voidRun := 0, rangeRun := none }
      else r := by
  by_cases hn : new = .disabled <;> by_cases ho : old = .disabled <;> simp [TouchRec.reassign, hn, ho]

end Sys2Proof.Proofs
end

section
/-! The obligation of the settings (O13). -/

namespace Sys2Proof.Proofs

open Sys2Proof Sys2Proof.Machine

section
variable {s : State} (h : Taking .V s)
include h

theorem exec_settingWrite (n : BitVec 8) (v : BitVec 16) (k : BitVec 8) :
    exec (.settingWrite .V n v k) s = .next (State.conclude .V 0x52 (s.settingRule n.toNat v.toNat k.toNat)) :=
  congrArg Host.Outcome.next (State.command_taken h (f := permitVehicle) rfl rfl)

theorem exec_setLineLimit (v : BitVec 16) :
    exec (.setLineLimit .V v) s = .next (State.conclude .V 0x50 (s.settingRule 5 v.toNat 0)) :=
  congrArg Host.Outcome.next (State.command_taken h (f := permitVehicle) rfl rfl)

theorem exec_setRunNumber (v : BitVec 16) :
    exec (.setRunNumber .V v) s = .next (State.conclude .V 0x51 (s.settingRule 1 v.toNat 0)) :=
  congrArg Host.Outcome.next (State.command_taken h (f := permitVehicle) rfl rfl)

theorem exec_settingRead (n k : BitVec 8) :
    exec (.settingRead .V n k) s = .next (State.conclude .V 0x53 (s, s.settingReadRule n.toNat k.toNat)) :=
  congrArg Host.Outcome.next (State.command_taken h (f := permitVehicle) rfl rfl)

end

/-- A stored field lies in its range (R182). -/
theorem settingOf_in {s : State} (h : SettingsInv s) : ∀ n : Nat,
    (settingRow n).1 ≤ settingOf s.settings n ∧ settingOf s.settings n ≤ (settingRow n).2.1 := by
  obtain ⟨htram, hrun, hcirc, hvigil, hgrace, hline, hlead, hbell, hth, _, hbat⟩ := h
  intro n
  match n with
  | 0 => exact htram
  | 1 => exact ⟨Nat.zero_le _, hrun⟩
  | 2 => exact hcirc
  | 3 => exact hvigil
  | 4 => exact hgrace
  | 5 => exact hline
  | 6 => exact hlead
  | 7 => exact ⟨Nat.zero_le _, hbell⟩
  | 8 => exact hth
  | _ + 9 => exact ⟨Nat.zero_le _, hbat⟩

/-- A reading of a field but the touch assignment (R182). -/
theorem settingRead_field {s : State} (hinv : SettingsInv s) (hquiet : s.raised = 0) {n : Nat} (k : Nat) (hn : n ≤ 10) (h9 : n ≠ 9) :
    State.conclude .V 0x53 (s, s.settingReadRule n k) = s.reply .V (settingReply 0x53 n (settingOf s.settings n)) := by
  obtain ⟨hlo, hhi⟩ := settingOf_in hinv n
  have hx : max (settingRow n).1 (min (settingRow n).2.1 (settingOf s.settings n)) = settingOf s.settings n := by omega
  have hin : ¬settingOut n k = true := by rw [settingOut_iff]; omega
  have hdata := settingData_eq n (settingOf s.settings n)
  rw [State.settingReadRule, if_neg hin, conclude_read .V 0x53 _ hquiet, SettingsRec.fields, if_neg h9, look_eq]
  rw [hx] at hdata
  rw [settingReply, hx, if_pos rfl, ← hdata]
  rfl

/-- A taken write of a touch assignment (R127, R183). -/
theorem conclude_touch {s : State} (hquiet : s.raised = 0) (v : Nat) (c : Fin 16) (hv : v / 256 ≤ 2) :
    let a := assigned (v / 256) (v % 256)
    State.conclude .V 0x52 (s.settingRule 9 v c.val) =
      (s.writeTouch c a).reply .V
        { status := if v / 256 ≠ 0 ∧ clampTo 1 6 (v % 256) ≠ v % 256 then .doneClamped else .done, code := 0x52
          data := BitVec.ofNat 40 (if v / 256 = 0 then 0 else ((v / 256) * 8 + clampTo 1 6 (v % 256)) * 2 ^ 35) } := by
  intro a
  have hin : ¬settingOut 9 c.val = true := by rw [settingOut_iff]; omega
  have hc : Fin.ofNat 16 c.val = c := Fin.ofNat_val_eq_self c
  rw [State.settingRule, if_neg hin, if_pos rfl, assignmentOf_some hv, hc]
  have hstored : cell (s.writeTouch c a).settings.touch c = a := cell_putCell_self ..
  change State.conclude .V 0x52 (s.writeTouch c a, Answer.taken (doorClamped v)
    (packData (if 9 = 9 then (cell (s.writeTouch c a).settings.touch (Fin.ofNat 16 c.val)).fields else _))) = _
  rw [if_pos rfl, hc, hstored, assigned_data _ _ hv]
  refine (State.conclude_quiet hquiet).trans (congrArg (fun x : Status => (s.writeTouch c a).reply .V
    { status := x, code := 0x52, data := _ }) ?_)
  refine if_congr ?_ rfl rfl
  rw [doorClamped, Bool.and_eq_true, decide_eq_true_eq, decide_eq_true_eq]

/-- Settles O13: settings tested, clamped, stored and read back. -/
theorem settingsKept : Obligations.SettingsKept := by
  refine ⟨fun n v k s h => ⟨fun hn => ?_, fun hn h9 => ?_, ?_, ?_⟩,
    ⟨fun n k s h hinv => ⟨fun hout => ?_, fun hn h9 => ?_, fun c hn hk => ?_⟩, fun s n m v hn hm hn9 hm9 => ⟨?_, ?_⟩⟩,
    fun v k c s h hinv => ⟨fun hk => ?_, fun hk => ⟨fun hv => ?_, fun hv => ?_⟩⟩⟩
  · rw [exec_settingWrite h, conclude_setting_out _ _ _ _ h.2.2 (Or.inl hn)]
  · rw [exec_settingWrite h, conclude_setting _ _ _ _ h.2.2 hn h9]
  · rw [exec_setLineLimit h, conclude_setting _ _ _ _ h.2.2 (by decide) (by decide), if_neg (by simp), if_neg (by simp)]
  · rw [exec_setRunNumber h, conclude_setting _ _ _ _ h.2.2 (by decide) (by decide), if_neg (by simp), if_neg (by simp)]
  · rw [exec_settingRead h, State.settingReadRule, if_pos ((settingOut_iff _ _).mpr hout), State.conclude_refusal h.2.2]
  · rw [exec_settingRead h, settingRead_field hinv h.2.2 _ hn h9]
  · obtain ⟨_, _, _, _, _, _, _, _, _, hdoors, _⟩ := hinv
    have hdoor := hdoors c
    have hin : ¬settingOut 9 c.val = true := by rw [settingOut_iff]; omega
    refine ⟨_, ?_, rfl⟩
    rw [exec_settingRead h, hn, hk, State.settingReadRule, if_neg hin, conclude_read .V 0x53 _ h.2.2, SettingsRec.fields, if_pos rfl,
      Fin.ofNat_val_eq_self]
    refine congrArg (fun d => Host.Outcome.next (s.reply .V (doneReply 0x53 d))) ?_
    split
    next hc => rw [hc]; exact packData_assignment (kind := 0) (door := 0) (by decide) (by decide)
    next x hc => rw [hc] at hdoor ⊢; exact packData_assignment (kind := 1) (by decide) (Nat.lt_succ_of_le (hdoor.2.trans (by decide)))
    next x hc => rw [hc] at hdoor ⊢; exact packData_assignment (kind := 2) (by decide) (Nat.lt_succ_of_le (hdoor.2.trans (by decide)))
  · rw [settingWritten, settingOf_put _ _ hn hm hn9 hm9]
  · exact put_touch ..
  · rw [exec_settingWrite h]
    exact congrArg Host.Outcome.next (conclude_setting_out _ _ _ _ h.2.2 (Or.inr ⟨rfl, hk⟩))
  · rw [(value_bytes v).1] at hv
    have hin : ¬settingOut 9 k.toNat = true := by rw [settingOut_iff]; omega
    rw [exec_settingWrite h]
    change Host.Outcome.next (State.conclude .V 0x52 (s.settingRule 9 v.toNat k.toNat)) = _
    rw [State.settingRule, if_neg hin, if_pos rfl, assignmentOf_none hv]
    exact congrArg Host.Outcome.next (State.conclude_refusal h.2.2)
  · rw [(value_bytes v).1] at hv ⊢
    rw [(value_bytes v).2]
    have hexec : exec (.settingWrite .V 9 v k) s = _ :=
      (exec_settingWrite h 9 v k).trans (congrArg Host.Outcome.next (hk ▸ conclude_touch h.2.2 v.toNat c hv))
    refine ⟨_, hexec, ?_⟩
    intro d old new r
    have hnew : assigned (v.toNat / 256) (v.toNat % 256) = new := rfl
    rw [hnew]
    refine ⟨cell_putCell_self .., State.reply_replyOf .., ?_, fun j hj => ⟨cell_putCell_other _ _ hj, cell_putCell_other _ _ hj⟩,
      rfl, rfl, ?_⟩
    · exact (cell_putCell_self ..).trans (reassign_eq r old new)
    · rw [State.reply_replyOf]
      rfl

end Sys2Proof.Proofs
end

/-! ## Proofs: beacons, reports and the timers of the loop (10.3, 10.4, 13.3) -/

section
/-! The obligation of a REQUEST beacon (O48). -/

namespace Sys2Proof.Proofs

open Sys2Proof Sys2Proof.Machine

/-- The state once a beacon is heard (R150). -/
def onLoop (s : State) : State := { s with junct := heard s }

/-- A telegram whose fields lie in their ranges is taken (R187). -/
theorem telegram_taken {id routeSet : Nat} (f : State → State) (s : State) (hlo : 1 ≤ id) (hhi : id ≤ 4095) (hr : routeSet ≤ 4) :
    s.telegram id routeSet f = f s := if_pos (decide_eq_true ⟨hlo, hhi, hr⟩)

/-! ### The route of a new transaction (R154) -/

section
variable (e : Entry) (plan : List PlanEntry) (ov : Option Nat)

/-- The pending override is used for the junction. -/
def overrideUsed : Bool := ov.any fun r => e.override && decide (r ≤ e.routes)

/-- The plan's head is an entry for the junction. -/
def headMatches : Bool := plan.head?.any fun q => decide (q.id = e.id)

theorem planAfter_eq : planAfter e plan = if headMatches e plan then plan.tail else plan := by
  cases plan with
  | nil => rfl
  | cons h rest => by_cases hid : h.id = e.id <;> simp [planAfter, headMatches, hid]

/-- Without an override that is used, the plan's head decides, else the default (R154). -/
theorem choosePlanned_eq (ignored : Bool) :
    choosePlanned e plan ignored =
      { route := if headMatches e plan then (plan.head?.map PlanEntry.route).getD 0 else e.defaultRoute
        source := if headMatches e plan then .plan else .default
        plan := if headMatches e plan then plan.tail else plan
        ignored := ignored, mismatch := !headMatches e plan && !plan.isEmpty } := by
  cases plan with
  | nil => rfl
  | cons h rest => by_cases hid : h.id = e.id <;> simp [choosePlanned, headMatches, hid]

theorem chooseRoute_eq :
    chooseRoute e plan ov =
      { route := if overrideUsed e ov then ov.getD 0
          else if headMatches e plan then (plan.head?.map PlanEntry.route).getD 0 else e.defaultRoute
        source := if overrideUsed e ov then .override else if headMatches e plan then .plan else .default
        plan := if headMatches e plan then plan.tail else plan
        ignored := ov.isSome && !overrideUsed e ov
        mismatch := !overrideUsed e ov && !headMatches e plan && !plan.isEmpty } := by
  cases ov with
  | none => simp [chooseRoute, choosePlanned_eq, overrideUsed]
  | some r =>
    by_cases hused : (e.override && decide (r ≤ e.routes)) = true
    · simp [chooseRoute, hused, overrideUsed, planAfter_eq]
    · simp [chooseRoute, hused, overrideUsed, choosePlanned_eq]

end

/-! ### A REQUEST beacon -/

section
variable {s : State} {id : BitVec 16} (hrun : Running s) (hlo : 1 ≤ id.toNat) (hhi : id.toNat ≤ 4095)
include hrun hlo hhi

theorem exec_requestBeacon : exec (.requestBeacon id) s = .next (s.requestBeacon id.toNat).deliver := by
  rw [exec_event hrun rfl, telegram_taken _ _ hlo hhi (by decide)]

theorem exec_beacon_heard (h : (s.auth.isHeld = false ∨ s.auth.direction = .neutral) ∨ (s.junct.live id.toNat).isSome = true) :
    exec (.requestBeacon id) s = .next (onLoop s) := by
  have hheard : s.requestBeacon id.toNat = onLoop s := by
    by_cases hidle : s.auth.isHeld = false ∨ s.auth.direction = .neutral
    · exact if_pos hidle
    · exact (if_neg hidle).trans (if_pos (h.resolve_left hidle))
  rw [exec_requestBeacon hrun hlo hhi, hheard, State.deliver_quiet (s := onLoop s) hrun.2]

omit hrun hlo hhi in
/-- A beacon of a junction without a live transaction, in HELD with a direction (R153). -/
theorem requestBeacon_judged (hidle : ¬(s.auth.isHeld = false ∨ s.auth.direction = .neutral)) {j : Nat}
    (hlive : s.junct.live j = none) :
    (s.junct.entry j = none → s.requestBeacon j = (onLoop s).raise .junctionUnknown) ∧
      ∀ e, s.junct.entry j = some e → s.requestBeacon j =
        if 4 ≤ s.junct.list.length then
          { (onLoop s).raise .junctionOverflow with junct := { heard s with overflow := true } }
        else (onLoop s).createTrans e := by
  have hlive' : (s.junct.beacon s.now).live j = none := hlive
  constructor
  · intro he
    have he' : (s.junct.beacon s.now).entry j = none := he
    unfold State.requestBeacon
    simp only [if_neg hidle, hlive', he']
    rfl
  · intro e he
    have he' : (s.junct.beacon s.now).entry j = some e := he
    unfold State.requestBeacon
    simp only [if_neg hidle, hlive', he']
    rfl

end

/-- The marks and telegram of a new transaction, written out (R152, R155). -/
theorem createTrans_eq (s : State) (e : Entry) :
    let uses := overrideUsed e s.junct.pendingOverride
    let head := headMatches e s.junct.plan
    let route := if uses then s.junct.pendingOverride.getD 0
      else if head then (s.junct.plan.head?.map PlanEntry.route).getD 0 else e.defaultRoute
    (onLoop s).createTrans e = { s with
      raised := s.raised ||| only .junctionChanged ||| kindIf (s.junct.pendingOverride.isSome && !uses) .overrideIgnored |||
        kindIf (!uses && !head && !s.junct.plan.isEmpty) .planMismatch
      junct := { heard s with
        list := s.junct.list ++ [
          { id := e.id, route := route, source := if uses then .override else if head then .plan else .default
            seq := s.junct.seq + 1, state := .requesting, tries := 1
            timer := some (s.now + 400), requestMark := s.wheel.odometer
            cautionMark := markAfter s.wheel.odometer (e.points - s.settings.cautionLead)
            clearMark := markAfter s.wheel.odometer (e.points + e.clear), last := none }]
        plan := if head then s.junct.plan.tail else s.junct.plan, pendingOverride := none, seq := s.junct.seq + 1
        outbox := s.junct.outbox ++ [.request e.id route s.settings.tram s.settings.run s.auth.vdir (s.junct.seq + 1)] } } := by
  intro uses head route
  have hchoice := chooseRoute_eq e s.junct.plan s.junct.pendingOverride
  rw [← ite_addFlag_eq_or, ← ite_addFlag_eq_or, ← addFlag_eq_or_only]
  change State.createTrans e (onLoop s) = _
  unfold State.createTrans
  rw [show chooseRoute e (onLoop s).junct.plan (onLoop s).junct.pendingOverride = _ from hchoice]
  rfl

theorem noticesFor_raise {s : State} (hquiet : s.raised = 0) (k : Notice) (a : Auth) (p : Port) :
    noticesFor a (addFlag s.raised k.idx) p = toldIf true k a p := by
  rw [addFlag_eq_or_only, show s.raised = 0#20 from hquiet, BitVec.zero_or, ← kindIf_true, noticesFor_kindIf]

/-! ### The bytes of the tram's telegrams (13.3) -/

theorem request_flags (dir : VDir) (seq : BitVec 3) :
    (vdirBits dir ++ 0#3) ++ seq = BitVec.ofNat 8 (64 * dir.code + seq.toNat) := by
  revert seq
  cases dir <;> decide

theorem cancel_flags : ∀ seq : BitVec 3, seq.setWidth 8 = BitVec.ofNat 8 seq.toNat := by
  decide

theorem close16_eq (body : List Byte) :
    close16 body = body ++ [BitVec.ofNat 8 ((crc16 body).toNat / 256), BitVec.ofNat 8 (crc16 body).toNat] := by
  rw [close16, ← bytesOf16_ofNat, BitVec.ofNat_toNat, BitVec.setWidth_eq]

/-- Settles O48: a REQUEST beacon, the creation of a transaction, and the bytes of its telegrams. -/
theorem beaconsCreateTransactions : Obligations.BeaconsCreateTransactions := by
  refine ⟨fun s id hrun hlo hhi => ?_, fun s id e hrun hlo hhi hheld hdir hlive he hroom => ?_,
    fun id route tram run dir seq _ _ _ _ => ?_⟩
  · intro j idle
    refine ⟨exec_beacon_heard hrun hlo hhi, fun hidle hlive he => ?_, fun e hidle hlive he hfull => ?_⟩
    · refine ⟨_, exec_requestBeacon hrun hlo hhi, ?_⟩
      rw [(requestBeacon_judged hidle hlive).1 he]
      exact ⟨rfl, notified_of rfl fun p => noticesFor_raise hrun.2 _ _ p, with_raised_none hrun.2⟩
    · refine ⟨_, exec_requestBeacon hrun hlo hhi, ?_⟩
      rw [(requestBeacon_judged hidle hlive).2 e he, if_pos hfull]
      exact ⟨rfl, rfl, notified_of rfl fun p => noticesFor_raise hrun.2 _ _ p, with_raised_none hrun.2⟩
  · intro j head uses route source x
    have hidle : ¬(s.auth.isHeld = false ∨ s.auth.direction = .neutral) := by simp [hheld, hdir]
    refine ⟨_, exec_requestBeacon hrun hlo hhi, ?_⟩
    rw [(requestBeacon_judged hidle hlive).2 e he, if_neg (by omega), createTrans_eq]
    refine ⟨rfl, notified_of rfl fun p => ?_, with_raised_none hrun.2⟩
    rw [show s.raised = 0#20 from hrun.2, BitVec.zero_or, noticesFor_or, noticesFor_or, ← kindIf_true, noticesFor_kindIf,
      noticesFor_kindIf, noticesFor_kindIf]
    rfl
  · intro two request cancel
    constructor
    · change close16 ([0x10] ++ bytesOf16 (BitVec.ofNat 16 id) ++ [BitVec.ofNat 8 route] ++ bytesOf16 (BitVec.ofNat 16 tram) ++
        bytesOf16 (BitVec.ofNat 16 run) ++ [(vdirBits dir ++ 0#3) ++ seq]) = _
      rw [bytesOf16_ofNat, bytesOf16_ofNat, bytesOf16_ofNat, request_flags, close16_eq]
    · change close16 ([0x11] ++ bytesOf16 (BitVec.ofNat 16 id) ++ bytesOf16 (BitVec.ofNat 16 tram) ++ bytesOf16 (BitVec.ofNat 16 run) ++
        [seq.setWidth 8]) = _
      rw [bytesOf16_ofNat, bytesOf16_ofNat, bytesOf16_ofNat, cancel_flags, close16_eq]

end Sys2Proof.Proofs
end

/-! ## Proofs: what a transaction becomes on the loop, and the telegrams read (10.4, 13.3) -/

section
/-! SUPPORT. A transaction's change of state. -/

namespace Sys2Proof.Proofs

open Sys2Proof Sys2Proof.Machine

theorem putTrans_list (j : JunctRec) (x y : Transaction) (h : y.id = x.id) :
    j.putTrans y = { j with list := j.list.map fun z => if z.id = x.id then y else z } := by
  have hmap : (fun u : Transaction => if (u.id == y.id) = true then y else u) = fun z => if z.id = x.id then y else z := by
    funext z
    rw [h]
    exact if_congr beq_iff_eq rfl rfl
  exact congrArg (fun f => { j with list := j.list.map f }) hmap

theorem alerts_iff (st : TransState) : st.alerts = true ↔ st ∈ [TransState.refused, .wrongRoute, .unconfirmed] := by
  cases st <;> decide

/-- What is told and sounded when a transaction changes its state (R160). -/
theorem changeTold_of {s t : State} {was becomes : TransState}
    (hsound : t.sound = if was ≠ becomes ∧ becomes.alerts then s.sound.alert t.now s.auth else s.sound)
    (htold : Notified s t (fun p => toldIf (decide (was ≠ becomes)) .junctionChanged s.auth p)) :
    changeTold s t was becomes := by
  refine ⟨?_, htold⟩
  rw [hsound, if_congr (and_congr Iff.rfl (alerts_iff becomes)) rfl rfl]
  cases s.auth with
  | held x d => rfl
  | _ => exact ite_self _

/-- A transaction changed in a state that has what `s` has, the clock and JUNCT apart. -/
theorem changeTold_changeTrans {s w : State} {x y : Transaction} (hports : w.ports = s.ports) (hauth : w.auth = s.auth)
    (hsound : w.sound = s.sound) (hquiet : w.raised = 0) : changeTold s (w.changeTrans x y).deliver x.state y.state := by
  refine changeTold_of ?_ (notified_of hports fun p => ?_)
  · rw [← hsound, ← hauth]
    rfl
  · rw [← noticesFor_kindIf, ← hauth]
    refine congrArg (noticesFor w.auth · p) ?_
    change (if x.state ≠ y.state then addFlag w.raised Notice.junctionChanged.idx else w.raised) = _
    rw [hquiet, kindIf, if_congr decide_eq_true_iff.symm rfl rfl]
    rfl

/-- What a change of a transaction leaves as it was. -/
theorem changeTrans_frame (w : State) (x y : Transaction) :
    w.changeTrans x y = { w with
      junct := w.junct.putTrans y, sound := (w.changeTrans x y).sound, raised := (w.changeTrans x y).raised } := rfl

end Sys2Proof.Proofs
end

section
/-! SUPPORT. Reports and CONFIRM beacons. -/

namespace Sys2Proof.Proofs

open Sys2Proof Sys2Proof.Machine

/-- A taken report: the last result, the state and the timer (R156). -/
theorem reported_eq (now : Nat) (x : Transaction) (r : ReportResult) (route : Nat) :
    reported now x r route =
      { x with
        last := some r, state := stateAfter x r route
        timer := if r = .moving then some (now + 1500) else none } := by
  cases r <;> rfl

section
variable {s : State} {id tram : BitVec 16} {seq : BitVec 3} {r : ReportResult} {route : BitVec 8}
  (hrun : Running s) (hlo : 1 ≤ id.toNat) (hhi : id.toNat ≤ 4095) (hroute : route.toNat ≤ 4)
include hrun hlo hhi hroute

theorem exec_report : exec (.report id tram seq r route) s = .next (s.report id.toNat tram.toNat seq r route.toNat).deliver := by
  rw [exec_event hrun rfl, telegram_taken _ _ hlo hhi hroute]

theorem exec_report_discarded (h : s.report id.toNat tram.toNat seq r route.toNat = s) :
    exec (.report id tram seq r route) s = .next s := by
  rw [exec_report hrun hlo hhi hroute, h, State.deliver_quiet hrun.2]

end

theorem report_unheard {s : State} {id tram : Nat} {seq : BitVec 3} {r : ReportResult} {route : Nat}
    (h : s.junct.presence = false ∨ tram ≠ s.settings.tram ∨ s.junct.live id = none) : s.report id tram seq r route = s := by
  unfold State.report
  by_cases hgate : (!s.junct.presence || decide (tram ≠ s.settings.tram)) = true
  · rw [if_pos hgate]
  · rw [if_neg hgate]
    obtain h | h | h := h
    · exact absurd (by simp [h]) hgate
    · exact absurd (by simp [h]) hgate
    · rw [h]

section
variable {s : State} {id tram : Nat} {seq : BitVec 3} {r : ReportResult} {route : Nat} {x : Transaction}
  (hlive : s.junct.live id = some x)
include hlive

theorem report_stale (h : x.seq ≠ seq ∨ x.state = .set) : s.report id tram seq r route = s := by
  unfold State.report
  rw [hlive]
  split
  · rfl
  · exact if_pos h

theorem report_taken (hpres : s.junct.presence = true) (htram : tram = s.settings.tram) (hseq : x.seq = seq) (hset : x.state ≠ .set) :
    s.report id tram seq r route = s.changeTrans x (reported s.now x r route) := by
  unfold State.report
  rw [hlive, if_neg (by simp [hpres, htram])]
  exact if_neg (by simp [hseq, hset])

/-- A CONFIRM beacon of a live transaction (R159). -/
theorem confirmBeacon_live (locked occupied : Bool) :
    s.confirmBeacon id route locked occupied =
      if x.state ≠ .set ∧ locked ∧ !occupied ∧ route = x.route then (onLoop s).changeTrans x { x with state := .set, timer := none }
      else onLoop s := by
  have hlive' : (s.junct.beacon s.now).live id = some x := hlive
  unfold State.confirmBeacon
  simp only [hlive']
  rfl

end

theorem confirmBeacon_none {s : State} {id : Nat} (route : Nat) (locked occupied : Bool) (hlive : s.junct.live id = none) :
    s.confirmBeacon id route locked occupied = onLoop s := by
  have hlive' : (s.junct.beacon s.now).live id = none := hlive
  unfold State.confirmBeacon
  simp only [hlive']
  rfl

end Sys2Proof.Proofs
end

section
/-! SUPPORT. The bytes of the telegrams that arrive (13.3, R187). -/

namespace Sys2Proof.Proofs

open Sys2Proof Sys2Proof.Machine

theorem word16_bytesOf16 (hi lo : Byte) (x : BitVec 16) : word16 hi lo = x ↔ [hi, lo] = bytesOf16 x := by
  constructor
  · rintro rfl
    exact (bytesOf16_word16 hi lo).symm
  · intro h
    obtain ⟨rfl, rfl⟩ : hi = x.extractLsb' 8 8 ∧ lo = x.extractLsb' 0 8 := by simpa [bytesOf16] using h
    exact word16_bytes x

theorem keepIf_kept {i : Instr} (h : wellFormed i = true) : keepIf i = i := if_pos h

theorem idOk_iff (id : BitVec 16) : idOk id = true ↔ 1 ≤ id.toNat ∧ id.toNat ≤ 4095 := by
  simp [idOk]

/-- The code of a result among the bits of byte 5. -/
theorem result_bits (x : Byte) : (x.extractLsb' 2 3).toNat = x.toNat / 4 % 8 := by
  rw [BitVec.extractLsb'_toNat, Nat.shiftRight_eq_div_pow]

theorem resultOf_code {x : BitVec 3} {res : ReportResult} (h : x.toNat = resultCode res + 1) : resultOf x = some res := by
  unfold resultOf
  rw [h]
  cases res <;> rfl

theorem resultOf_range {x : BitVec 3} {res : ReportResult} (h : resultOf x = some res) : 1 ≤ x.toNat ∧ x.toNat ≤ 5 := by
  unfold resultOf at h
  split at h
  all_goals first | omega | exact absurd h (by simp)

theorem readTelegram_request (i1 i0 k1 k0 : Byte) :
    readTelegram [0x01, i1, i0, k1, k0] =
      if word16 k1 k0 = crc16 [0x01, i1, i0] then keepIf (.requestBeacon (word16 i1 i0)) else .telegramDropped := rfl

theorem readTelegram_confirm (i1 i0 x k1 k0 : Byte) :
    readTelegram [0x02, i1, i0, x, k1, k0] =
      if word16 k1 k0 = crc16 [0x02, i1, i0, x] then
        keepIf (.confirmBeacon (word16 i1 i0) (x.extractLsb' 5 3) (x.getLsbD 4) (x.getLsbD 3))
      else .telegramDropped := rfl

theorem readTelegram_report {x : Byte} {res : ReportResult} (i1 i0 t1 t0 r k1 k0 : Byte) (h : resultOf (x.extractLsb' 2 3) = some res) :
    readTelegram [0x03, i1, i0, t1, t0, x, r, k1, k0] =
      if word16 k1 k0 = crc16 [0x03, i1, i0, t1, t0, x, r] then
        keepIf (.report (word16 i1 i0) (word16 t1 t0) (x.extractLsb' 5 3) res r)
      else .telegramDropped := by
  unfold readTelegram
  change (if word16 k1 k0 = crc16 [0x03, i1, i0, t1, t0, x, r] then _ else Instr.telegramDropped) = _
  rw [h]

/-- A telegram that is not dropped is one of the three kinds, whole, with its check and its values in range. -/
theorem readTelegram_cases {bytes : List Byte} (h : readTelegram bytes ≠ .telegramDropped) :
    ∃ body, bytes = body ++ bytesOf16 (crc16 body) ∧ wellFormed (readTelegram bytes) = true ∧
      ((∃ i1 i0, body = [0x01, i1, i0] ∧ readTelegram bytes = .requestBeacon (word16 i1 i0)) ∨
        (∃ i1 i0 x rs l o, body = [0x02, i1, i0, x] ∧ readTelegram bytes = .confirmBeacon (word16 i1 i0) rs l o) ∨
        ∃ i1 i0 t1 t0 x r res sq, body = [0x03, i1, i0, t1, t0, x, r] ∧ resultOf (x.extractLsb' 2 3) = some res ∧
          readTelegram bytes = .report (word16 i1 i0) (word16 t1 t0) sq res r) := by
  have hkeep : ∀ {i : Instr} {w c : BitVec 16}, (if w = c then keepIf i else .telegramDropped) ≠ .telegramDropped →
      w = c ∧ wellFormed i = true ∧ (if w = c then keepIf i else .telegramDropped) = i := by
    intro i w c hne
    by_cases hc : w = c
    · rw [if_pos hc] at hne ⊢
      by_cases hwf : wellFormed i = true
      · exact ⟨hc, hwf, keepIf_kept hwf⟩
      · exact absurd (if_neg hwf) hne
    · exact absurd (if_neg hc) hne
  unfold readTelegram at h
  split at h
  next i1 i0 k1 k0 =>
    obtain ⟨hcrc, hwf, hread⟩ := hkeep h
    have hread' := (readTelegram_request i1 i0 k1 k0).trans hread
    refine ⟨[0x01, i1, i0], ?_, (congrArg wellFormed hread').trans hwf, Or.inl ⟨i1, i0, rfl, hread'⟩⟩
    rw [← (word16_bytesOf16 k1 k0 _).mp hcrc]
    rfl
  next i1 i0 x k1 k0 =>
    obtain ⟨hcrc, hwf, hread⟩ := hkeep h
    have hread' := (readTelegram_confirm i1 i0 x k1 k0).trans hread
    refine ⟨[0x02, i1, i0, x], ?_, (congrArg wellFormed hread').trans hwf,
      Or.inr (Or.inl ⟨i1, i0, x, _, _, _, rfl, hread'⟩)⟩
    rw [← (word16_bytesOf16 k1 k0 _).mp hcrc]
    rfl
  next i1 i0 t1 t0 x r k1 k0 =>
    cases hres : resultOf (x.extractLsb' 2 3) with
    | none =>
      simp only [hres, ite_self] at h
      exact absurd rfl h
    | some res =>
      simp only [hres] at h
      obtain ⟨hcrc, hwf, hread⟩ := hkeep h
      have hread' := (readTelegram_report i1 i0 t1 t0 r k1 k0 hres).trans hread
      refine ⟨[0x03, i1, i0, t1, t0, x, r], ?_, (congrArg wellFormed hread').trans hwf,
        Or.inr (Or.inr ⟨i1, i0, t1, t0, x, r, res, _, rfl, hres, hread'⟩)⟩
      rw [← (word16_bytesOf16 k1 k0 _).mp hcrc]
      rfl
  next => exact absurd rfl h

end Sys2Proof.Proofs
end

section
/-! The obligation of reports, CONFIRM beacons and dropped telegrams (O49). -/

namespace Sys2Proof.Proofs

open Sys2Proof Sys2Proof.Machine

/-- Settles O49: report telegrams, CONFIRM beacons and dropped telegrams, and the bytes of each. -/
theorem reportsAndConfirmsTaken : Obligations.ReportsAndConfirmsTaken := by
  refine ⟨fun s id tram seq r route hrun hlo hhi hroute => ⟨fun h => ?_, fun x hlive => ⟨fun h => ?_, fun hpres htram hseq hset => ?_⟩⟩,
    ⟨fun s id route locked occupied hrun hlo hhi hroute => ?_, fun s => rfl⟩, fun id x hlo hhi => ⟨?_, fun hx => ?_, fun tram route res => ?_⟩,
    fun bytes hne => ?_⟩
  · exact exec_report_discarded hrun hlo hhi hroute (report_unheard h)
  · exact exec_report_discarded hrun hlo hhi hroute (report_stale hlive h)
  · intro y
    refine ⟨_, exec_report hrun hlo hhi hroute, ?_⟩
    rw [report_taken hlive hpres htram hseq hset, reported_eq]
    exact ⟨putTrans_list _ x y rfl, changeTold_changeTrans rfl rfl rfl hrun.2, with_raised_none hrun.2⟩
  · intro confirms
    have htaken : exec (.confirmBeacon id route locked occupied) s =
        .next (s.confirmBeacon id.toNat route.toNat locked occupied).deliver := by
      rw [exec_event hrun rfl, telegram_taken _ _ hlo hhi hroute]
    have hguard : ∀ x : Transaction, (x.state ≠ .set ∧ locked ∧ !occupied ∧ route.toNat = x.route) ↔ confirms x := by
      intro x
      simp [confirms]
    refine ⟨fun hnone => ?_, fun x hlive hconfirms => ⟨_, htaken, ?_⟩⟩
    · have hheard : s.confirmBeacon id.toNat route.toNat locked occupied = onLoop s := by
        cases hlive : s.junct.live id.toNat with
        | none => exact confirmBeacon_none _ _ _ hlive
        | some x =>
          rw [confirmBeacon_live hlive]
          exact if_neg fun h => hnone x hlive ((hguard x).mp h)
      rw [htaken, hheard, State.deliver_quiet (s := onLoop s) hrun.2]
      rfl
    · rw [confirmBeacon_live hlive, if_pos ((hguard x).mpr hconfirms)]
      refine ⟨putTrans_list _ x _ rfl, changeTold_changeTrans (y := { x with state := .set, timer := none }) rfl rfl rfl hrun.2, ?_⟩
      refine Eq.trans ?_ (with_raised_none hrun.2)
      have hsound : ((onLoop s).changeTrans x { x with state := .set, timer := none }).sound = s.sound :=
        if_neg (by simp [TransState.alerts])
      exact congrArg (fun z => { s with sound := z, raised := 0#20 }) hsound
  · refine (readTelegram_request _ _ _ _).trans ?_
    refine (if_pos (word16_bytes _)).trans ?_
    rw [word16_bytes]
    exact keepIf_kept ((idOk_iff id).mpr ⟨hlo, hhi⟩)
  · refine (readTelegram_confirm _ _ _ _ _).trans ?_
    have hroute : (x.extractLsb' 5 3).toNat ≤ 4 := by
      rw [BitVec.extractLsb'_toNat, Nat.shiftRight_eq_div_pow]
      omega
    refine (if_pos (word16_bytes _)).trans ?_
    rw [word16_bytes]
    exact keepIf_kept ((Bool.and_eq_true ..).mpr ⟨(idOk_iff id).mpr ⟨hlo, hhi⟩, decide_eq_true hroute⟩)
  · intro report hres hroute
    have hcode : resultOf (x.extractLsb' 2 3) = some res := resultOf_code ((result_bits x).trans hres)
    refine (readTelegram_report _ _ _ _ _ _ _ hcode).trans ?_
    refine (if_pos (word16_bytes _)).trans ?_
    rw [word16_bytes, word16_bytes]
    exact keepIf_kept ((Bool.and_eq_true ..).mpr ⟨(idOk_iff id).mpr ⟨hlo, hhi⟩, decide_eq_true hroute⟩)
  · obtain ⟨body, rfl, hwf, hkind⟩ := readTelegram_cases hne
    have hlen : (body ++ bytesOf16 (crc16 body)).length - 2 = body.length := by simp [bytesOf16]
    rw [hlen, List.take_left, List.drop_left]
    refine ⟨rfl, hwf, ?_⟩
    obtain ⟨i1, i0, rfl, hread⟩ | ⟨i1, i0, x, rs, l, o, rfl, hread⟩ | ⟨i1, i0, t1, t0, x, r, res, sq, rfl, hres, hread⟩ := hkind
    · refine ⟨by simp, fun id hid => ?_, fun h => absurd h (by simp)⟩
      rw [hread] at hid
      rw [← Instr.requestBeacon.inj hid, bytesOf16_word16]
      rfl
    · refine ⟨by simp, fun id hid => absurd (hread.symm.trans hid) (by simp), fun h => absurd h (by simp)⟩
    · refine ⟨by simp, fun id hid => absurd (hread.symm.trans hid) (by simp), fun _ y hy => ?_⟩
      obtain rfl : x = y := by simpa using hy
      rw [← result_bits]
      exact resultOf_range hres

end Sys2Proof.Proofs
end

section
/-! The obligation of the report timer and the lapse of loop presence (O50). -/

namespace Sys2Proof.Proofs

open Sys2Proof Sys2Proof.Machine

/-- A transaction sent again (R157). -/
def sentAgain (x : Transaction) (now : Nat) : Transaction := { x with tries := x.tries + 1, timer := some (now + 400) }

theorem reportExpiry_timed {s : State} {id due : Nat} {x : Transaction} (hlive : s.junct.live id = some x)
    (htimer : x.timer = some due) :
    let w := s.reach due
    s.reportExpiry id =
      if x.tries < 3 ∧ s.junct.presence then
        { w with junct := (w.junct.putTrans (sentAgain x w.now)).send [requestTelegram w (sentAgain x w.now)] }
      else w.changeTrans x x.giveUp := by
  unfold State.reportExpiry
  simp only [hlive, htimer]
  rfl

theorem send_present {j : JunctRec} (h : j.presence = true) (ts : List Telegram) : j.send ts = { j with outbox := j.outbox ++ ts } := by
  simp [JunctRec.send, h]

/-- A transaction replaced and its telegram sent, while on the loop. -/
theorem putTrans_send {j : JunctRec} {x y : Transaction} (hid : y.id = x.id) (h : j.presence = true) (ts : List Telegram) :
    (j.putTrans y).send ts = { j with list := j.list.map fun z => if z.id = x.id then y else z, outbox := j.outbox ++ ts } := by
  rw [putTrans_list _ x y hid, send_present]
  exact h

theorem loopLapse_present {s : State} {due : Nat} (hpres : s.junct.presence = true) (hlapse : s.junct.lapseAt = some due) :
    let w := s.reach due
    let hit := s.junct.list.any fun t => decide (t.state = .requesting)
    s.loopLapse = { w with
      junct := { s.junct with
        presence := false, lapseAt := none
        list := s.junct.list.map fun t => if t.state = .requesting then t.giveUp else t }
      sound := if hit then s.sound.alert w.now s.auth else s.sound
      raised := if hit then addFlag s.raised Notice.junctionChanged.idx else s.raised } := by
  unfold State.loopLapse
  simp only [hpres, hlapse]
  rfl

theorem loopLapse_absent {s : State} (hpres : s.junct.presence = false) : s.loopLapse = s := by
  unfold State.loopLapse
  simp only [hpres]

/-- Settles O50: the report timer and the lapse of loop presence. -/
theorem junctionTimersExpire : Obligations.JunctionTimersExpire := by
  refine ⟨fun s id x due hrun hlive htimer => ?_, fun s due hrun hpres hlapse => ?_, fun s hrun hpres => ?_⟩
  · intro at_ resends y
    refine ⟨_, exec_event hrun rfl, ?_⟩
    rw [reportExpiry_timed hlive htimer]
    by_cases hagain : x.tries < 3 ∧ s.junct.presence = true
    · have hy : y = sentAgain x at_ := if_pos hagain
      rw [if_pos hagain, if_pos hagain, hy]
      refine ⟨rfl, putTrans_send (y := sentAgain x at_) rfl hagain.2 _,
        changeTold_of (if_neg fun h => h.1 rfl).symm (notified_of rfl fun p => ?_), with_raised_none hrun.2⟩
      rw [decide_eq_false (fun h => h rfl), toldIf_false, show (s.reach due).raised = 0#20 from hrun.2, noticesFor_zero]
    · have hy : y = x.giveUp := if_neg hagain
      rw [if_neg hagain, if_neg hagain, hy]
      exact ⟨rfl, putTrans_list _ x _ rfl, changeTold_changeTrans rfl rfl rfl hrun.2, with_raised_none hrun.2⟩
  · intro hit
    refine ⟨_, exec_event hrun rfl, ?_⟩
    rw [loopLapse_present hpres hlapse]
    have hchange : (if hit = true then TransState.requesting else .unconfirmed) ≠ .unconfirmed ↔ hit = true := by
      cases hit <;> simp
    have hdecide : decide ((if hit = true then TransState.requesting else .unconfirmed) ≠ .unconfirmed) = hit := by
      cases hit <;> rfl
    refine ⟨rfl, rfl, changeTold_of ?_ (notified_of rfl fun p => ?_), with_raised_none hrun.2⟩
    · exact if_congr (by rw [hchange]; simp [hit, TransState.alerts]) rfl rfl
    · rw [hdecide, ← noticesFor_kindIf]
      refine congrArg (noticesFor s.auth · p) ((ite_addFlag_eq_or s.raised hit .junctionChanged).trans ?_)
      rw [show s.raised = 0#20 from hrun.2, BitVec.zero_or]
  · rw [exec_event hrun rfl, loopLapse_absent hpres, State.deliver_quiet hrun.2]

end Sys2Proof.Proofs
end

/-! ## Proofs: JUNCT's commands (10.1, 10.2, 10.5, 10.8) -/

section
/-! The obligation of ROUTE OVERRIDE and JUNCTION REPEAT (O51). -/

namespace Sys2Proof.Proofs

open Sys2Proof Sys2Proof.Machine

/-- A re-request changes JUNCT and what waits to be routed alone: its new state alerts nobody (R161, R162). -/
theorem reRequest_eq {s : State} (y : Transaction) (route : Nat) (source : RouteSource) (hpres : s.junct.presence = true) :
    let z : Transaction :=
      { y with
        route := route, source := source, seq := s.junct.seq + 1, tries := 1, state := .requesting, timer := some (s.now + 400) }
    s.reRequest y route source = { s with
      junct := { s.junct with
        list := s.junct.list.map (fun u => if u.id = y.id then z else u), seq := s.junct.seq + 1
        outbox := s.junct.outbox ++ [.request y.id route s.settings.tram s.settings.run s.auth.vdir (s.junct.seq + 1)] }
      raised := s.raised ||| kindIf (decide (y.state ≠ .requesting)) .junctionChanged } := by
  intro z
  have hsound : (s.changeTrans y z).sound = s.sound := if_neg (by simp [z, TransState.alerts])
  have hraised : (s.changeTrans y z).raised = s.raised ||| kindIf (decide (y.state ≠ .requesting)) .junctionChanged := by
    rw [← ite_addFlag_eq_or]
    exact if_congr decide_eq_true_iff.symm rfl rfl
  have hjunct := putTrans_send (j := s.junct) (x := y) (y := z) rfl hpres [requestTelegram (s.changeTrans y z) z]
  have hframe : s.reRequest y route source = { s with
      junct := { (s.junct.putTrans z).send [requestTelegram (s.changeTrans y z) z] with seq := s.junct.seq + 1 }
      sound := (s.changeTrans y z).sound, raised := (s.changeTrans y z).raised } := rfl
  rw [hframe, hsound, hraised, hjunct]
  rfl

section
variable {s : State} {x : Cab} {d : Direction} (h : Taking (portOf x) s) (ha : s.auth = .held x d)
include h ha

theorem exec_routeOverride (r : BitVec 8) :
    exec (.routeOverride (portOf x) r) s = .next (State.conclude (portOf x) 0x20 (s.overrideRule r.toNat)) := by
  have hperm : permitDriving (s.auth.standing (portOf x)) = true := by simp [permitDriving, ha]
  exact congrArg Host.Outcome.next (State.command_taken h rfl hperm)

theorem exec_junctionRepeat :
    exec (.junctionRepeat (portOf x)) s = .next (State.conclude (portOf x) 0x21 s.repeatRule) := by
  have hperm : permitDriving (s.auth.standing (portOf x)) = true := by simp [permitDriving, ha]
  exact congrArg Host.Outcome.next (State.command_taken h rfl hperm)

omit ha in
/-- A re-request by a command, its answer pending. -/
theorem reRequested_concluded (code : Byte) (y : Transaction) (route : Nat) (source : RouteSource) (hpres : s.junct.presence = true) :
    let u := State.conclude (portOf x) code (s.reRequest y route source, Answer.accepted)
    u.replyOf (portOf x) = { status := .accepted, code := code, data := 0 } ∧
      reRequested (s.reply (portOf x) { status := .accepted, code := code, data := 0 }) u y route source := by
  rw [reRequest_eq y route source hpres]
  refine ⟨conclude_replyOf .., rfl, ?_, with_raised_none (s := s.reply (portOf x) _) h.2.2⟩
  refine notified_congr (conclude_notified (s := s) _ _ _ rfl) fun p => ?_
  rw [show s.raised = 0#20 from h.2.2, BitVec.zero_or, noticesFor_kindIf]
  rfl

end

/-- With nothing to change now the override waits (R161). -/
theorem overrideRule_waits {s : State} {r : Nat} (hr : 1 ≤ r) (hr4 : r ≤ 4)
    (h : s.junct.presence = false ∨ s.junct.list = [] ∨ (s.junct.list.getLast?.map Transaction.state) = some .set) :
    s.overrideRule r = ({ s with junct := { s.junct with pendingOverride := some r } }, Answer.done 0) := by
  unfold State.overrideRule
  rw [if_neg (by omega)]
  cases hnew : s.junct.newest with
  | none => rfl
  | some y =>
    refine if_neg fun hnow => ?_
    obtain hpres | hempty | hset := h
    · rw [hpres] at hnow
      exact absurd hnow.1 (by simp)
    · rw [JunctRec.newest, hempty] at hnew
      exact absurd hnew (by simp)
    · rw [show s.junct.list.getLast? = some y from hnew] at hset
      exact hnow.2 (Option.some.inj hset)

/-- An override of the newest transaction, by its entry (R161). -/
theorem overrideRule_now {s : State} {r : Nat} {y : Transaction} {e : Entry} (hr : 1 ≤ r) (hr4 : r ≤ 4) (hpres : s.junct.presence = true)
    (hnew : s.junct.list.getLast? = some y) (hset : y.state ≠ .set) (he : s.junct.entry y.id = some e) :
    s.overrideRule r =
      if e.override = false then (s, .refused .conflict)
      else if e.routes < r then (s, .refused .badRoute)
      else (s.reRequest y r .override, .accepted) := by
  have hnewest : s.junct.newest = some y := hnew
  unfold State.overrideRule
  rw [if_neg (by omega), hnewest]
  refine (if_pos ⟨hpres, hset⟩).trans ?_
  rw [he]
  exact if_congr (by simp) rfl rfl

theorem repeatRule_some {s : State} {y : Transaction} (hpres : s.junct.presence = true) (hnew : s.junct.list.getLast? = some y) :
    s.repeatRule = if y.state = .set then (s, .refused .already) else (s.reRequest y y.route y.source, .accepted) := by
  have hnewest : s.junct.newest = some y := hnew
  unfold State.repeatRule
  rw [if_neg (by simp [hpres]), hnewest]

theorem repeatRule_none {s : State} (hpres : s.junct.presence = true) (hnew : s.junct.list.getLast? = none) :
    s.repeatRule = (s, .refused .notReady) := by
  have hnewest : s.junct.newest = none := hnew
  unfold State.repeatRule
  rw [if_neg (by simp [hpres]), hnewest]

/-- Settles O51: ROUTE OVERRIDE and JUNCTION REPEAT. -/
theorem junctionReRequests : Obligations.JunctionReRequests := by
  refine ⟨fun s x d r h ha => ⟨fun hr => ?_, fun hr hr4 => ⟨fun hwait => ?_, fun y e hpres hnew hset he => ?_⟩⟩, fun s x d h ha => ?_⟩
  · have hout : r.toNat = 0 ∨ 4 < r.toNat := hr.imp (fun e => by rw [e]; rfl) id
    rw [exec_routeOverride h ha, State.overrideRule, if_pos hout, State.conclude_refusal h.2.2]
  · rw [exec_routeOverride h ha, overrideRule_waits hr hr4 hwait]
    exact congrArg Host.Outcome.next (State.conclude_quiet h.2.2)
  · rw [exec_routeOverride h ha, overrideRule_now hr hr4 hpres hnew hset he]
    by_cases hfixed : e.override = false
    · rw [if_pos hfixed, if_pos hfixed, State.conclude_refusal h.2.2]
    rw [if_neg hfixed, if_neg hfixed]
    by_cases hroutes : e.routes < r.toNat
    · rw [if_pos hroutes, if_pos hroutes, State.conclude_refusal h.2.2]
    rw [if_neg hroutes, if_neg hroutes]
    exact ⟨_, rfl, reRequested_concluded h 0x20 y r.toNat .override hpres⟩
  · by_cases hpres : s.junct.presence = false
    · rw [if_pos hpres, exec_junctionRepeat h ha, State.repeatRule, if_pos (by simp [hpres]), State.conclude_refusal h.2.2]
    rw [if_neg hpres]
    have hpres' : s.junct.presence = true := by simpa using hpres
    rw [exec_junctionRepeat h ha]
    cases hnew : s.junct.list.getLast? with
    | none =>
      rw [repeatRule_none hpres' hnew]
      exact congrArg Host.Outcome.next (State.conclude_refusal h.2.2)
    | some y =>
      rw [repeatRule_some hpres' hnew]
      change if y.state = .set then _ else _
      by_cases hset : y.state = .set
      · rw [if_pos hset, if_pos hset]
        exact congrArg Host.Outcome.next (State.conclude_refusal h.2.2)
      · rw [if_neg hset, if_neg hset]
        exact ⟨_, rfl, reRequested_concluded h 0x21 y y.route y.source hpres'⟩

end Sys2Proof.Proofs
end

/-! ## Proofs: the junction table's writing (10.1) -/

section
/-! SUPPORT. The table with an entry added or replaced. -/

namespace Sys2Proof.Proofs

open Sys2Proof Sys2Proof.Machine

/-- Ascending order of id (R144). -/
def Ascending (table : List Entry) : Prop := table.Pairwise (fun a b => a.id < b.id)

/-- The entry written replaces any of its id, and the others stay (R145). -/
theorem mem_putEntry {table : List Entry} (h : Ascending table) (e x : Entry) :
    x ∈ putEntry table e ↔ x = e ∨ (x ∈ table ∧ x.id ≠ e.id) := by
  induction table with
  | nil => simp [putEntry]
  | cons a l ih =>
    obtain ⟨hfirst, hrest⟩ := List.pairwise_cons.mp h
    rw [putEntry]
    by_cases hlt : e.id < a.id
    · have hothers : ∀ y ∈ a :: l, y.id ≠ e.id := by
        intro y hy
        obtain rfl | hy := List.mem_cons.mp hy
        · omega
        · have := hfirst y hy
          omega
      rw [if_pos hlt, List.mem_cons]
      exact or_congr Iff.rfl ⟨fun hx => ⟨hx, hothers x hx⟩, And.left⟩
    rw [if_neg hlt]
    by_cases heq : e.id = a.id
    · rw [if_pos heq, List.mem_cons]
      refine or_congr Iff.rfl ⟨fun hx => ⟨List.mem_cons_of_mem _ hx, ?_⟩, fun ⟨hx, hne⟩ => ?_⟩
      · have := hfirst x hx
        omega
      · obtain rfl | hx := List.mem_cons.mp hx
        · exact absurd heq.symm hne
        · exact hx
    · rw [if_neg heq, List.mem_cons, ih hrest, List.mem_cons]
      constructor
      · rintro (rfl | rfl | ⟨hx, hne⟩)
        · exact Or.inr ⟨Or.inl rfl, fun e' => heq e'.symm⟩
        · exact Or.inl rfl
        · exact Or.inr ⟨Or.inr hx, hne⟩
      · rintro (rfl | ⟨rfl | hx, hne⟩)
        · exact Or.inr (Or.inl rfl)
        · exact Or.inl rfl
        · exact Or.inr (Or.inr ⟨hx, hne⟩)

/-- The order of the table is kept (R144). -/
theorem putEntry_ascending {table : List Entry} (h : Ascending table) (e : Entry) : Ascending (putEntry table e) := by
  induction table with
  | nil => exact List.pairwise_singleton _ _
  | cons a l ih =>
    obtain ⟨hfirst, hrest⟩ := List.pairwise_cons.mp h
    rw [putEntry]
    by_cases hlt : e.id < a.id
    · rw [if_pos hlt]
      refine List.pairwise_cons.mpr ⟨fun y hy => ?_, h⟩
      obtain rfl | hy := List.mem_cons.mp hy
      · exact hlt
      · exact hlt.trans (hfirst y hy)
    rw [if_neg hlt]
    by_cases heq : e.id = a.id
    · rw [if_pos heq]
      exact List.pairwise_cons.mpr ⟨fun y hy => heq ▸ hfirst y hy, hrest⟩
    · rw [if_neg heq]
      refine List.pairwise_cons.mpr ⟨fun y hy => ?_, ih hrest⟩
      obtain rfl | ⟨hy, _⟩ := (mem_putEntry hrest e y).mp hy
      · omega
      · exact hfirst y hy

/-- The entry written is the one found for its id. -/
theorem find_putEntry (table : List Entry) (e : Entry) : (putEntry table e).find? (fun x => x.id == e.id) = some e := by
  induction table with
  | nil => simp [putEntry]
  | cons a l ih =>
    rw [putEntry]
    by_cases hlt : e.id < a.id
    · simp [hlt]
    by_cases heq : e.id = a.id
    · simp [heq]
    · rw [if_neg hlt, if_neg heq, List.find?_cons_of_neg (by simpa using fun e' => heq e'.symm), ih]

/-- The table grows by one at most, and not when it holds the id. -/
theorem putEntry_length (table : List Entry) (e : Entry) :
    (putEntry table e).length ≤ table.length + 1 ∧ (Ascending table → (∃ x ∈ table, x.id = e.id) → (putEntry table e).length = table.length) := by
  induction table with
  | nil => simp [putEntry]
  | cons a l ih =>
    obtain ⟨hle, heqlen⟩ := ih
    rw [putEntry]
    by_cases hlt : e.id < a.id
    · rw [if_pos hlt]
      refine ⟨by simp, fun hasc ⟨x, hx, hid⟩ => ?_⟩
      obtain rfl | hx := List.mem_cons.mp hx
      · omega
      · have := (List.pairwise_cons.mp hasc).1 x hx
        omega
    rw [if_neg hlt]
    by_cases heq : e.id = a.id
    · rw [if_pos heq]
      simp
    · rw [if_neg heq]
      refine ⟨by simpa using hle, fun hasc ⟨x, hx, hid⟩ => ?_⟩
      obtain rfl | hx := List.mem_cons.mp hx
      · exact absurd hid.symm heq
      · simpa using heqlen (List.pairwise_cons.mp hasc).2 ⟨x, hx, hid⟩

end Sys2Proof.Proofs
end

section
/-! The obligation of TABLE WRITE (O52). -/

namespace Sys2Proof.Proofs

open Sys2Proof Sys2Proof.Machine

theorem exec_tableWrite {s : State} (h : Taking .V s) (f : EntryFrame) :
    exec (.tableWrite .V f) s = .next (State.conclude .V 0x60 (s.tableWriteRule f)) :=
  congrArg Host.Outcome.next (State.command_taken h (f := permitVehicle) rfl rfl)

/-- The reply of a taken TABLE WRITE: the entry as stored and the number of entries (log 23). -/
theorem entry_data (e : Entry) (n : Nat) :
    packData ([(12, e.id)] ++ e.shortFields ++ [(7, n)]) =
      (BitVec.ofNat 12 e.id ++ BitVec.ofNat 2 (e.routes - 1) ++ BitVec.ofNat 2 (e.defaultRoute - 1) ++ BitVec.ofBool e.override ++
        BitVec.ofNat 9 e.points ++ BitVec.ofNat 6 e.clear ++ BitVec.ofNat 7 n ++ 0#1 : BitVec 40) := by
  have hfields := ((Packs.one 12 e.id).append (.one 2 (e.routes - 1)) |>.append (.one 2 (e.defaultRoute - 1))
    |>.append (.bit e.override) |>.append (.one 9 e.points) |>.append (.one 6 e.clear) |>.append (.one 7 n))
  exact hfields.data (m := 1) rfl

/-- TABLE WRITE's tests in their order (R145). -/
theorem tableWriteRule_eq {s : State} (f : EntryFrame) (hlen : s.junct.table.length ≤ 96) :
    let e := storedEntry f
    s.tableWriteRule f =
      if f.id.toNat = 0 ∨ f.routes.toNat = 0 ∨ 4 < f.routes.toNat ∨ f.defaultRoute = 0 ∨ f.routes.toNat < f.defaultRoute.toNat then
        (s, .refused .outOfRange)
      else if (s.junct.live f.id.toNat).isSome then (s, .refused .inUse)
      else if ∃ q ∈ s.junct.plan, q.id = f.id.toNat ∧ f.routes.toNat < q.route then (s, .refused .conflict)
      else if (∀ x ∈ s.junct.table, x.id ≠ f.id.toNat) ∧ s.junct.table.length = 96 then (s, .refused .full)
      else
        ({ s with junct := { s.junct with table := putEntry s.junct.table e } },
          .taken (entryClamped f) (packData ([(12, e.id)] ++ e.shortFields ++ [(7, (putEntry s.junct.table e).length)]))) := by
  intro e
  have hdefault : e.defaultRoute = 0 ↔ f.defaultRoute = 0 := toNat_eq_zero_iff f.defaultRoute
  refine if_congr (or_congr Iff.rfl (or_congr Iff.rfl (or_congr Iff.rfl (or_congr hdefault Iff.rfl)))) rfl ?_
  refine if_congr Iff.rfl rfl (if_congr ?_ rfl (if_congr ?_ rfl rfl))
  · simp only [List.any_eq_true, Bool.and_eq_true, decide_eq_true_eq]
    rfl
  · rw [Bool.and_eq_true, Option.isNone_iff_eq_none, JunctRec.entry_none, decide_eq_true_eq]
    exact and_congr Iff.rfl ⟨fun hge => Nat.le_antisymm hlen hge, fun heq => heq.ge⟩

/-- Settles O52: TABLE WRITE in the order of its tests, with its reply. -/
theorem tableWriteTaken : Obligations.TableWriteTaken := by
  intro s f h hinv
  obtain ⟨hasc, hlen, _⟩ := hinv
  dsimp only
  rw [exec_tableWrite h, tableWriteRule_eq f hlen]
  by_cases hout : f.id.toNat = 0 ∨ f.routes.toNat = 0 ∨ 4 < f.routes.toNat ∨ f.defaultRoute = 0 ∨ f.routes.toNat < f.defaultRoute.toNat
  · rw [if_pos hout, if_pos hout, State.conclude_refusal h.2.2]
  rw [if_neg hout, if_neg hout]
  by_cases hlive : (s.junct.live f.id.toNat).isSome = true
  · rw [if_pos hlive, if_pos hlive, State.conclude_refusal h.2.2]
  rw [if_neg hlive, if_neg hlive]
  by_cases hplan : ∃ q ∈ s.junct.plan, q.id = f.id.toNat ∧ f.routes.toNat < q.route
  · rw [if_pos hplan, if_pos hplan, State.conclude_refusal h.2.2]
  rw [if_neg hplan, if_neg hplan]
  by_cases hfull : (∀ x ∈ s.junct.table, x.id ≠ f.id.toNat) ∧ s.junct.table.length = 96
  · rw [if_pos hfull, if_pos hfull, State.conclude_refusal h.2.2]
  rw [if_neg hfull, if_neg hfull]
  refine ⟨_, congrArg Host.Outcome.next (State.conclude_quiet h.2.2), ?_⟩
  rw [State.reply_replyOf]
  refine ⟨?_, entry_data (storedEntry f) _, mem_putEntry hasc (storedEntry f), putEntry_ascending hasc (storedEntry f),
    find_putEntry s.junct.table (storedEntry f), rfl, rfl⟩
  change (if entryClamped f = true then Status.doneClamped else .done) = _
  have hclamped : entryClamped f = true ↔
      ¬((storedEntry f).points = f.points.toNat ∧ (storedEntry f).clear = f.clear.toNat) := by
    rw [entryClamped, Bool.or_eq_true, decide_eq_true_eq, decide_eq_true_eq, not_and_or]
  rw [if_congr hclamped rfl rfl]
  exact ite_not ..

end Sys2Proof.Proofs
end

/-! ## Proofs: the table, the plan and the transactions read (10.1, 10.2, 10.8) -/

section
/-! SUPPORT. The data of JUNCT's replies. -/

namespace Sys2Proof.Proofs

open Sys2Proof Sys2Proof.Machine

/-- An entry's fields (R147). -/
theorem Packs.entry (e : Entry) :
    Packs e.fields (BitVec.ofNat 3 e.routes ++ BitVec.ofNat 3 e.defaultRoute ++ BitVec.ofBool e.override ++ BitVec.ofNat 9 e.points ++
      BitVec.ofNat 6 e.clear) :=
  (Packs.one 3 e.routes).append (.one 3 e.defaultRoute) |>.append (.bit e.override) |>.append (.one 9 e.points)
    |>.append (.one 6 e.clear)

theorem tableEntry_data (e : Entry) :
    packData ([(12, e.id)] ++ e.fields) =
      (BitVec.ofNat 12 e.id ++ BitVec.ofNat 3 e.routes ++ BitVec.ofNat 3 e.defaultRoute ++ BitVec.ofBool e.override ++
        BitVec.ofNat 9 e.points ++ BitVec.ofNat 6 e.clear ++ 0#6 : BitVec 40) := by
  have hfields := ((Packs.one 12 e.id).append (.one 3 e.routes) |>.append (.one 3 e.defaultRoute) |>.append (.bit e.override)
    |>.append (.one 9 e.points) |>.append (.one 6 e.clear))
  exact hfields.data (m := 6) rfl

theorem signature_data (n : Nat) (c : BitVec 16) :
    packData [(7, n), (16, c.toNat)] = (BitVec.ofNat 7 n ++ c ++ 0#17 : BitVec 40) :=
  ((Packs.one 7 n).append (.bits c)).data (m := 17) rfl

theorem planLength_data (n : Nat) : packData [(6, n)] = (BitVec.ofNat 6 n ++ 0#34 : BitVec 40) :=
  (Packs.one 6 n).data (m := 34) rfl

theorem planEntry_data (b : Bool) (id route n : Nat) :
    packData [(1, b.toNat), (12, id), (3, route), (6, n)] =
      (BitVec.ofBool b ++ BitVec.ofNat 12 id ++ BitVec.ofNat 3 route ++ BitVec.ofNat 6 n ++ 0#18 : BitVec 40) :=
  ((Packs.bit b).append (.one 12 id) |>.append (.one 3 route) |>.append (.one 6 n)).data (m := 18) rfl

theorem junctionSummary_data (s : State) :
    packData s.junctionSummary =
      (BitVec.ofBool s.junct.presence ++ BitVec.ofBool s.caution ++ BitVec.ofBool s.junct.overflow ++
        BitVec.ofBool s.junct.pendingOverride.isSome ++ BitVec.ofNat 3 (s.junct.pendingOverride.getD 0) ++
        BitVec.ofNat 3 s.junct.list.length ++ BitVec.ofNat 6 s.junct.plan.length ++ s.junct.seq ++
        BitVec.ofNat 7 s.junct.table.length ++ 0#14 : BitVec 40) := by
  have hfields := ((Packs.bit s.junct.presence).append (.bit s.caution) |>.append (.bit s.junct.overflow)
    |>.append (.opt 3 s.junct.pendingOverride) |>.append (.one 3 s.junct.list.length) |>.append (.one 6 s.junct.plan.length)
    |>.append (.bits s.junct.seq) |>.append (.one 7 s.junct.table.length))
  refine (hfields.data (m := 14) rfl).trans ?_
  simp only [optBits, BitVec.append_assoc, BitVec.cast_eq]

theorem transaction_data (y : Transaction) (now : Nat) :
    packData (y.fields now) =
      (BitVec.ofNat 12 y.id ++ BitVec.ofNat 3 y.route ++ BitVec.ofNat 2 y.source.code ++ y.seq ++ BitVec.ofNat 3 y.state.code ++
        BitVec.ofNat 2 y.tries ++ optBits 3 (y.last.map resultCode) ++
        BitVec.ofNat 8 ((y.timer.map fun due => (due - now + 9) / 10).getD 0) ++ 0#3 : BitVec 40) :=
  ((Packs.one 12 y.id).append (.one 3 y.route) |>.append (.one 2 y.source.code) |>.append (.bits y.seq)
    |>.append (.one 3 y.state.code) |>.append (.one 2 y.tries) |>.append (.opt 3 (y.last.map resultCode))
    |>.append (.one 8 ((y.timer.map (unitsLeft 10 now)).getD 0))).data (m := 3) rfl

theorem distances_data (y : Transaction) (odometer : Nat) :
    packData (y.distances odometer) =
      (BitVec.ofNat 12 y.id ++ BitVec.ofNat 9 ((y.cautionMark - odometer) / 1000) ++
        BitVec.ofNat 9 ((y.clearMark - odometer) / 1000) ++ 0#10 : BitVec 40) :=
  ((Packs.one 12 y.id).append (.one 9 (metresTo odometer y.cautionMark))
    |>.append (.one 9 (metresTo odometer y.clearMark))).data (m := 10) rfl

end Sys2Proof.Proofs
end

section
/-! The obligation of JUNCT's records (O53). -/

namespace Sys2Proof.Proofs

open Sys2Proof Sys2Proof.Machine

section
variable {s : State} (h : Taking .V s)
include h

theorem exec_tableDelete (id : BitVec 16) :
    exec (.tableDelete .V id) s = .next (State.conclude .V 0x61 (s.tableDeleteRule id.toNat)) :=
  congrArg Host.Outcome.next (State.command_taken h (f := permitVehicle) rfl rfl)

theorem exec_tableRead (x q : BitVec 8) :
    exec (.tableRead .V x q) s = .next (State.conclude .V 0x62 (s, s.tableReadRule x.toNat q.toNat)) :=
  congrArg Host.Outcome.next (State.command_taken h (f := permitVehicle) rfl rfl)

theorem exec_tableSignature : exec (.tableSignature .V) s = .next (State.conclude .V 0x63 (s, s.signatureRule)) :=
  congrArg Host.Outcome.next (State.command_taken h (f := permitVehicle) rfl rfl)

theorem exec_planAppend (id : BitVec 16) (r : BitVec 8) :
    exec (.planAppend .V id r) s = .next (State.conclude .V 0x64 (s.planAppendRule id.toNat r.toNat)) :=
  congrArg Host.Outcome.next (State.command_taken h (f := permitVehicle) rfl rfl)

theorem exec_planClear : exec (.planClear .V) s = .next (State.conclude .V 0x65 s.planClearRule) :=
  congrArg Host.Outcome.next (State.command_taken h (f := permitVehicle) rfl rfl)

theorem exec_planRead (x : BitVec 8) : exec (.planRead .V x) s = .next (State.conclude .V 0x66 (s, s.planReadRule x.toNat)) :=
  congrArg Host.Outcome.next (State.command_taken h (f := permitVehicle) rfl rfl)

/-- TABLE DELETE in the order of its tests (R146). -/
theorem tableDelete_answered (id : BitVec 16) :
    if ∀ e ∈ s.junct.table, e.id ≠ id.toNat then exec (.tableDelete .V id) s = .next (s.refuse .V 0x61 .unknownJunction)
    else if (s.junct.live id.toNat).isSome then exec (.tableDelete .V id) s = .next (s.refuse .V 0x61 .inUse)
    else if ∃ q ∈ s.junct.plan, q.id = id.toNat then exec (.tableDelete .V id) s = .next (s.refuse .V 0x61 .conflict)
    else exec (.tableDelete .V id) s =
      .next ({ s with junct := { s.junct with table := s.junct.table.filter fun e => decide (e.id ≠ id.toNat) } }.reply .V
        (doneReply 0x61 0)) := by
  have hunknown : (s.junct.entry id.toNat).isNone = true ↔ ∀ e ∈ s.junct.table, e.id ≠ id.toNat := by
    rw [Option.isNone_iff_eq_none, JunctRec.entry_none]
  have hplan : (s.junct.plan.any fun q => decide (q.id = id.toNat)) = true ↔ ∃ q ∈ s.junct.plan, q.id = id.toNat := by
    simp only [List.any_eq_true, decide_eq_true_eq]
  rw [exec_tableDelete h, State.tableDeleteRule]
  by_cases hu : ∀ e ∈ s.junct.table, e.id ≠ id.toNat
  · rw [if_pos hu, if_pos (hunknown.mpr hu), State.conclude_refusal h.2.2]
  rw [if_neg hu, if_neg fun e => hu (hunknown.mp e)]
  by_cases hl : (s.junct.live id.toNat).isSome = true
  · rw [if_pos hl, if_pos hl, State.conclude_refusal h.2.2]
  rw [if_neg hl, if_neg hl]
  by_cases hq : ∃ q ∈ s.junct.plan, q.id = id.toNat
  · rw [if_pos hq, if_pos (hplan.mpr hq), State.conclude_refusal h.2.2]
  rw [if_neg hq, if_neg fun e => hq (hplan.mp e)]
  exact congrArg Host.Outcome.next (State.conclude_quiet h.2.2)

omit h in
/-- An entry's part 0, and its part 1, which holds no field (R147; log 24). -/
theorem entry_part (e : Entry) :
    Answer.part [(12, e.id)] e.fields 0 = .done (packData ([(12, e.id)] ++ e.fields)) ∧
      Answer.part [(12, e.id)] e.fields 1 = .refused .outOfRange := by
  have hend : partStart (roomLeft 40 [(12, e.id)]) 1 e.fields = [] := (Packs.entry e).partStart_end (m := 6) rfl 0
  constructor
  · rw [Answer.part, partData_some rfl]
    rfl
  · rw [Answer.part, partData_none hend]

theorem tableRead_out {x q : BitVec 8} (hout : 95 < x.toNat ∨ 1 < q.toNat) :
    exec (.tableRead .V x q) s = .next (s.refuse .V 0x62 .outOfRange) := by
  rw [exec_tableRead h, State.tableReadRule, if_pos hout, State.conclude_refusal h.2.2]

theorem tableRead_absent {x q : BitVec 8} (hx : x.toNat ≤ 95) (hq : q.toNat ≤ 1) (hnone : s.junct.table[x.toNat]? = none) :
    exec (.tableRead .V x q) s = .next (s.reply .V (doneReply 0x62 0)) := by
  rw [exec_tableRead h, State.tableReadRule, if_neg (by omega), hnone]
  exact congrArg Host.Outcome.next (conclude_read .V 0x62 0 h.2.2)

theorem tableRead_present {x q : BitVec 8} {e : Entry} (hx : x.toNat ≤ 95) (hq : q.toNat ≤ 1) (he : s.junct.table[x.toNat]? = some e) :
    exec (.tableRead .V x q) s = .next (State.conclude .V 0x62 (s, Answer.part [(12, e.id)] e.fields q.toNat)) := by
  rw [exec_tableRead h, State.tableReadRule, if_neg (by omega), he]

/-- PLAN READ (R149). -/
theorem planRead_answered {x : BitVec 8} (hx : x.toNat ≤ 31) :
    exec (.planRead .V x) s = .next (s.reply .V (doneReply 0x66
      (BitVec.ofBool (s.junct.plan[x.toNat]?).isSome ++ BitVec.ofNat 12 ((s.junct.plan[x.toNat]?.map PlanEntry.id).getD 0) ++
        BitVec.ofNat 3 ((s.junct.plan[x.toNat]?.map PlanEntry.route).getD 0) ++ BitVec.ofNat 6 s.junct.plan.length ++
        0#18 : BitVec 40))) := by
  rw [exec_planRead h, State.planReadRule, if_neg (by omega), ← planEntry_data]
  cases s.junct.plan[x.toNat]? with
  | none => exact congrArg Host.Outcome.next (conclude_read .V 0x66 _ h.2.2)
  | some q => exact congrArg Host.Outcome.next (conclude_read .V 0x66 _ h.2.2)

end

/-- The caution ceiling (R163). -/
theorem caution_iff (s : State) :
    s.caution = true ↔ s.junct.overflow = true ∨ ∃ y ∈ s.junct.list, y.state ≠ .set ∧ y.cautionMark ≤ s.wheel.odometer := by
  simp only [State.caution, JunctRec.caution, Bool.or_eq_true, List.any_eq_true, Bool.and_eq_true, decide_eq_true_eq]

section
variable {s : State} {p : Port} (h : Taking p s)
include h

theorem exec_getJunction (x q : BitVec 8) :
    exec (.getJunction p x q) s = .next (State.conclude p 0x23 (s, s.junctionRule x.toNat q.toNat)) :=
  congrArg Host.Outcome.next (State.command_taken h (f := permitAll) rfl rfl)

theorem getJunction_present {x q : BitVec 8} {y : Transaction} (hx : 1 ≤ x.toNat) (hx4 : x.toNat ≤ 4) (hq : q.toNat ≤ 1)
    (hy : s.junct.list[x.toNat - 1]? = some y) :
    exec (.getJunction p x q) s = .next (s.reply p (doneReply 0x23
      (packData (if q.toNat = 0 then y.fields s.now else y.distances s.wheel.odometer)))) := by
  rw [exec_getJunction h, State.junctionRule, if_neg (by omega), if_neg (by omega), hy]
  exact congrArg Host.Outcome.next (conclude_read p 0x23 _ h.2.2)

theorem getJunction_absent {x q : BitVec 8} (hx : 1 ≤ x.toNat) (hx4 : x.toNat ≤ 4) (hq : q.toNat ≤ 1)
    (hlen : s.junct.list.length < x.toNat) : exec (.getJunction p x q) s = .next (s.reply p (doneReply 0x23 0)) := by
  have hnone : s.junct.list[x.toNat - 1]? = none := List.getElem?_eq_none (by omega)
  rw [exec_getJunction h, State.junctionRule, if_neg (by omega), if_neg (by omega), hnone]
  exact congrArg Host.Outcome.next (conclude_read p 0x23 0 h.2.2)

end

/-- Settles O53: the table's, the plan's and the transactions' commands. -/
theorem junctionRecordsAnswered : Obligations.JunctionRecordsAnswered := by
  refine ⟨fun s h hinv => ⟨tableDelete_answered h, fun x q => ⟨tableRead_out h, fun hx hq => ?_, fun hx hq => ?_⟩, ?_⟩,
    fun s h hinv => ⟨fun id r => ?_, ?_, fun x => ⟨fun hx => ?_, planRead_answered h⟩⟩,
    fun s p x q h => ⟨fun hout => ?_, fun hx => ?_, getJunction_absent h, fun y hx hx4 hy => ⟨fun hq => ?_, fun hq => ?_⟩⟩, caution_iff⟩
  · subst hq
    cases he : s.junct.table[x.toNat]? with
    | none => exact tableRead_absent h hx (by decide) he
    | some e =>
      rw [tableRead_present h hx (by decide) he]
      refine congrArg Host.Outcome.next ?_
      refine (congrArg (fun a => State.conclude .V 0x62 (s, a)) (entry_part e).1).trans ?_
      rw [conclude_read .V 0x62 _ h.2.2, tableEntry_data]
  · subst hq
    by_cases hlen : x.toNat < s.junct.table.length
    · rw [if_pos hlen, tableRead_present h hx (by decide) (List.getElem?_eq_getElem hlen)]
      refine congrArg Host.Outcome.next ?_
      refine (congrArg (fun a => State.conclude .V 0x62 (s, a)) (entry_part _).2).trans ?_
      exact State.conclude_refusal h.2.2
    · rw [if_neg hlen, tableRead_absent h hx (by decide) (List.getElem?_eq_none (not_lt.mp hlen))]
  · rw [exec_tableSignature h, State.signatureRule, signature_data, conclude_read .V 0x63 _ h.2.2]
    rfl
  · by_cases hfull : s.junct.plan.length = 32
    · rw [if_pos hfull, exec_planAppend h, State.planAppendRule, if_pos hfull.ge, State.conclude_refusal h.2.2]
    have hroom : ¬32 ≤ s.junct.plan.length := by
      obtain ⟨_, _, _, hlen, _⟩ := hinv
      omega
    rw [if_neg hfull, exec_planAppend h, State.planAppendRule, if_neg hroom]
    cases s.junct.entry id.toNat with
    | none => exact congrArg Host.Outcome.next (State.conclude_refusal h.2.2)
    | some e =>
      change if r = 0 ∨ e.routes < r.toNat then _ else _
      have hbad : r.toNat = 0 ∨ e.routes < r.toNat ↔ r = 0 ∨ e.routes < r.toNat := or_congr (toNat_eq_zero_iff r) Iff.rfl
      by_cases hr : r = 0 ∨ e.routes < r.toNat
      · rw [if_pos hr]
        refine congrArg Host.Outcome.next ((congrArg _ (if_pos (hbad.mpr hr))).trans (State.conclude_refusal h.2.2))
      · rw [if_neg hr]
        refine congrArg Host.Outcome.next ((congrArg _ (if_neg fun e => hr (hbad.mp e))).trans ?_)
        refine (State.conclude_quiet h.2.2).trans ?_
        have hlen : (s.junct.plan ++ [({ id := id.toNat, route := r.toNat } : PlanEntry)]).length = s.junct.plan.length + 1 := by simp
        rw [← hlen, ← planLength_data]
        rfl
  · exact (exec_planClear h).trans (congrArg Host.Outcome.next (State.conclude_quiet h.2.2))
  · rw [exec_planRead h, State.planReadRule, if_pos hx, State.conclude_refusal h.2.2]
  · have hx : x.toNat ≠ 0 := hout.elim (fun e => by omega) fun e e' => e.1 ((toNat_eq_zero_iff x).mp e')
    rw [exec_getJunction h, State.junctionRule, if_neg hx, if_pos (hout.imp id And.right), State.conclude_refusal h.2.2]
  · rw [exec_getJunction h, State.junctionRule, if_pos (by rw [hx]; rfl), junctionSummary_data, conclude_read p 0x23 _ h.2.2]
  · subst hq
    rw [getJunction_present h hx hx4 (by decide) hy, if_neg (by decide), distances_data]
  · subst hq
    rw [getJunction_present h hx hx4 (by decide) hy, if_pos (by decide), transaction_data]

end Sys2Proof.Proofs
end

/-! ## Proofs: what each command may change of what the invariants read -/

section
/-! SUPPORT. The things that the invariants read of a state, and a calculus of what an operation leaves of them: `Only w s t` says
that of these things at most those listed in `w` differ. Ports, notices, the clock and the fields that no invariant reads are no
aspect, so they may change freely. -/

namespace Sys2Proof.Proofs

open Sys2Proof Sys2Proof.Machine

/-! ### The aspects of a state -/

/-- What the invariants read of a state; `rest` is STATIONARY, `hazard` the hazard request. -/
inductive Aspect
  | sources | demand | output | mismatch | auth | vigil | wheel | rest | stations | die | faults | linkUp | stop | junct | settings
  | touch | supply | held | doors | hazard
deriving DecidableEq

/-- The hazard request is placed. -/
def hazardPlaced (r : SoundRec) : Bool := decide (r.req .hazard ≠ .notPlaced)

/-- An aspect stands in `t` as it does in `s`. -/
def Aspect.kept (s t : State) : Aspect → Prop
  | .sources => t.shaper.sources = s.shaper.sources
  | .demand => t.shaper.demand = s.shaper.demand
  | .output => (t.shaper.o, t.shaper.oPrev, t.shaper.t, t.shaper.vLim, t.shaper.c) =
      (s.shaper.o, s.shaper.oPrev, s.shaper.t, s.shaper.vLim, s.shaper.c)
  | .mismatch => t.shaper.mismatch = s.shaper.mismatch
  | .auth => t.auth = s.auth
  | .vigil => t.vigil = s.vigil
  | .wheel => t.wheel = s.wheel
  | .rest => t.wheel.stationary = s.wheel.stationary
  | .stations => (t.tlink.tu1, t.tlink.tu2, t.tlink.brk, t.tlink.cycle) = (s.tlink.tu1, s.tlink.tu2, s.tlink.brk, s.tlink.cycle)
  | .die => (t.die.following, t.die.recovery, t.die.chans) = (s.die.following, s.die.recovery, s.die.chans)
  | .faults => (t.outbank.live, t.outbank.liveUv, t.outbank.sticky, t.outbank.badRun, t.outbank.goodRun) =
      (s.outbank.live, s.outbank.liveUv, s.outbank.sticky, s.outbank.badRun, s.outbank.goodRun)
  | .linkUp => t.outbank.linkUp = s.outbank.linkUp
  | .stop => (t.stop.chans, t.stop.record, t.stop.sect, t.stop.history) =
      (s.stop.chans, s.stop.record, s.stop.sect, s.stop.history)
  | .junct => t.junct = s.junct
  | .settings => t.settings = s.settings
  | .touch => t.settings.touch = s.settings.touch
  | .supply => (t.supply.lowRun, t.supply.causes, t.supply.latest, t.supply.batLow, t.supply.batHigh) =
      (s.supply.lowRun, s.supply.causes, s.supply.latest, s.supply.batLow, s.supply.batHigh)
  | .held => t.held = s.held
  | .doors => t.lines.dcl = s.lines.dcl
  | .hazard => hazardPlaced t.sound = hazardPlaced s.sound

/-- Of the aspects at most those listed differ. -/
def Only (w : List Aspect) (s t : State) : Prop := ∀ a, a ∉ w → a.kept s t

theorem Aspect.kept_refl (s : State) (a : Aspect) : a.kept s s := by cases a <;> rfl

theorem Aspect.kept_trans {s t u : State} {a : Aspect} (h : a.kept s t) (h' : a.kept t u) : a.kept s u := by
  cases a <;> exact Eq.trans h' h

theorem Only.refl {w : List Aspect} (s : State) : Only w s s := fun a _ => a.kept_refl s

theorem Only.trans {w : List Aspect} {s t u : State} (h : Only w s t) (h' : Only w t u) : Only w s u :=
  fun a ha => Aspect.kept_trans (h a ha) (h' a ha)

theorem Only.mono {w w' : List Aspect} {s t : State} (h : Only w s t) (hw : w ⊆ w') : Only w' s t :=
  fun a ha => h a fun hm => ha (hw hm)

theorem Only.ite {w : List Aspect} {s t u : State} {b : Prop} [Decidable b] (h : Only w s t) (h' : Only w s u) :
    Only w s (if b then t else u) := by
  split <;> assumption

/-! ### The end of a step and the taking of a frame -/

theorem deliver_only (s : State) : Only [] s s.deliver := fun a _ => by cases a <;> rfl

theorem reply_only (p : Port) (r : Reply) (s : State) : Only [] s (s.reply p r) := fun a _ => by cases a <;> rfl

theorem release_only (p : Port) (s : State) : Only [] s (s.release p) := fun a _ => by cases a <;> rfl

theorem reach_only (n : Nat) (s : State) : Only [] s (s.reach n) := fun a _ => by cases a <;> rfl

theorem raise_only (k : Notice) (s : State) : Only [] s (s.raise k) := fun a _ => by cases a <;> rfl

theorem raiseIf_only (b : Bool) (k : Notice) (s : State) : Only [] s (s.raiseIf b k) := fun a _ => by cases a <;> rfl

section
variable {w : List Aspect} {s : State}

theorem taking_only (p : Port) {f : State → State} (h : Only w s (f s)) : Only w s (s.taking p f) :=
  .ite (.refl s) (.ite ((release_only p s).mono (List.nil_subset w)) h)

theorem conclude_only (p : Port) (code : Byte) {r : State × Answer} (h : Only w s r.1) : Only w s (State.conclude p code r) :=
  h.trans (((reply_only p _ _).trans (deliver_only _)).mono (List.nil_subset w))

/-- A command changes no more than its rule. -/
theorem command_only (p : Port) (code : Byte) {rule : State → State × Answer} (h : Only w s (rule s).1) :
    Only w s (s.command p code rule) := by
  refine taking_only p (conclude_only p code ?_)
  split
  · exact h
  · exact .refl s

/-- An event changes no more than its effect. -/
theorem event_only {f : State → State} (h : Only w s (f s)) : Only w s (s.event f) :=
  .ite (.refl s) (h.trans ((deliver_only _).mono (List.nil_subset w)))

/-- A line's event changes no more than its level and its effect. -/
theorem lineEvent_only {level effect : State → State} (hl : Only w s (level s)) (h : Only w s (effect s)) :
    Only w s (s.lineEvent level effect) :=
  .ite hl (h.trans ((deliver_only _).mono (List.nil_subset w)))

end

/-! ### SOUND's hazard request -/

theorem hazardPlaced_of_soundKept {a b : SoundRec} {l : List Sounder} (h : soundKept a b l) (hl : .hazard ∉ l) :
    hazardPlaced b = hazardPlaced a := by
  have hreq : b.req .hazard = a.req .hazard := (h.1 .hazard hl).2
  simp only [hazardPlaced, hreq]

theorem hazardPlaced_of_req {a b : SoundRec} (h : b.req .hazard = a.req .hazard) : hazardPlaced b = hazardPlaced a := by
  simp only [hazardPlaced, h]

theorem hazardPlaced_place (r : SoundRec) (now : Nat) : hazardPlaced (r.place now .hazard) = true :=
  decide_eq_true (r.place_req now .hazard)

theorem hazardPlaced_withdraw (r : SoundRec) (now : Nat) : hazardPlaced (r.withdraw now .hazard) = false := by
  simp [hazardPlaced, SoundRec.withdraw_req]

/-- A one-shot request leaves every level request. -/
@[simp] theorem oneShot_req (r : SoundRec) (now : Nat) (c e : Sounder) (p : Fin 8) (who : Requester) :
    (r.oneShot now c p who).req e = r.req e := by
  unfold SoundRec.oneShot
  dsimp only
  repeat' split
  all_goals rfl

@[simp] theorem alert_req (r : SoundRec) (now : Nat) (a : Auth) (e : Sounder) : (r.alert now a).req e = r.req e := by
  cases a <;> simp [SoundRec.alert]

@[simp] theorem endIf_req (r : SoundRec) (now : Nat) (test : Instance → Bool) (c e : Sounder) :
    (r.endIf now test c).req e = r.req e := by
  unfold SoundRec.endIf
  repeat' split
  all_goals simp

theorem foldl_endIf_req (now : Nat) (test : Instance → Bool) (e : Sounder) (l : List Sounder) (r : SoundRec) :
    (l.foldl (fun s c => s.endIf now test c) r).req e = r.req e := by
  induction l generalizing r with
  | nil => rfl
  | cons c l ih => rw [List.foldl_cons, ih, endIf_req]

/-- Ending instances leaves every level request. -/
theorem endWhere_req (r : SoundRec) (now : Nat) (test : Instance → Bool) (e : Sounder) :
    (r.endWhere now test).req e = r.req e :=
  foldl_endIf_req now test e allSounders r

theorem hazardPlaced_testSlot (r : SoundRec) (t : Option (SetChannel × Instance)) :
    hazardPlaced { r with testSlot := t } = hazardPlaced r := rfl

theorem hazardPlaced_endTests (r : SoundRec) (now : Nat) : hazardPlaced (r.endTests now) = hazardPlaced r :=
  (hazardPlaced_testSlot _ _).trans (hazardPlaced_of_req (endWhere_req r now _ .hazard))

theorem hazardPlaced_endPattern (r : SoundRec) (now : Nat) (p : Fin 8) : hazardPlaced (r.endPattern now p) = hazardPlaced r :=
  (hazardPlaced_testSlot _ _).trans (hazardPlaced_of_req (endWhere_req r now _ .hazard))

theorem hazardPlaced_minRunReached (r : SoundRec) (now : Nat) (c : Sounder) :
    hazardPlaced (r.minRunReached now c) = hazardPlaced r := by
  refine hazardPlaced_of_req ?_
  unfold SoundRec.minRunReached
  repeat' split
  all_goals simp

/-- A step that runs out may mark a placed request spent; it stays placed. -/
theorem hazardPlaced_stepExpiry (r : SoundRec) (now : Nat) (c : Sounder) : hazardPlaced (r.stepExpiry now c) = hazardPlaced r := by
  unfold SoundRec.stepExpiry
  split
  · rfl
  split
  · exact hazardPlaced_of_req (SoundRec.req_putSlot r now c .hazard _)
  · dsimp only
    rw [hazardPlaced_of_req (SoundRec.endSlot_req _ now c .hazard)]
    split
    next hspent =>
      by_cases hc : c = .hazard
      · subst hc
        have hplaced : r.req .hazard ≠ .notPlaced := by
          rw [Bool.and_eq_true, decide_eq_true_eq] at hspent
          exact hspent.2
        simp [hazardPlaced, SoundRec.req_putReq, hplaced]
      · exact hazardPlaced_of_req (by simp [SoundRec.req_putReq, Ne.symm hc])
    · rfl

theorem hazardPlaced_expire (r : SoundRec) (now : Nat) (slot : SlotId) : hazardPlaced (r.expire now slot) = hazardPlaced r := by
  cases slot with
  | sounder c => exact hazardPlaced_stepExpiry r now c
  | test =>
    refine hazardPlaced_of_req ?_
    change (r.testExpiry now).req .hazard = _
    unfold SoundRec.testExpiry
    split <;> rfl

/-- A change of SOUND alone that leaves the hazard request. -/
theorem sound_only (s : State) {r : SoundRec} (h : hazardPlaced r = hazardPlaced s.sound) : Only [] s { s with sound := r } :=
  fun a _ => by
    cases a
    case hazard => exact h
    all_goals rfl

end Sys2Proof.Proofs
end

section
/-! SUPPORT. What each operation of the blocks changes of the aspects. -/

namespace Sys2Proof.Proofs

open Sys2Proof Sys2Proof.Machine

/-! ### The emergency source set -/

theorem addSource_only (k : EmSource) (s : State) : Only [.sources, .output, .hazard] s (s.addSource k) := fun a ha => by
  cases a <;> simp at ha <;> rfl

theorem addSourceIf_only (b : Bool) (k : EmSource) (s : State) : Only [.sources, .output, .hazard] s (s.addSourceIf b k) :=
  .ite (addSource_only k s) (.refl s)

theorem removeSource_only (k : EmSource) (s : State) : Only [.sources, .output, .hazard] s (s.removeSource k) := fun a ha => by
  cases a <;> simp at ha <;> rfl

theorem removeSourceIf_only (b : Bool) (k : EmSource) (s : State) :
    Only [.sources, .output, .hazard] s (s.removeSourceIf b k) :=
  .ite (removeSource_only k s) (.refl s)

theorem testStandstill_only (s : State) : Only [.sources, .output, .hazard] s s.testStandstill :=
  ((((removeSourceIf_only _ _ _).trans (removeSourceIf_only _ _ _)).trans (removeSourceIf_only _ _ _)).trans
    (removeSourceIf_only _ _ _)).trans (removeSourceIf_only _ _ _)

/-! ### VIGIL and SOUND -/

theorem refreshHornBell_only (s : State) : Only [] s s.refreshHornBell :=
  sound_only s (hazardPlaced_of_soundKept (refreshHornBell_soundKept s.sound s.now s.auth s.shaper) (by decide))

/-- A new vigilance record with its buzzer request. -/
theorem refreshBuzzer_only (s : State) : Only [.vigil] s s.refreshBuzzer := fun a ha => by
  cases a
  case vigil => simp at ha
  case hazard => exact hazardPlaced_of_soundKept (refreshBuzzer_soundKept s.sound s.now s.auth _) (by decide)
  all_goals rfl

/-- A change of VIGIL's record alone. -/
theorem vigil_only (s : State) (v : VigilRec) : Only [.vigil] s { s with vigil := v } := fun a ha => by
  cases a <;> simp at ha <;> rfl

theorem vigilStands_only (s : State) : Only [.vigil] s s.vigilStands :=
  .ite ((vigil_only s _).trans (refreshBuzzer_only _)) (.refl s)

theorem vigilMoves_only (s : State) : Only [.vigil] s s.vigilMoves :=
  .ite ((vigil_only s _).trans (refreshBuzzer_only _)) (.refl s)

theorem vigilVacant_only (s : State) : Only [.vigil] s s.vigilVacant := (vigil_only s _).trans (refreshBuzzer_only _)

theorem vigilFrame_only (f : Attention) (s : State) : Only [.vigil] s (s.vigilFrame f) :=
  (vigil_only s _).trans (refreshBuzzer_only _)

theorem enterPenalty_only (s : State) : Only [.vigil, .sources, .output, .hazard] s s.enterPenalty :=
  ((((vigil_only s _).trans (refreshBuzzer_only _)).mono (by decide)).trans ((addSource_only .penalty _).mono (by decide))).trans
    ((raise_only .vigilPenalty _).mono (List.nil_subset _))

theorem vigilResetTaken_only (s : State) : Only [.vigil, .sources, .output, .hazard] s s.vigilResetTaken :=
  ((vigil_only s _).mono (by decide)).trans ((removeSource_only .penalty _).mono (by decide))

theorem activityExpiry_only (s : State) : Only [.vigil] s s.activityExpiry := by
  unfold State.activityExpiry
  split
  · exact (((reach_only _ s).mono (List.nil_subset _)).trans (vigil_only _ _)).trans (refreshBuzzer_only _)
  · exact .refl s

theorem warnExpiry_only (s : State) : Only [.vigil, .sources, .output, .hazard] s s.warnExpiry := by
  unfold State.warnExpiry
  split
  · exact ((reach_only _ s).mono (List.nil_subset _)).trans (enterPenalty_only _)
  · exact .refl s

theorem graceExpiry_only (s : State) : Only [.vigil, .sources, .output, .hazard] s s.graceExpiry := by
  unfold State.graceExpiry
  split
  · exact .ite (((reach_only _ s).mono (List.nil_subset _)).trans (enterPenalty_only _)) (.refl s)
  · exact .refl s

theorem slotExpiry_only (slot : SlotId) (s : State) : Only [] s (s.slotExpiry slot) := by
  unfold State.slotExpiry
  split
  · exact .refl s
  · exact (reach_only _ s).trans (sound_only _ (hazardPlaced_expire s.sound _ slot))

theorem minRun_only (c : Sounder) (s : State) : Only [] s (s.minRun c) := by
  unfold State.minRun
  split
  · exact .refl s
  · exact (reach_only _ s).trans (sound_only _ (hazardPlaced_minRunReached s.sound _ c))

theorem toneChange_only (s : State) : Only [] s s.toneChange := by
  unfold State.toneChange
  split
  · exact .refl s
  · exact .ite ((reach_only _ s).trans (sound_only _ rfl)) (.refl s)

/-! ### JUNCT and STOPREQ -/

/-- A change of JUNCT's record alone. -/
theorem junct_only (s : State) (j : JunctRec) : Only [.junct] s { s with junct := j } := fun a ha => by
  cases a <;> simp at ha <;> rfl

theorem cancelAll_only (s : State) : Only [.junct] s s.cancelAll := fun a ha => by
  cases a <;> simp at ha <;> rfl

theorem retireCleared_only (s : State) : Only [.junct] s s.retireCleared := fun a ha => by
  cases a <;> simp at ha <;> rfl

theorem changeTrans_only (t t' : Transaction) (s : State) : Only [.junct] s (s.changeTrans t t') := fun a ha => by
  cases a
  case junct => simp at ha
  case hazard =>
    change hazardPlaced (if _ then _ else _) = _
    split
    · exact hazardPlaced_of_req (alert_req s.sound s.now s.auth .hazard)
    · rfl
  all_goals rfl

theorem reRequest_only (t : Transaction) (route : Nat) (source : RouteSource) (s : State) :
    Only [.junct] s (s.reRequest t route source) :=
  (changeTrans_only t _ s).trans (junct_only _ _)

theorem createTrans_only (e : Entry) (s : State) : Only [.junct] s (s.createTrans e) := fun a ha => by
  cases a <;> simp at ha <;> rfl

theorem requestBeacon_only (id : Nat) (s : State) : Only [.junct] s (s.requestBeacon id) := by
  refine (junct_only s (s.junct.beacon s.now)).trans ?_
  refine .ite (.refl _) (.ite (.refl _) ?_)
  split
  · exact (raise_only .junctionUnknown _).mono (List.nil_subset _)
  · exact .ite (((raise_only .junctionOverflow _).mono (List.nil_subset _)).trans (junct_only _ _)) (createTrans_only _ _)

theorem confirmBeacon_only (id routeSet : Nat) (locked occupied : Bool) (s : State) :
    Only [.junct] s (s.confirmBeacon id routeSet locked occupied) := by
  refine (junct_only s (s.junct.beacon s.now)).trans ?_
  unfold State.confirmBeacon
  dsimp only
  split
  · exact .refl _
  · exact .ite (changeTrans_only _ _ _) (.refl _)

theorem report_only (id tram : Nat) (seq : BitVec 3) (r : ReportResult) (routeSet : Nat) (s : State) :
    Only [.junct] s (s.report id tram seq r routeSet) := by
  refine .ite (.refl s) ?_
  split
  · exact .refl s
  · exact .ite (.refl s) (changeTrans_only _ _ s)

theorem telegram_only {w : List Aspect} {id routeSet : Nat} {f : State → State} {s : State} (h : Only w s (f s)) :
    Only w s (s.telegram id routeSet f) :=
  .ite h (.refl s)

theorem reportExpiry_only (id : Nat) (s : State) : Only [.junct] s (s.reportExpiry id) := by
  unfold State.reportExpiry
  split
  · exact .refl s
  split
  · exact .refl s
  · exact ((reach_only _ s).mono (List.nil_subset _)).trans (.ite (junct_only _ _) (changeTrans_only _ _ _))

theorem loopLapse_only (s : State) : Only [.junct] s s.loopLapse := by
  unfold State.loopLapse
  split
  next due _ _ =>
    refine ((reach_only due s).mono (List.nil_subset _)).trans fun a ha => ?_
    cases a
    case junct => simp at ha
    case hazard =>
      change hazardPlaced (if _ then _ else _) = _
      split
      · exact hazardPlaced_of_req (alert_req _ _ _ .hazard)
      · rfl
    all_goals rfl
  · exact .refl s

/-- A change of STOPREQ's record alone. -/
theorem stop_only (s : State) (r : StopReqRec) : Only [.stop] s { s with stop := r } := fun a ha => by
  cases a <;> simp at ha <;> rfl

theorem cancelStop_only (s : State) : Only [.stop] s s.cancelStop := fun a ha => by
  cases a <;> simp at ha <;> rfl

theorem sectionEnd_only (s : State) : Only [.stop] s s.sectionEnd := fun a ha => by
  cases a <;> simp at ha <;> rfl

theorem testSectionEnd_only (s : State) : Only [.stop] s s.testSectionEnd := .ite (sectionEnd_only s) (.refl s)

theorem setStop_only (src : StopSource) (s : State) : Only [.stop] s (s.setStop src) := fun a ha => by
  cases a <;> simp at ha <;> rfl

theorem confirmPress_only (x : Assignment) (s : State) : Only [.stop] s (s.confirmPress x) := by
  refine .ite (fun a ha => ?_) (.refl s)
  cases a
  case stop => simp at ha
  case hazard =>
    change hazardPlaced (if _ then _ else _) = _
    split
    · exact hazardPlaced_of_req (oneShot_req s.sound s.now .chime .hazard 5 .stopreq)
    · rfl
  all_goals rfl

theorem scanStart_only (s : State) : Only [] s s.scanStart := fun a _ => by cases a <;> rfl

theorem gateEnd_only (k : Fin 16) (n : Nat) (s : State) : Only [.stop] s (s.gateEnd k n) := by
  refine ((reach_only ((s.stop.scanAt.map fun t => t + k.val + 1).getD s.now) s).mono (List.nil_subset _)).trans ?_
  have hjudged (u : State) (x : StopReqRec) (m : BitVec 20) : Only [.stop] u { u with stop := x, raised := m } := fun a ha => by
    cases a <;> simp at ha <;> rfl
  exact .ite ((hjudged _ _ _).trans (confirmPress_only _ _)) (hjudged _ _ _)

theorem doorsOpen_only (s : State) : Only [.stop, .doors] s s.doorsOpen := by
  unfold State.doorsOpen
  dsimp only
  refine .trans (t := _) (fun a ha => ?_) (.ite ((testSectionEnd_only _).mono (by decide)) (.refl _))
  cases a <;> simp at ha <;> rfl

theorem doorsClose_only (s : State) : Only [.stop, .doors] s s.doorsClose := fun a ha => by
  cases a <;> simp at ha <;> rfl

end Sys2Proof.Proofs
end

section
/-! SUPPORT. What AUTH's transitions, a window end, a period, the links and the resets change of the aspects. -/

namespace Sys2Proof.Proofs

open Sys2Proof Sys2Proof.Machine

/-- What an authority transition may change. -/
abbrev authorityAspects : List Aspect := [.sources, .demand, .output, .auth, .vigil, .stop, .junct, .hazard]

/-- Every aspect of the control die: what a reset may change. -/
abbrev controlAspects : List Aspect :=
  [.sources, .demand, .output, .mismatch, .auth, .vigil, .wheel, .rest, .stations, .faults, .linkUp, .stop, .junct, .settings,
    .touch, .supply, .held, .doors, .hazard]

/-! ### AUTH -/

theorem endClaim_only (c : Cab) (s : State) : Only [.auth] s (s.endClaim c) := fun a ha => by
  cases a <;> simp at ha <;> rfl

theorem claimExpiry_only (s : State) : Only [.auth] s s.claimExpiry := by
  unfold State.claimExpiry
  split
  · exact ((reach_only _ s).mono (List.nil_subset _)).trans (endClaim_only _ _)
  · exact .refl s

theorem silenceHornBell_hazard (r : SoundRec) (now : Nat) : hazardPlaced (r.silenceHornBell now) = hazardPlaced r :=
  hazardPlaced_of_soundKept (silenceHornBell_soundKept r now) (by decide)

/-- The entry to VACANT before LEVER is tested (R15). -/
def leftHeld (s : State) : State :=
  State.vigilVacant <| State.cancelAll <| State.raise .authChanged
    { s with auth := .vacant, shaper := s.shaper.leaveHeld, sound := s.sound.silenceHornBell s.now }

theorem enterVacant_leftHeld (s : State) :
    s.enterVacant = (leftHeld s).removeSourceIf ((leftHeld s).wheel.stationary && (leftHeld s).shaper.leverBack) .lever := rfl

/-- The entry to LOST before its source is added (R13). -/
def leftLost (x : Cab) (d : Direction) (s : State) : State :=
  State.raise .authChanged { s with auth := .lost x d, shaper := s.shaper.leaveHeld }

theorem enterLost_leftLost (x : Cab) (d : Direction) (s : State) :
    s.enterLost x d = ((leftLost x d s).addSource .authLost).cancelAll.refreshHornBell := rfl

/-- The entry to HELD before STARTUP and LOOP_DROPPED are removed (R10). -/
def heldSeeded (x : Cab) (c : Claimant) (s : State) : State :=
  State.refreshBuzzer <| State.raiseIf (decide (stageOfAge (s.now - c.frameTime) = .staleBrake)) .demandStale <|
    State.raise .authChanged
      { s with auth := .held x .neutral, shaper := s.shaper.seed s.now c, vigil := s.vigil.enterHeld c.lever c.handle }

theorem enterHeld_heldSeeded (x : Cab) (c : Claimant) (s : State) :
    s.enterHeld x c = ((heldSeeded x c s).removeSource .startup).testLoopDropped.cancelStop.cancelAll.refreshHornBell := rfl

theorem leftHeld_only (s : State) : Only [.demand, .auth, .vigil, .junct] s (leftHeld s) := by
  refine Only.trans (t := { s with auth := .vacant, shaper := s.shaper.leaveHeld, sound := s.sound.silenceHornBell s.now })
    (fun a ha => ?_)
    ((((raise_only .authChanged _).mono (List.nil_subset _)).trans ((cancelAll_only _).mono (by decide))).trans
      ((vigilVacant_only _).mono (by decide)))
  cases a
  case hazard => exact silenceHornBell_hazard s.sound s.now
  all_goals simp at ha <;> rfl

theorem leftLost_only (x : Cab) (d : Direction) (s : State) : Only [.demand, .auth] s (leftLost x d s) := fun a ha => by
  cases a <;> simp at ha <;> rfl

theorem heldSeeded_only (x : Cab) (c : Claimant) (s : State) : Only [.demand, .auth, .vigil] s (heldSeeded x c s) := by
  refine Only.trans
    (t := { s with auth := .held x .neutral, shaper := s.shaper.seed s.now c, vigil := s.vigil.enterHeld c.lever c.handle })
    (fun a ha => ?_)
    ((((raise_only .authChanged _).mono (List.nil_subset _)).trans ((raiseIf_only _ _ _).mono (List.nil_subset _))).trans
      ((refreshBuzzer_only _).mono (by decide)))
  cases a <;> simp at ha <;> rfl

theorem enterVacant_only (s : State) : Only [.sources, .demand, .output, .auth, .vigil, .junct, .hazard] s s.enterVacant :=
  ((leftHeld_only s).mono (by decide)).trans ((removeSourceIf_only _ .lever _).mono (by decide))

theorem enterLost_only (x : Cab) (d : Direction) (s : State) :
    Only [.sources, .demand, .output, .auth, .vigil, .junct, .hazard] s (s.enterLost x d) :=
  ((((leftLost_only x d s).mono (by decide)).trans ((addSource_only .authLost _).mono (by decide))).trans
    ((cancelAll_only _).mono (by decide))).trans ((refreshHornBell_only _).mono (List.nil_subset _))

/-- The entry to HELD before the stop record is cleared (R10). -/
theorem heldTested_only (x : Cab) (c : Claimant) (s : State) :
    Only [.sources, .demand, .output, .auth, .vigil, .hazard] s ((heldSeeded x c s).removeSource .startup).testLoopDropped :=
  (((heldSeeded_only x c s).mono (by decide)).trans ((removeSource_only .startup _).mono (by decide))).trans
    ((removeSourceIf_only _ .loopDropped _).mono (by decide))

theorem enterHeld_only (x : Cab) (c : Claimant) (s : State) : Only authorityAspects s (s.enterHeld x c) :=
  ((((heldTested_only x c s).mono (by decide)).trans ((cancelStop_only _).mono (by decide))).trans
    ((cancelAll_only _).mono (by decide))).trans ((refreshHornBell_only _).mono (List.nil_subset _))

theorem syncCheck_only (s : State) : Only authorityAspects s s.syncCheck := by
  unfold State.syncCheck
  split
  · exact .ite (enterHeld_only _ _ s) (.refl s)
  · exact .refl s

theorem endLost_only (s : State) : Only [.sources, .demand, .output, .auth, .vigil, .junct, .hazard] s s.endLost := by
  unfold State.endLost
  split
  · exact (enterVacant_only s).trans ((removeSource_only .authLost _).mono (by decide))
  · exact .refl s

theorem keyGoesOff_only (x : Cab) (s : State) :
    Only [.sources, .demand, .output, .auth, .vigil, .junct, .hazard] s (s.keyGoesOff x) := by
  unfold State.keyGoesOff
  split
  · exact .ite ((endClaim_only _ s).mono (by decide)) (.refl s)
  · exact .ite (.ite (enterVacant_only s) (enterLost_only _ _ s)) (.refl s)
  · exact .refl s

theorem turn_only (x : Cab) (d : Direction) (s : State) : Only [.auth, .wheel, .junct] s (s.turn x d) := by
  refine Only.trans
    (t := { s with
      auth := .held x d, shaper := { s.shaper with zeroPass := false }, wheel := { s.wheel with reverse := 0 }
      sound := s.sound.silenceHornBell s.now })
    (fun a ha => ?_) (((raise_only .authChanged _).mono (List.nil_subset _)).trans ((cancelAll_only _).mono (by decide)))
  cases a
  case hazard => exact silenceHornBell_hazard s.sound s.now
  all_goals simp at ha <;> rfl

/-! ### WHEEL -/

/-- A change of WHEEL's record that keeps STATIONARY. -/
theorem wheel_only (s : State) {w : WheelRec} (m : BitVec 20) (h : w.stationary = s.wheel.stationary) :
    Only [.wheel] s { s with wheel := w, raised := m } := fun a ha => by
  cases a
  case rest => exact h
  all_goals simp at ha <;> rfl

theorem travel_stationary (w : WheelRec) (c : Nat) : (w.travel c).stationary = w.stationary := by
  unfold WheelRec.travel
  split <;> rfl

theorem odometerPulse_only (b : Bool) (s : State) : Only [.wheel, .junct] s (s.odometerPulse b) := by
  unfold State.odometerPulse
  dsimp only
  refine .trans ((wheel_only s _ ?_).mono (by decide)) ((retireCleared_only _).mono (by decide))
  split <;> exact travel_stationary s.wheel s.settings.circumference

theorem pulse_only (i : Sensor) (b : Bool) (s : State) : Only [.wheel, .junct] s (s.pulse i b) := by
  have hcount : Only [.wheel, .junct] s { s with wheel := s.wheel.pulse i } :=
    (wheel_only s (w := s.wheel.pulse i) s.raised rfl).mono (by decide)
  exact .ite (hcount.trans (odometerPulse_only b _)) hcount

theorem runOnExpiry_only (s : State) : Only [.wheel] s s.runOnExpiry := by
  unfold State.runOnExpiry
  split
  · exact .refl s
  · exact ((reach_only _ s).mono (List.nil_subset _)).trans (wheel_only _ s.raised rfl)

theorem slipReported_only (s : State) : Only [.wheel] s s.slipReported := wheel_only s _ rfl

theorem publishWindow_only (s : State) : Only [.wheel, .rest] s s.publishWindow := fun a ha => by
  cases a <;> simp at ha <;> rfl

theorem comesToRest_only (s : State) : Only authorityAspects s s.comesToRest :=
  (((((show Only authorityAspects s s.handleAtRest from fun a ha => by cases a <;> simp at ha <;> rfl).trans
    ((testStandstill_only _).mono (by decide))).trans ((vigilStands_only _).mono (by decide))).trans
    ((testSectionEnd_only _).mono (by decide))).trans ((endLost_only _).mono (by decide)))

theorem doorMoving_only (s : State) : Only [] s s.doorMoving := fun a _ => by cases a <;> rfl

theorem beginsToMove_only (s : State) : Only [.sources, .output, .vigil, .hazard] s s.beginsToMove :=
  (((addSourceIf_only _ _ s).mono (by decide)).trans ((doorMoving_only _).mono (List.nil_subset _))).trans
    ((vigilMoves_only _).mono (by decide))

/-- What a window end may change. -/
abbrev windowAspects : List Aspect := [.sources, .demand, .output, .auth, .vigil, .wheel, .rest, .stop, .junct, .hazard]

theorem windowEnd_only (s : State) : Only windowAspects s s.windowEnd :=
  (((reach_only (s.wheel.windowAt + 250) s).mono (List.nil_subset _)).trans ((publishWindow_only _).mono (by decide))).trans
    ((Only.ite ((comesToRest_only _).mono (by decide))
      (.ite ((beginsToMove_only _).mono (by decide)) (.refl _))).trans ((syncCheck_only _).mono (by decide)))

/-! ### SHAPER -/

/-- A change of SHAPER's record that keeps sources, demand, output and mismatch run. -/
theorem shaper_only (s : State) {sh : ShaperRec} (h : sh.sources = s.shaper.sources) (hd : sh.demand = s.shaper.demand)
    (ho : (sh.o, sh.oPrev, sh.t, sh.vLim, sh.c) = (s.shaper.o, s.shaper.oPrev, s.shaper.t, s.shaper.vLim, s.shaper.c))
    (hm : sh.mismatch = s.shaper.mismatch) : Only [] s { s with shaper := sh } := fun a _ => by
  cases a
  case sources => exact h
  case demand => exact hd
  case output => exact ho
  case mismatch => exact hm
  all_goals rfl

theorem departure_only (s : State) : Only [] s s.departure := by
  have hbell (r : SoundRec) (e : Cab) (b : Prop) [Decidable b] (h : hazardPlaced r = hazardPlaced s.sound) :
      hazardPlaced (if b then r.oneShot s.now (bellOf e) 2 .departureBell else r) = hazardPlaced s.sound := by
    split
    · exact (hazardPlaced_of_req (oneShot_req r s.now (bellOf e) .hazard 2 .departureBell)).trans h
    · exact h
  refine sound_only s ?_
  cases s.auth.leading with
  | none => rfl
  | some e => exact hbell s.sound e _ rfl

theorem shaperPeriod_only (s : State) : Only [.output] s s.shaperPeriod := by
  refine (((reach_only (s.shaper.periodAt + 10) s).mono (List.nil_subset _)).trans fun a ha => ?_).trans
    ((departure_only ((s.reach (s.shaper.periodAt + 10)).publishPeriod (s.reach (s.shaper.periodAt + 10)).computePeriod)).mono
      (List.nil_subset _))
  cases a <;> simp at ha <;> rfl

theorem freshExpiry_only (s : State) : Only [] s s.freshExpiry := by
  unfold State.freshExpiry
  split
  · exact ((reach_only _ s).trans (shaper_only _ rfl rfl rfl rfl)).trans (refreshHornBell_only _)
  · exact .refl s

theorem staleExpiry_only (s : State) : Only [] s s.staleExpiry := by
  unfold State.staleExpiry
  split
  · exact ((reach_only _ s).trans (shaper_only _ rfl rfl rfl rfl)).trans (raise_only .demandStale _)
  · exact .refl s

/-- What a holder's frame may change. -/
abbrev frameAspects : List Aspect := [.sources, .demand, .output, .auth, .vigil, .wheel, .stop, .junct, .hazard]

theorem frameWrite_only (f : DemandFrame) (s : State) :
    Only [.sources, .demand, .output, .hazard] s (s.frameWrite f) := by
  refine Only.trans (t := { s with shaper := { s.shaper with demand := some (.ofFrame f s.now), stage := .fresh } })
    (fun a ha => ?_) ((removeSourceIf_only _ _ _).mono (by decide))
  cases a <;> simp at ha <;> rfl

/-- The stages of a holder's frame after the turn (R37). -/
theorem frameStages_only (before : Option DemandBody) (f : DemandFrame) (u : State) :
    Only [.sources, .demand, .output, .vigil, .hazard] u
      ((((u.frameHandle f).frameWrite f).frameLever f).frameHandOn before f) := by
  have hhandle : Only [] u (u.frameHandle f) := shaper_only u rfl rfl rfl rfl
  have hlever (v : State) : Only [.sources, .output, .hazard] v (v.frameLever f) :=
    ((shaper_only v rfl rfl rfl rfl).mono (List.nil_subset _)).trans (addSourceIf_only _ .lever _)
  exact ((((hhandle.mono (List.nil_subset _)).trans ((frameWrite_only f _).mono (by decide))).trans
    ((hlever _).mono (by decide))).trans ((vigilFrame_only _ _).mono (by decide))).trans
    ((refreshHornBell_only _).mono (List.nil_subset _))

theorem holderFrame_only (x : Cab) (d : Direction) (f : DemandFrame) (s : State) : Only frameAspects s (s.holderFrame x d f) :=
  Only.trans (t := if s.turns d then s.turn x d else s) (.ite ((turn_only x d s).mono (by decide)) (.refl s))
    ((frameStages_only s.shaper.demand f _).mono (by decide))

theorem claimantFrame_only (d : Direction) (f : DemandFrame) (s : State) : Only authorityAspects s (s.claimantFrame d f) := by
  unfold State.claimantFrame
  split
  next x start _ _ =>
    refine Only.trans (fun a ha => ?_) (syncCheck_only _)
    cases a <;> simp at ha <;> rfl
  · exact .refl s

theorem demandRule_only (f : DemandFrame) (s : State) : Only frameAspects s (s.demandRule f).1 := by
  unfold State.demandRule
  split
  · exact .refl s
  split
  · exact holderFrame_only _ _ f s
  · exact (claimantFrame_only _ f s).mono (by decide)

/-! ### The dies and their link -/

theorem sendDrive_only (x : DriveArrival) (openLoad : BitVec 12) (s : State) : Only [.die] s (s.sendDrive x openLoad) :=
  fun a ha => by cases a <;> simp at ha <;> rfl

/-- A change of the switch die's record alone. -/
theorem die_only (s : State) (d : DieRec) : Only [.die] s { s with die := d } := fun a ha => by
  cases a <;> simp at ha <;> rfl

theorem dieSafe_only (s : State) : Only [.die] s s.dieSafe :=
  .ite (((reach_only _ s).mono (List.nil_subset _)).trans (die_only _ _)) (.refl s)

theorem retryExpiry_only (n : Fin 12) (s : State) : Only [.die] s (s.retryExpiry n) := by
  unfold State.retryExpiry
  split
  · exact ((reach_only _ s).mono (List.nil_subset _)).trans (die_only _ _)
  · exact .refl s

theorem addSticky_only (x : Additions) (s : State) : Only [.faults] s (s.addSticky x) := fun a ha => by
  cases a <;> simp at ha <;> rfl

/-- What a slot's close may change. -/
abbrev slotAspects : List Aspect := [.sources, .output, .mismatch, .faults, .linkUp, .hazard]

theorem slotClose_only (x : StatusArrival) (s : State) : Only slotAspects s (s.slotClose x) := by
  have hbad : Only slotAspects s s.badSlot := by
    refine Only.trans (fun a ha => ?_) (((addSticky_only _ _).mono (by decide)).trans
      ((addSourceIf_only _ .loopDropped _).mono (by decide)))
    cases a <;> simp at ha <;> rfl
  have hgood (f : StatusFrame) : Only slotAspects s (s.goodSlot f) := by
    unfold State.goodSlot
    dsimp only
    refine Only.trans (fun a ha => ?_) (((addSticky_only _ _).mono (by decide)).trans
      (Only.trans (t := State.addSourceIf _ .loopDropped _) ((addSourceIf_only _ .loopDropped _).mono (by decide))
        (.ite ((removeSourceIf_only _ _ _).mono (by decide)) (.refl _))))
    cases a <;> simp at ha <;> rfl
  have hused (u : State) : Only slotAspects u { u with die := { u.die with status := none } } := fun a _ => by cases a <;> rfl
  unfold State.slotClose
  dsimp only
  refine .trans ?_ (hused _)
  split
  · exact .ite (hgood _) hbad
  · exact hbad

theorem summaryRule_only (p : Port) (s : State) : Only [.faults] s (s.summaryRule p).1 := fun a ha => by
  cases a <;> simp at ha <;> rfl

/-! ### TLINK -/

theorem cycleStart_only (s : State) : Only [.stations] s s.cycleStart := fun a ha => by
  cases a <;> simp at ha <;> rfl

/-- What the close of a poll may change. -/
abbrev pollAspects : List Aspect := .stations :: authorityAspects

theorem answer_only (s : State) : Only [] s s.answer := fun a _ => by cases a <;> rfl

theorem closeTu1_only (r : TuRec) (s : State) : Only [.stations] s (s.closeTu1 r) := fun a ha => by
  cases a <;> simp at ha <;> rfl

theorem closeTu2_only (r : TuRec) (s : State) : Only [.stations] s (s.closeTu2 r) := fun a ha => by
  cases a <;> simp at ha <;> rfl

theorem closeBrk_only (r : BrkRec) (s : State) : Only pollAspects s (s.closeBrk r) := by
  unfold State.closeBrk
  dsimp only
  refine Only.trans (fun a ha => ?_) (Only.trans (.ite ((removeSourceIf_only _ _ _).mono (by decide))
    (.ite ((addSourceIf_only _ .brakeLink _).mono (by decide)) (.refl _))) ((syncCheck_only _).mono (by decide)))
  cases a <;> simp at ha <;> rfl

theorem closeMiss_only (st : Station) (s : State) : Only pollAspects s (s.closeMiss st) := by
  cases st with
  | tu1 => exact (closeTu1_only _ s).mono (by decide)
  | tu2 => exact (closeTu2_only _ s).mono (by decide)
  | brk => exact closeBrk_only _ s

theorem takeSlip_only (r : TuReply) (s : State) : Only [.wheel] s (s.takeSlip r) := .ite (slipReported_only s) (.refl s)

theorem closeReply_only (r : StationReply) (s : State) : Only (.wheel :: pollAspects) s (s.closeReply r) := by
  have hmiss (st : Station) : Only (.wheel :: pollAspects) s (s.closeMiss st) := (closeMiss_only st s).mono (by decide)
  cases r with
  | tu1 r =>
    exact .ite (((closeTu1_only _ s).mono (by decide)).trans ((takeSlip_only r _).mono (by decide))) (hmiss .tu1)
  | tu2 r =>
    exact .ite (((closeTu2_only _ s).mono (by decide)).trans ((takeSlip_only r _).mono (by decide))) (hmiss .tu2)
  | brk r => exact (closeBrk_only _ s).mono (by decide)

theorem stationReply_only (r : StationReply) (s : State) : Only (.wheel :: pollAspects) s (s.stationReply r) := by
  have hanswer : Only (.wheel :: pollAspects) s s.answer := (answer_only s).mono (List.nil_subset _)
  unfold State.stationReply
  split
  · exact .refl s
  · exact .ite (hanswer.trans (closeReply_only r _))
      (.ite (.refl s) (hanswer.trans ((closeMiss_only _ _).mono (by decide))))

theorem stationMiss_only (st : Station) (cause : MissCause) (s : State) : Only pollAspects s (s.stationMiss st cause) := by
  unfold State.stationMiss
  split
  · exact .refl s
  split
  · exact .ite (((answer_only s).mono (List.nil_subset _)).trans (closeMiss_only st _)) (.refl s)
  · exact ((reach_only _ s).mono (List.nil_subset _)).trans (closeMiss_only st _)

/-! ### SUPPLY and the resets -/

/-- Of the aspects a reset keeps the switch die alone. -/
theorem controlAspects_only {s t : State} (h : Aspect.die.kept s t) : Only controlAspects s t := fun a ha => by
  cases a
  case die => exact h
  all_goals simp at ha

theorem endReset_only (sel : SelLow) (s : State) : Only controlAspects s (s.endReset sel) := controlAspects_only rfl

theorem enterSupplyLow_only (s : State) : Only controlAspects s s.enterSupplyLow := .ite (.refl s) (controlAspects_only rfl)

/-- A change of SUPPLY's record, the lines and the notices alone. -/
theorem supply_only (s : State) (r : SupplyRec) (m : BitVec 20) : Only [.supply] s { s with supply := r, raised := m } :=
  fun a ha => by cases a <;> simp at ha <;> rfl

theorem coreSample_only (low : Bool) (sel : SelLow) (s : State) : Only controlAspects s (s.coreSample low sel) := by
  have hreach := (reach_only (s.supply.coreAt + 1) s).mono (List.nil_subset controlAspects)
  have hsupply (u : State) (r : SupplyRec) : Only controlAspects u { u with supply := r } :=
    (supply_only u r u.raised).mono (by decide)
  exact hreach.trans (.ite (.ite ((hsupply _ _).trans (enterSupplyLow_only _)) (hsupply _ _))
    (.ite (endReset_only sel _) (hsupply _ _)))

theorem powerOn_only (lines : Lines) (sel : SelLow) (s : State) : Only controlAspects s (s.powerOn lines sel) :=
  controlAspects_only rfl

theorem resetFall_only (s : State) : Only [] s s.resetFall := fun a _ => by cases a <;> rfl

theorem latchArmed_only (s : State) : Only [] s s.latchArmed := fun a _ => by cases a <;> rfl

theorem resetRise_only (sel : SelLow) (s : State) : Only controlAspects s (s.resetRise sel) := by
  have hline : Only controlAspects s { s with lines := { s.lines with resetnLow := false } } := fun a _ => by cases a <;> rfl
  refine hline.trans (.ite (.refl _) ?_)
  split
  · exact ((supply_only _ _ _).mono (by decide)).trans (endReset_only sel _)
  · exact (supply_only _ _ _).mono (by decide)

theorem batterySample_only (mv : Nat) (s : State) : Only [.supply] s (s.batterySample mv) :=
  ((reach_only _ s).mono (List.nil_subset _)).trans (supply_only _ _ _)

end Sys2Proof.Proofs
end

section
/-! SUPPORT. The aspects that each command may change, and that it changes no other. -/

namespace Sys2Proof.Proofs

open Sys2Proof Sys2Proof.Machine

/-! ### The rules of the desk commands -/

theorem claimOn_only (p : Port) (s : State) : Only [.auth] s (s.claimOn p).1 := by
  unfold State.claimOn
  split
  next x _ =>
    unfold State.claimRule
    split
    · split
      · refine Only.trans (fun a ha => ?_) ((raise_only .authChanged _).mono (List.nil_subset _))
        cases a
        case hazard => exact hazardPlaced_endTests s.sound s.now
        all_goals simp at ha <;> rfl
      · exact .refl s
    all_goals exact .refl s
  · exact .refl s

/-- What leaving HELD or LOST may change. -/
abbrev vacantAspects : List Aspect := [.sources, .demand, .output, .auth, .vigil, .junct, .hazard]

theorem releaseRule_only (s : State) : Only vacantAspects s s.releaseRule.1 := by
  unfold State.releaseRule
  split
  · exact enterVacant_only s
  · exact .refl s

theorem vacateRule_only (s : State) : Only vacantAspects s s.vacateRule.1 := by
  unfold State.vacateRule
  split
  · exact .refl s
  · exact (endClaim_only _ s).mono (by decide)
  · split
    · exact enterVacant_only s
    · exact .refl s
  · exact .refl s

theorem vigilResetRule_only (s : State) : Only [.vigil, .sources, .output, .hazard] s s.vigilResetRule.1 := by
  unfold State.vigilResetRule
  repeat' split
  all_goals first | exact .refl s | exact vigilResetTaken_only s

theorem overrideRule_only (route : Nat) (s : State) : Only [.junct] s (s.overrideRule route).1 := by
  unfold State.overrideRule
  dsimp only
  repeat' split
  all_goals first | exact .refl s | exact junct_only s _ | exact reRequest_only _ _ _ s

theorem repeatRule_only (s : State) : Only [.junct] s s.repeatRule.1 := by
  unfold State.repeatRule
  repeat' split
  all_goals first | exact .refl s | exact reRequest_only _ _ _ s

theorem tableWriteRule_only (e : EntryFrame) (s : State) : Only [.junct] s (s.tableWriteRule e).1 := by
  unfold State.tableWriteRule
  dsimp only
  repeat' split
  all_goals first | exact .refl s | exact junct_only s _

theorem tableDeleteRule_only (id : Nat) (s : State) : Only [.junct] s (s.tableDeleteRule id).1 := by
  unfold State.tableDeleteRule
  repeat' split
  all_goals first | exact .refl s | exact junct_only s _

theorem planAppendRule_only (id route : Nat) (s : State) : Only [.junct] s (s.planAppendRule id route).1 := by
  unfold State.planAppendRule
  dsimp only
  repeat' split
  all_goals first | exact .refl s | exact junct_only s _

theorem stopSetRule_only (p : Port) (s : State) : Only [.stop] s (s.stopSetRule p).1 := by
  unfold State.stopSetRule
  repeat' split
  all_goals first | exact .refl s | exact setStop_only _ s

/-- Whatever the channel, an output test leaves the requests. -/
theorem testRule_only (channel : Nat) (s : State) : Only [] s (s.testRule channel).1 := by
  have hsounder (c : Sounder) : Only [] s (s.testSounder c).1 := by
    have hshot := sound_only s (hazardPlaced_of_req (oneShot_req s.sound s.now c .hazard 7 .outputTest))
    unfold State.testSounder
    repeat' split
    all_goals first | exact .refl s | exact hshot
  have hset (ch : SetChannel) : Only [] s (s.testSet ch).1 := by
    unfold State.testSet
    split
    · exact .refl s
    · exact sound_only s rfl
  unfold State.testRule
  repeat' split
  all_goals first | exact .refl s | exact hsounder _ | exact hset _

theorem putPattern_only (n : Fin 8) (p : Pattern) (s : State) : Only [] s (s.putPattern n p) :=
  sound_only s ((hazardPlaced_endPattern _ s.now n).trans rfl)

theorem headerRule_only (number count rep priority minRun : Nat) (s : State) :
    Only [] s (s.headerRule number count rep priority minRun).1 := by
  unfold State.headerRule
  split
  · exact .refl s
  · exact putPattern_only _ _ s

theorem stepRule_only (number index : Nat) (on : Bool) (duration tone : Nat) (s : State) :
    Only [] s (s.stepRule number index on duration tone).1 := by
  unfold State.stepRule
  split
  · exact .refl s
  · exact putPattern_only _ _ s

/-- What a write of a setting may change. -/
abbrev settingAspects : List Aspect := [.settings, .touch, .stop, .supply]

theorem settingRule_only (field value channel : Nat) (s : State) : Only settingAspects s (s.settingRule field value channel).1 := by
  have htouch (k : Fin 16) (x : Assignment) : Only settingAspects s (s.writeTouch k x) := fun a ha => by
    cases a <;> simp at ha <;> rfl
  have hfield : Only settingAspects s (s.writeSetting field value) := fun a ha => by
    cases a <;> simp at ha <;> rfl
  unfold State.settingRule
  dsimp only
  repeat' split
  all_goals first | exact .refl s | exact htouch _ _ | exact hfield

theorem noticesRule_only (p : Port) (s : State) : Only [] s (s.noticesRule p).1 := fun a _ => by cases a <;> rfl

/-! ### Every command -/

/-- The aspects that a command may change. -/
def writes : Instr → List Aspect
  | .demand _ _ => frameAspects
  | .deskClaim _ => [.auth]
  | .deskRelease _ | .vacate _ | .keyOff _ => vacantAspects
  | .vigilReset _ | .warnTimerExpiry | .graceTimerExpiry => [.vigil, .sources, .output, .hazard]
  | .routeOverride _ _ | .junctionRepeat _ | .tableWrite _ _ | .tableDelete _ _ | .planAppend _ _ _ | .planClear _
  | .requestBeacon _ | .confirmBeacon _ _ _ _ | .report _ _ _ _ _ | .loopPresenceLapse | .reportTimerExpiry _ => [.junct]
  | .stopSet _ | .stopCancel _ | .touchMeasurement _ _ => [.stop]
  | .diagSummary _ => [.faults]
  | .setLineLimit _ _ | .setRunNumber _ _ | .settingWrite _ _ _ _ => settingAspects
  | .emstopPress _ | .emstopRelease _ => authorityAspects
  | .dclOpen | .dclClose => [.stop, .doors]
  | .tachoPulse _ _ => [.wheel, .junct]
  | .windowEnd => windowAspects
  | .slipRunOnExpiry => [.wheel]
  | .shaperPeriod => [.output]
  | .claimWindowExpiry => [.auth]
  | .tlinkCycleStart => [.stations]
  | .stationReplyGood _ => .wheel :: pollAspects
  | .stationMiss _ => pollAspects
  | .vigilActivityTimerExpiry => [.vigil]
  | .driveFrame _ _ | .switchDieSafe | .currentLimitTrip _ | .retryExpiry _ | .overtempChange _ _ | .uvRecovery
  | .switchDiePowerUp => [.die]
  | .statusSlotClose _ => slotAspects
  | .coreSupplySample _ _ | .supplyLowReset | .powerOnReset _ _ | .resetnRise _ => controlAspects
  | .batterySample _ => [.supply]
  | .nop _ | .getNotices _ | .getStatus _ _ | .getJunction _ _ _ | .getStopRecord _ _ _ | .touchRead _ _ | .diagChannel _ _
  | .outputTest _ _ | .settingRead _ _ _ | .patternHeader _ _ _ _ _ _ | .patternStep _ _ _ _ _ _ | .tableRead _ _ _
  | .tableSignature _ | .planRead _ _ | .resetCause _ | .unknownCommand _ _ | .frameRejected _ _ _ | .waitingForReleaseEnd _
  | .keyOn _ | .freshness300MsExpiry | .freshness1000MsExpiry | .patternStepExpiry _ | .minimumRunReached _ | .toneHalfPeriod
  | .touchScanStart | .uvOnset | .telegramDropped | .resetnFall | .pinLatchArmed => []

theorem keyTo_only (c : Cab) (on : Bool) (s : State) : Only [] s (s.keyTo c on) := fun a _ => by cases a <;> rfl

theorem emstopTo_only (c : Cab) (pressed : Bool) (s : State) : Only [] s (s.emstopTo c pressed) := fun a _ => by
  cases a <;> rfl

theorem dclTo_only (high : Bool) (s : State) : Only [.stop, .doors] s (s.dclTo high) := fun a ha => by
  cases a <;> simp at ha <;> rfl

/-- A reading command changes no aspect. -/
theorem read_only (p : Port) (code : Byte) (f : State → Answer) (s : State) : Only [] s (s.command p code (reads f)) :=
  command_only p code (.refl s)

/-- A command changes no other aspect than those that `writes` lists. -/
theorem exec_only {i : Instr} {s t : State} (h : exec i s = .next t) : Only (writes i) s t := by
  cases i with
  | nop | getStatus | getJunction | getStopRecord | touchRead | diagChannel | settingRead | tableRead | tableSignature | planRead
  | resetCause =>
    cases h
    exact read_only _ _ _ s
  | getNotices p => cases h; exact command_only p _ (noticesRule_only p s)
  | demand p f => cases h; exact command_only p _ (demandRule_only f s)
  | deskClaim p => cases h; exact command_only p _ (claimOn_only p s)
  | deskRelease p => cases h; exact command_only p _ (releaseRule_only s)
  | vigilReset p => cases h; exact command_only p _ (vigilResetRule_only s)
  | vacate p => cases h; exact command_only p _ (vacateRule_only s)
  | routeOverride p r => cases h; exact command_only p _ (overrideRule_only _ s)
  | junctionRepeat p => cases h; exact command_only p _ (repeatRule_only s)
  | stopSet p => cases h; exact command_only p _ (stopSetRule_only p s)
  | stopCancel p => cases h; exact command_only p _ (cancelStop_only s)
  | diagSummary p => cases h; exact command_only p _ (summaryRule_only p s)
  | outputTest p c => cases h; exact command_only p _ (testRule_only _ s)
  | setLineLimit p | setRunNumber p | settingWrite p => cases h; exact command_only p _ (settingRule_only _ _ _ s)
  | patternHeader p => cases h; exact command_only p _ (headerRule_only _ _ _ _ _ s)
  | patternStep p => cases h; exact command_only p _ (stepRule_only _ _ _ _ _ s)
  | tableWrite p e => cases h; exact command_only p _ (tableWriteRule_only e s)
  | tableDelete p id => cases h; exact command_only p _ (tableDeleteRule_only _ s)
  | planAppend p => cases h; exact command_only p _ (planAppendRule_only _ _ s)
  | planClear p => cases h; exact command_only p _ (junct_only s _)
  | unknownCommand p => cases h; exact taking_only p (conclude_only p _ (.refl s))
  | frameRejected p => cases h; exact taking_only p (reply_only p _ s)
  | waitingForReleaseEnd p => cases h; exact .ite (.refl s) (.ite (release_only p s) (.refl s))
  | keyOff c =>
    cases h
    have hline := (keyTo_only c false s).mono (List.nil_subset vacantAspects)
    exact lineEvent_only hline (hline.trans (keyGoesOff_only c _))
  | keyOn c => cases h; exact lineEvent_only (keyTo_only c true s) (keyTo_only c true s)
  | emstopPress c =>
    cases h
    have hline := (emstopTo_only c true s).mono (List.nil_subset authorityAspects)
    exact lineEvent_only hline
      ((hline.trans ((addSource_only (.emstop c) _).mono (by decide))).trans (syncCheck_only _))
  | emstopRelease c =>
    cases h
    have hline := (emstopTo_only c false s).mono (List.nil_subset authorityAspects)
    exact lineEvent_only hline
      ((hline.trans ((removeSourceIf_only _ (.emstop c) _).mono (by decide))).trans (syncCheck_only _))
  | dclOpen => cases h; exact lineEvent_only (dclTo_only false s) (doorsOpen_only s)
  | dclClose => cases h; exact lineEvent_only (dclTo_only true s) (doorsClose_only s)
  | tachoPulse i b => cases h; exact event_only (pulse_only i b s)
  | windowEnd => cases h; exact event_only (windowEnd_only s)
  | slipRunOnExpiry => cases h; exact event_only (runOnExpiry_only s)
  | shaperPeriod => cases h; exact event_only (shaperPeriod_only s)
  | freshness300MsExpiry => cases h; exact event_only (freshExpiry_only s)
  | freshness1000MsExpiry => cases h; exact event_only (staleExpiry_only s)
  | claimWindowExpiry => cases h; exact event_only (claimExpiry_only s)
  | tlinkCycleStart => cases h; exact event_only (cycleStart_only s)
  | stationReplyGood r => cases h; exact event_only (stationReply_only r s)
  | stationMiss m => cases h; exact event_only (stationMiss_only m.station m.cause s)
  | vigilActivityTimerExpiry => cases h; exact event_only (activityExpiry_only s)
  | warnTimerExpiry => cases h; exact event_only (warnExpiry_only s)
  | graceTimerExpiry => cases h; exact event_only (graceExpiry_only s)
  | patternStepExpiry slot => cases h; exact event_only (slotExpiry_only slot s)
  | minimumRunReached c => cases h; exact event_only (minRun_only c s)
  | toneHalfPeriod => cases h; exact event_only (toneChange_only s)
  | touchScanStart => cases h; exact event_only (scanStart_only s)
  | touchMeasurement k n => cases h; exact event_only (gateEnd_only k _ s)
  | driveFrame x l => cases h; exact event_only (sendDrive_only x l s)
  | switchDieSafe => cases h; exact dieSafe_only s
  | currentLimitTrip | overtempChange | uvRecovery | switchDiePowerUp => cases h; exact die_only s _
  | retryExpiry n => cases h; exact retryExpiry_only n s
  | uvOnset => cases h; exact fun a _ => by cases a <;> rfl
  | statusSlotClose x => cases h; exact event_only (slotClose_only x s)
  | requestBeacon id => cases h; exact event_only (telegram_only (requestBeacon_only _ s))
  | confirmBeacon => cases h; exact event_only (telegram_only (confirmBeacon_only _ _ _ _ s))
  | report => cases h; exact event_only (telegram_only (report_only _ _ _ _ _ s))
  | telegramDropped => cases h; exact .refl s
  | loopPresenceLapse => cases h; exact event_only (loopLapse_only s)
  | reportTimerExpiry id => cases h; exact event_only (reportExpiry_only _ s)
  | coreSupplySample low sel => cases h; exact coreSample_only low sel s
  | supplyLowReset => cases h; exact enterSupplyLow_only s
  | powerOnReset lines sel => cases h; exact powerOn_only lines sel s
  | resetnFall => cases h; exact resetFall_only s
  | pinLatchArmed => cases h; exact latchArmed_only s
  | resetnRise sel => cases h; exact resetRise_only sel s
  | batterySample mv => cases h; exact event_only (batterySample_only mv s)

/-- A step passes 1 ms, or carries out a command from a state that meets the invariant too. -/
theorem step_cases {s t : State} (hs : Inv s) (h : step s = .next t) : Inv t ∨ ∃ i u, Inv u ∧ exec i u = .next t := by
  unfold step at h
  split at h
  next =>
    cases h
    exact .inl hs
  next c rest _ => exact .inr ⟨c, { s with pending := rest }, hs, h⟩

end Sys2Proof.Proofs
end

/-! ## Proofs: the switch die and the sticky sets keep their forms -/

section
/-! The obligation of the switch die and the isolation link (O57). -/

namespace Sys2Proof.Proofs

open Sys2Proof Sys2Proof.Machine

/-! ### The switch die (R110 to R113) -/

/-- A channel of the die in its form: off in SAFE, latched only after three overloads. -/
def chanIn (following : Bool) (c : SwitchChan) : Prop :=
  (following = false → c.sw ≠ .on) ∧ (c.sw = .latchedOff → 3 ≤ c.history.length)

/-- The die in its form. -/
def dieIn (d : DieRec) : Prop :=
  d.recovery ≤ 8 ∧ (d.following = false → d.recovery < 8) ∧ ∀ n : Fin 12, chanIn d.following (cell d.chans n)

theorem dieInv_iff (s : State) : DieInv s ↔ dieIn s.die := Iff.rfl

theorem dieInv_of_kept {s t : State} (h : Aspect.die.kept s t) (hs : DieInv s) : DieInv t := by
  simp only [Aspect.kept, Prod.mk.injEq] at h
  obtain ⟨hf, hr, hc⟩ := h
  simpa only [DieInv, hf, hr, hc] using hs

/-- A channel that is neither on nor latched is in its form in both states of the die. -/
theorem chanIn_of_off {c : SwitchChan} (following : Bool) (hon : c.sw ≠ .on) (hl : c.sw ≠ .latchedOff) : chanIn following c :=
  ⟨fun _ => hon, fun h => absurd h hl⟩

/-- A taken bit is followed only while FOLLOWING. -/
theorem chanIn_drive {following : Bool} {c : SwitchChan} (bit : Bool) (h : chanIn following c) : chanIn true (c.drive bit) := by
  refine ⟨nofun, fun hlatched => ?_⟩
  unfold SwitchChan.drive at hlatched ⊢
  cases hsw : c.sw with
  | off | on => cases bit <;> simp [hsw] at hlatched
  | retryWait due => simp [hsw] at hlatched
  | latchedOff =>
    cases bit with
    | true => simpa using h.2 hsw
    | false => simp [hsw] at hlatched

theorem dieIn_take {d : DieRec} (bits : BitVec 12) (hf : d.following = true) (h : dieIn d) : dieIn (d.take bits) := by
  obtain ⟨hrec, -, hchans⟩ := h
  refine ⟨hrec, fun hsafe => absurd (hf.symm.trans hsafe) (by decide), fun n => ?_⟩
  have := chanIn_drive (hasFlag bits n.val) (hchans n)
  simpa [DieRec.take, hf] using this

theorem dieIn_goodFrame {d : DieRec} (now : Nat) (f : DriveFrame) (h : dieIn d) : dieIn (d.goodFrame now f) := by
  obtain ⟨hrec, hsafe, hchans⟩ := h
  unfold DieRec.goodFrame
  dsimp only
  split
  next hf => exact dieIn_take f.bits hf ⟨hrec, hsafe, hchans⟩
  next hf =>
    split
    · refine dieIn_take f.bits rfl ⟨Nat.le_refl 8, nofun, fun n => ⟨nofun, (hchans n).2⟩⟩
    next hfew => exact ⟨by dsimp only; omega, fun _ => by dsimp only; omega, hchans⟩

theorem dieIn_badFrame {d : DieRec} (h : dieIn d) : dieIn d.badFrame := by
  obtain ⟨hrec, -, hchans⟩ := h
  refine ⟨?_, fun hf => ?_, hchans⟩
  · change (if _ then _ else _) ≤ 8
    split <;> omega
  · have hf : d.following = false := hf
    simp [DieRec.badFrame, hf]

/-- A drive frame, however it arrives, leaves the die in its form. -/
theorem dieIn_receive {d : DieRec} (now : Nat) (f : DriveFrame) (x : DriveArrival) (openLoad : BitVec 12) (h : dieIn d) :
    dieIn (d.receive now f x openLoad) := by
  cases x with
  | good => exact dieIn_goodFrame now f h
  | bad => exact dieIn_badFrame h
  | lost => exact h

theorem dieIn_enterSafe {d : DieRec} (h : dieIn d) : dieIn d.enterSafe := by
  obtain ⟨-, -, hchans⟩ := h
  refine ⟨Nat.zero_le 8, fun _ => Nat.zero_lt_succ 7, fun n => ?_⟩
  have hlatched := (hchans n).2
  simp only [DieRec.enterSafe, cell_rowOf, chanIn]
  cases hsw : (cell d.chans n).sw <;> simp [hsw] at hlatched ⊢
  exact hlatched

/-- One channel replaced. -/
theorem dieIn_putCell {d : DieRec} {n : Fin 12} {c : SwitchChan} (h : dieIn d) (hc : chanIn d.following c) :
    dieIn { d with chans := putCell d.chans n c } := by
  obtain ⟨hrec, hsafe, hchans⟩ := h
  refine ⟨hrec, hsafe, fun m => ?_⟩
  by_cases hm : m = n
  · subst hm
    simpa using hc
  · simpa [cell_putCell, hm] using hchans m

theorem dieIn_trip {d : DieRec} (now : Nat) (n : Fin 12) (h : dieIn d) : dieIn (d.trip now n) := by
  unfold DieRec.trip
  split
  · refine dieIn_putCell h ?_
    unfold SwitchChan.overload chanIn
    dsimp only
    split
    next hthree => exact ⟨fun _ => nofun, fun _ => hthree⟩
    · exact ⟨fun _ => nofun, nofun⟩
  · exact h

theorem dieIn_setHot {d : DieRec} (n : Fin 12) (hot : Bool) (h : dieIn d) : dieIn (d.setHot n hot) :=
  dieIn_putCell h (h.2.2 n)

/-- Every channel restarted: off with no history. -/
theorem dieIn_restarted {d : DieRec} {chans : Vector SwitchChan 12} (h : dieIn d)
    (hoff : ∀ n, (cell chans n).sw = .off) : dieIn { d with chans := chans } := by
  obtain ⟨hrec, hsafe, -⟩ := h
  exact ⟨hrec, hsafe, fun n => chanIn_of_off _ (by simp [hoff n]) (by simp [hoff n])⟩

theorem dieIn_uvRecover {d : DieRec} (h : dieIn d) : dieIn d.uvRecover :=
  dieIn_restarted (d := { d with uv := false }) h fun n => by simp

theorem dieIn_restart (d : DieRec) : dieIn d.restart :=
  ⟨Nat.zero_le 8, fun _ => Nat.zero_lt_succ 7, fun n => chanIn_of_off _ (by simp [DieRec.restart]) (by simp [DieRec.restart])⟩

theorem dieInv_retryExpiry {s : State} (n : Fin 12) (h : DieInv s) : DieInv (s.retryExpiry n) := by
  unfold State.retryExpiry
  split
  · refine dieIn_putCell h ⟨fun hsafe => ?_, ?_⟩
    · have hsafe : s.die.following = false := hsafe
      simp [hsafe]
    · dsimp only
      split <;> nofun
  · exact h

/-- Every command leaves the switch die in its form. -/
theorem exec_dieInv {i : Instr} {s t : State} (hs : DieInv s) (h : exec i s = .next t) : DieInv t := by
  cases i with
  | driveFrame x l =>
    cases h
    unfold State.event
    split
    · exact hs
    · exact dieIn_receive _ _ x l hs
  | switchDieSafe =>
    cases h
    unfold State.dieSafe
    split
    · exact dieIn_enterSafe hs
    · exact hs
  | currentLimitTrip n => cases h; exact dieIn_trip s.now n hs
  | retryExpiry n => cases h; exact dieInv_retryExpiry n hs
  | overtempChange n hot => cases h; exact dieIn_setHot n hot hs
  | uvRecovery => cases h; exact dieIn_uvRecover hs
  | switchDiePowerUp => cases h; exact dieIn_restart s.die
  | _ => exact dieInv_of_kept (exec_only h .die (by simp [writes])) hs

end Sys2Proof.Proofs
end

section
/-! SUPPORT. A predicate that every reset brings about, and that the other samples of SUPPLY leave, is kept by the commands of
SUPPLY (R178 to R180). -/

namespace Sys2Proof.Proofs

open Sys2Proof Sys2Proof.Machine

/-- What SUPPLY_LOW leaves of a die not yet held (R178). -/
def heldLow (s : State) : State :=
  { s.resetBlocks with held := true, supply := { s.resetBlocks.supply.note .supplyLow with lowRun := 8 } }

theorem enterSupplyLow_cases (s : State) : s.enterSupplyLow = if s.held then s else heldLow s := rfl

/-- A predicate that SUPPLY's record, the clock and RESETn's level do not bear on, and that holds after every reset. -/
structure ResetKept (P : State → Prop) : Prop where
  record : ∀ (s : State) (r : SupplyRec) (n : Nat) (l : Bool), P s →
    P { s with supply := r, now := n, lines := { s.lines with resetnLow := l } }
  ended : ∀ (sel : SelLow) (s : State), P (s.endReset sel)
  low : ∀ s : State, P (heldLow s)

section
variable {P : State → Prop} (hP : ResetKept P) {s : State}
include hP

theorem ResetKept.enterSupplyLow (hs : P s) : P s.enterSupplyLow := by
  rw [enterSupplyLow_cases]
  split
  · exact hs
  · exact hP.low s

theorem ResetKept.coreSample (low : Bool) (sel : SelLow) (hs : P s) : P (s.coreSample low sel) := by
  have hrecord (r : SupplyRec) : P { s.reach (s.supply.coreAt + 1) with supply := r } :=
    hP.record s r (max s.now (s.supply.coreAt + 1)) s.lines.resetnLow hs
  unfold State.coreSample
  dsimp only
  split
  · split
    · exact hP.enterSupplyLow (hrecord _)
    · exact hrecord _
  split
  · exact hP.ended sel _
  · exact hrecord _

theorem ResetKept.powerOn (lines : Lines) (sel : SelLow) : P (s.powerOn lines sel) := hP.ended sel _

theorem ResetKept.resetRise (sel : SelLow) (hs : P s) : P (s.resetRise sel) := by
  have hrecord (r : SupplyRec) : P { s with supply := r, lines := { s.lines with resetnLow := false } } :=
    hP.record s r s.now false hs
  unfold State.resetRise
  dsimp only
  split
  · exact hrecord s.supply
  split
  · exact hP.ended sel _
  · exact hrecord _

end

end Sys2Proof.Proofs
end

section
/-! The obligation of the switch die and the isolation link, continued (O57). -/

namespace Sys2Proof.Proofs

open Sys2Proof Sys2Proof.Machine

/-! ### The isolation link (R66, R116, R120, R121) -/

/-- The runs of the link agree with its state. -/
def runsIn (o : OutbankRec) : Prop :=
  o.badRun ≤ 16 ∧ o.goodRun ≤ 8 ∧ (o.linkUp = true → o.badRun < 16) ∧ (o.linkUp = false → o.goodRun < 8)

theorem linkInv_iff (s : State) :
    LinkInv s ↔ runsIn s.outbank ∧ (∀ p, stickyHolds s.outbank (s.outbank.sticky.get p)) ∧ s.shaper.mismatch < 3 := by
  constructor
  · rintro ⟨hbad, hgood, hup, hdown, ha, hb, hv, hm⟩
    refine ⟨⟨hbad, hgood, hup, hdown⟩, fun p => ?_, hm⟩
    cases p <;> assumption
  · rintro ⟨⟨hbad, hgood, hup, hdown⟩, hp, hm⟩
    exact ⟨hbad, hgood, hup, hdown, hp .A, hp .B, hp .V, hm⟩

theorem linkInv_of_kept {s t : State} (hf : Aspect.faults.kept s t) (hu : Aspect.linkUp.kept s t) (hm : Aspect.mismatch.kept s t)
    (hs : LinkInv s) : LinkInv t := by
  simp only [Aspect.kept, Prod.mk.injEq] at hf hu hm
  obtain ⟨hlive, hlu, hst, hbad, hgood⟩ := hf
  simpa only [LinkInv, stickyHolds, hlive, hlu, hst, hbad, hgood, hu, hm] using hs

theorem linkInv_of_reset {s : State} (ho : s.outbank = .reset) (hm : s.shaper.mismatch = 0) : LinkInv s := by
  have hsticky : stickyHolds .reset .reset := ⟨fun _ => rfl, fun _ => rfl, nofun⟩
  rw [linkInv_iff, ho, hm]
  exact ⟨⟨Nat.le_refl 16, Nat.zero_le 8, nofun, fun _ => Nat.zero_lt_succ 7⟩, fun p => by cases p <;> exact hsticky,
    Nat.zero_lt_succ 2⟩

theorem linkInv_resetKept : ResetKept LinkInv where
  record _ _ _ _ hs := hs
  ended _ _ := linkInv_of_reset rfl rfl
  low _ := linkInv_of_reset rfl rfl

/-- Kinds added to a sticky set are in it. -/
theorem and_or_self {n : Nat} (x y : BitVec n) : y &&& (x ||| y) = y := by
  ext i
  simp
  tauto

theorem cell_add (k : Sticky) (x : Additions) (n : Fin 12) : cell (k.add x).chans n = cell k.chans n ||| cell x.chans n := by
  simp [Sticky.add]

theorem frameTaken_live (f : StatusFrame) (s : State) :
    (frameTaken f s).outbank.live = rowOf fun n => chanFlags (cell f.chans n) := rfl

theorem frameTaken_sticky (f : StatusFrame) (s : State) (p : Port) :
    (frameTaken f s).outbank.sticky.get p = (s.outbank.sticky.get p).add (goodAdditions f) := addSticky_sticky _ _ p

theorem slotMissed_sticky (s : State) (p : Port) :
    (slotMissed s).outbank.sticky.get p = (s.outbank.sticky.get p).add (badAdditions s) := addSticky_sticky _ _ p

/-- What stays live stays in the set; what a good frame reports joins it. -/
theorem stickyHolds_frameTaken {s : State} (f : StatusFrame) (p : Port)
    (h : stickyHolds s.outbank (s.outbank.sticky.get p)) :
    stickyHolds (frameTaken f s).outbank ((frameTaken f s).outbank.sticky.get p) := by
  obtain ⟨hlost, -, -⟩ := h
  rw [frameTaken_sticky]
  refine ⟨fun hdown => ?_, nofun, fun _ => ⟨fun huv => ?_, fun n => ?_⟩⟩
  · obtain ⟨hdown, -⟩ := Bool.or_eq_false_iff.mp hdown
    change (_ || _) = true
    rw [hlost hdown, Bool.true_or]
  · have huv : f.uv = true := huv
    change (_ || f.uv) = true
    rw [huv, Bool.or_true]
  · rw [frameTaken_live, cell_add, goodAdditions]
    exact and_or_self _ _

theorem runsIn_frameTaken {s : State} (f : StatusFrame) (h : runsIn s.outbank) : runsIn (frameTaken f s).outbank := by
  obtain ⟨-, hgood, -, -⟩ := h
  refine ⟨Nat.zero_le 16, Nat.min_le_left 8 _, fun _ => Nat.zero_lt_succ 15, fun hdown => ?_⟩
  obtain ⟨hdown, hnot⟩ := Bool.or_eq_false_iff.mp hdown
  have hfew : ¬8 ≤ s.outbank.goodRun + 1 := fun h8 => by
    have hup : comesUp s = true := (comesUp_iff s).mpr ⟨hdown, by omega⟩
    rw [hup] at hnot
    exact Bool.noConfusion hnot
  change min 8 (s.outbank.goodRun + 1) < 8
  omega

theorem loopRun_le (s : State) (f : StatusFrame) : loopRun s f ≤ s.shaper.mismatch + 1 := by
  rw [loopRun_eq]
  split <;> omega

theorem linkInv_afterGood {s : State} (f : StatusFrame) (h : LinkInv s) : LinkInv (afterGood s f) := by
  obtain ⟨hruns, hsticky, hm⟩ := (linkInv_iff s).mp h
  have hout : (afterGood s f).outbank = (frameTaken f s).outbank := afterGood_outbank
  refine (linkInv_iff _).mpr ?_
  rw [hout, afterGood_shaper_eq]
  refine ⟨runsIn_frameTaken f hruns, fun p => stickyHolds_frameTaken f p (hsticky p), ?_⟩
  have hle := loopRun_le s f
  dsimp only
  split <;> omega

theorem stickyHolds_slotMissed {s : State} (p : Port) (h : stickyHolds s.outbank (s.outbank.sticky.get p)) :
    stickyHolds (slotMissed s).outbank ((slotMissed s).outbank.sticky.get p) := by
  obtain ⟨hlost, -, hlive⟩ := h
  rw [slotMissed_sticky]
  refine ⟨fun hdown => ?_, fun _ => Bool.or_true _, fun hup => ?_⟩
  · change (_ || goesDown s) = true
    obtain hwas | hfalls := Bool.and_eq_false_iff.mp hdown
    · rw [hlost hwas, Bool.true_or]
    · rw [show goesDown s = true by simpa using hfalls, Bool.or_true]
  · obtain ⟨hwas, -⟩ := Bool.and_eq_true_iff.mp hup
    obtain ⟨huv, hchans⟩ := hlive hwas
    refine ⟨fun hl => ?_, fun n => ?_⟩
    · change (_ || false) = true
      rw [huv hl, Bool.true_or]
    · have hnone : cell (badAdditions s).chans n = 0#4 := by simp [badAdditions, cell]
      rw [cell_add, hnone, BitVec.or_zero]
      exact hchans n

theorem runsIn_slotMissed (s : State) : runsIn (slotMissed s).outbank := by
  refine ⟨Nat.min_le_left 16 _, Nat.zero_le 8, fun hup => ?_, fun _ => Nat.zero_lt_succ 7⟩
  obtain ⟨hwas, hstays⟩ := Bool.and_eq_true_iff.mp hup
  have hfew : ¬15 ≤ s.outbank.badRun := fun h15 => by
    rw [(goesDown_iff s).mpr ⟨hwas, h15⟩] at hstays
    exact Bool.noConfusion hstays
  change min 16 (s.outbank.badRun + 1) < 16
  omega

theorem linkInv_badSlot {s : State} (h : LinkInv s) : LinkInv (statusUsed s.badSlot) := by
  obtain ⟨hruns, hsticky, hm⟩ := (linkInv_iff s).mp h
  refine (linkInv_iff _).mpr ?_
  rw [badSlot_frame]
  refine ⟨runsIn_slotMissed s, fun p => stickyHolds_slotMissed p (hsticky p), ?_⟩
  change (s.addSourceIf (goesDown s) .loopDropped).shaper.mismatch < 3
  rwa [addSourceIf_only (goesDown s) .loopDropped s .mismatch (by decide)]

theorem linkInv_slotClose {s : State} (x : StatusArrival) (h : LinkInv s) : LinkInv (s.slotClose x) := by
  by_cases hgood : ∃ f, arrives s x = some f ∧ slotGood s f
  · obtain ⟨f, ha, hg⟩ := hgood
    rw [slotClose_good ha hg]
    exact linkInv_afterGood f h
  · rw [slotClose_bad fun f ha hg => hgood ⟨f, ha, hg⟩]
    exact linkInv_badSlot h

/-- The reading of a set keeps in it what is live. -/
theorem stickyHolds_reduce {o : OutbankRec} {k : Sticky} (h : stickyHolds o k) : stickyHolds o (k.reduce o) := by
  obtain ⟨hlost, hte, hlive⟩ := h
  refine ⟨fun hdown => ?_, fun hbad => ?_, fun hup => ?_⟩
  · simp [Sticky.reduce, hlost hdown, hdown]
  · simp [Sticky.reduce, hte hbad, hbad]
  · obtain ⟨huv, hchans⟩ := hlive hup
    refine ⟨fun hl => by simp [Sticky.reduce, huv hl, hl], fun n => ?_⟩
    have hreduced : cell (k.reduce o).chans n = cell k.chans n &&& cell o.live n := by simp [Sticky.reduce, hup]
    rw [hreduced, BitVec.and_comm (cell k.chans n), ← BitVec.and_assoc, BitVec.and_self]
    exact hchans n

theorem linkInv_summaryRead {s : State} (p : Port) (h : LinkInv s) : LinkInv { s with outbank := s.outbank.summaryRead p } := by
  obtain ⟨hruns, hsticky, hm⟩ := (linkInv_iff s).mp h
  refine (linkInv_iff _).mpr ⟨hruns, fun q => ?_, hm⟩
  change stickyHolds s.outbank ((s.outbank.sticky.put p _).get q)
  by_cases hq : q = p
  · subst hq
    rw [ByPort.get_put_self]
    exact stickyHolds_reduce (hsticky q)
  · rw [ByPort.get_put_other _ _ hq]
    exact hsticky q

/-- An event leaves what its effect leaves, if notices and ports do not bear on it. -/
theorem event_keeps {P : State → Prop} (hdeliver : ∀ s, P s → P s.deliver) {s : State} {f : State → State} (hs : P s)
    (h : s.held = false → P (f s)) : P (s.event f) := by
  unfold State.event
  split
  next => exact hs
  next hheld => exact hdeliver _ (h (Bool.eq_false_iff.mpr hheld))

section
variable {P : State → Prop} (hports : ∀ (s : State) (x : ByPort PortRec) (m : BitVec 20), P s → P { s with ports := x, raised := m })
include hports

/-- A command leaves what its rule leaves where it is permitted, if notices and ports do not bear on it. -/
theorem command_keeps_permitted {s : State} (p : Port) (code : Byte) {rule : State → State × Answer} (hs : P s)
    (h : s.held = false → ((permitOf code).map fun f => f (s.auth.standing p)).getD false = true → P (rule s).1) :
    P (s.command p code rule) := by
  unfold State.command State.taking
  split
  next => exact hs
  next hheld =>
    split
    · exact hports s _ s.raised hs
    · dsimp only
      split
      next hpermitted => exact hports (rule s).1 _ 0 (h (Bool.eq_false_iff.mpr hheld) hpermitted)
      · exact hports s _ 0 hs

theorem command_keeps {s : State} (p : Port) (code : Byte) {rule : State → State × Answer} (hs : P s)
    (h : s.held = false → P (rule s).1) : P (s.command p code rule) :=
  command_keeps_permitted hports p code hs fun hheld _ => h hheld

end

/-- Every command leaves the isolation link's runs and the sticky sets in their form. -/
theorem exec_linkInv {i : Instr} {s t : State} (hs : LinkInv s) (h : exec i s = .next t) : LinkInv t := by
  cases i with
  | diagSummary p => cases h; exact command_keeps (fun _ _ _ h => h) p _ hs fun _ => linkInv_summaryRead p hs
  | statusSlotClose x => cases h; exact event_keeps (fun _ h => h) hs fun _ => linkInv_slotClose x hs
  | coreSupplySample low sel => cases h; exact linkInv_resetKept.coreSample low sel hs
  | supplyLowReset => cases h; exact linkInv_resetKept.enterSupplyLow hs
  | powerOnReset lines sel => cases h; exact linkInv_resetKept.powerOn lines sel
  | resetnRise sel => cases h; exact linkInv_resetKept.resetRise sel hs
  | _ =>
    have hkept := exec_only h
    exact linkInv_of_kept (hkept .faults (by simp [writes])) (hkept .linkUp (by simp [writes])) (hkept .mismatch (by simp [writes])) hs

/-- Settles O57: the die by its own events, the link by the slot's close, the summary read and the resets. -/
theorem stepKeepsSwitchesAndFaults : Obligations.StepKeepsSwitchesAndFaults := by
  unfold Obligations.StepKeepsSwitchesAndFaults
  intro s t hs h
  obtain ht | ⟨i, u, hu, hexec⟩ := step_cases hs h
  · obtain ⟨-, -, -, -, -, -, hdie, hlink, -⟩ := ht
    exact ⟨hdie, hlink⟩
  · obtain ⟨-, -, -, -, -, -, hdie, hlink, -⟩ := hu
    exact ⟨exec_dieInv hdie hexec, exec_linkInv hlink hexec⟩

end Sys2Proof.Proofs
end

/-! ## Proofs: settings, supply, notices and station records keep their forms -/

section
/-! SUPPORT. The settings, the supply record, the raised notices and the station records under every command (O60). -/

namespace Sys2Proof.Proofs

open Sys2Proof Sys2Proof.Machine

/-! ### Settings (R182) -/

/-- The settings record in its ranges. -/
def settingsIn (r : SettingsRec) : Prop :=
  (1 ≤ r.tram ∧ r.tram ≤ 9999) ∧ r.run ≤ 999 ∧ (1760 ≤ r.circumference ∧ r.circumference ≤ 2140) ∧
    (20 ≤ r.vigilInterval ∧ r.vigilInterval ≤ 60) ∧ (10 ≤ r.handleGrace ∧ r.handleGrace ≤ 30) ∧
    (50 ≤ r.lineLimit ∧ r.lineLimit ≤ 800) ∧ (20 ≤ r.cautionLead ∧ r.cautionLead ≤ 120) ∧ r.departureBell ≤ 1 ∧
    (20 ≤ r.threshold ∧ r.threshold ≤ 400) ∧ (∀ k : Fin 16, assignmentIn (cell r.touch k)) ∧ r.battery ≤ 2

theorem settingsInv_iff (s : State) : SettingsInv s ↔ settingsIn s.settings := Iff.rfl

theorem clampTo_in {lo hi : Nat} (x : Nat) (h : lo ≤ hi) : lo ≤ clampTo lo hi x ∧ clampTo lo hi x ≤ hi := by
  unfold clampTo
  omega

/-- A numbered field takes a value of its own range. -/
theorem settingsIn_put {r : SettingsRec} (h : settingsIn r) (n x : Nat) :
    settingsIn (r.put n (clampTo (settingRange n).1 (settingRange n).2 x)) := by
  obtain ⟨htram, hrun, hcirc, hvigil, hgrace, hline, hlead, hbell, hth, htouch, hbat⟩ := h
  match n with
  | 0 => exact ⟨clampTo_in x (by decide), hrun, hcirc, hvigil, hgrace, hline, hlead, hbell, hth, htouch, hbat⟩
  | 1 => exact ⟨htram, (clampTo_in x (by decide)).2, hcirc, hvigil, hgrace, hline, hlead, hbell, hth, htouch, hbat⟩
  | 2 => exact ⟨htram, hrun, clampTo_in x (by decide), hvigil, hgrace, hline, hlead, hbell, hth, htouch, hbat⟩
  | 3 => exact ⟨htram, hrun, hcirc, clampTo_in x (by decide), hgrace, hline, hlead, hbell, hth, htouch, hbat⟩
  | 4 => exact ⟨htram, hrun, hcirc, hvigil, clampTo_in x (by decide), hline, hlead, hbell, hth, htouch, hbat⟩
  | 5 => exact ⟨htram, hrun, hcirc, hvigil, hgrace, clampTo_in x (by decide), hlead, hbell, hth, htouch, hbat⟩
  | 6 => exact ⟨htram, hrun, hcirc, hvigil, hgrace, hline, clampTo_in x (by decide), hbell, hth, htouch, hbat⟩
  | 7 => exact ⟨htram, hrun, hcirc, hvigil, hgrace, hline, hlead, (clampTo_in x (by decide)).2, hth, htouch, hbat⟩
  | 8 => exact ⟨htram, hrun, hcirc, hvigil, hgrace, hline, hlead, hbell, clampTo_in x (by decide), htouch, hbat⟩
  | 10 => exact ⟨htram, hrun, hcirc, hvigil, hgrace, hline, hlead, hbell, hth, htouch, (clampTo_in x (by decide)).2⟩
  | 9 | _ + 11 => exact ⟨htram, hrun, hcirc, hvigil, hgrace, hline, hlead, hbell, hth, htouch, hbat⟩

/-- The door of an assignment that a write names is clamped to 1-6 (R183). -/
theorem assignmentIn_of {v : Nat} {x : Assignment} (h : assignmentOf v = some x) : assignmentIn x := by
  unfold assignmentOf at h
  split at h
  · cases h; trivial
  · cases h; exact clampTo_in _ (by decide)
  · cases h; exact clampTo_in _ (by decide)
  · cases h

theorem settingsIn_touch {r : SettingsRec} (k : Fin 16) {x : Assignment} (hx : assignmentIn x) (h : settingsIn r) :
    settingsIn { r with touch := putCell r.touch k x } := by
  obtain ⟨htram, hrun, hcirc, hvigil, hgrace, hline, hlead, hbell, hth, htouch, hbat⟩ := h
  refine ⟨htram, hrun, hcirc, hvigil, hgrace, hline, hlead, hbell, hth, fun j => ?_, hbat⟩
  by_cases hj : j = k
  · subst hj
    simpa using hx
  · simpa [cell_putCell, hj] using htouch j

/-- All that a write of a setting can do (R183). -/
theorem settingRule_cases (field value channel : Nat) (s : State) :
    (s.settingRule field value channel).1 = s ∨
      (∃ x, assignmentOf value = some x ∧ (s.settingRule field value channel).1 = s.writeTouch (Fin.ofNat 16 channel) x) ∨
      (s.settingRule field value channel).1 = s.writeSetting field value := by
  unfold State.settingRule
  dsimp only
  split
  · exact .inl rfl
  split
  · split
    · exact .inl rfl
    next x hx => exact .inr (.inl ⟨x, hx, rfl⟩)
  split
  · exact .inl rfl
  split
  · exact .inl rfl
  · exact .inr (.inr rfl)

theorem settingsInv_settingRule {s : State} (field value channel : Nat) (h : SettingsInv s) :
    SettingsInv (s.settingRule field value channel).1 := by
  obtain he | ⟨x, hx, he⟩ | he := settingRule_cases field value channel s
  · rwa [he]
  · rw [he]
    exact settingsIn_touch _ (assignmentIn_of hx) h
  · rw [he]
    exact settingsIn_put h field value

theorem settingsInv_resetKept : ResetKept SettingsInv where
  record _ _ _ _ hs := hs
  ended _ _ := reset_settingsInv
  low _ := reset_settingsInv

theorem settingsInv_of_kept {s t : State} (h : Aspect.settings.kept s t) (hs : SettingsInv s) : SettingsInv t := by
  rw [settingsInv_iff, show t.settings = s.settings from h]
  exact hs

/-- Every command leaves every setting in its range. -/
theorem exec_settingsInv {i : Instr} {s t : State} (hs : SettingsInv s) (h : exec i s = .next t) : SettingsInv t := by
  cases i with
  | setLineLimit p | setRunNumber p | settingWrite p =>
    cases h
    exact command_keeps (fun _ _ _ h => h) p _ hs fun _ => settingsInv_settingRule _ _ _ hs
  | coreSupplySample low sel => cases h; exact settingsInv_resetKept.coreSample low sel hs
  | supplyLowReset => cases h; exact settingsInv_resetKept.enterSupplyLow hs
  | powerOnReset lines sel => cases h; exact settingsInv_resetKept.powerOn lines sel
  | resetnRise sel => cases h; exact settingsInv_resetKept.resetRise sel hs
  | _ => exact settingsInv_of_kept (exec_only h .settings (by simp [writes])) hs

/-! ### The notices of a step (R18) -/

theorem deliver_raised (s : State) : s.deliver.raised = 0 := rfl

section
variable {s : State} (hs : s.raised = 0)
include hs

theorem taking_raised (p : Port) {f : State → State} (h : (f s).raised = 0) : (s.taking p f).raised = 0 := by
  unfold State.taking
  split
  · exact hs
  split
  · exact hs
  · exact h

theorem command_raised (p : Port) (code : Byte) (rule : State → State × Answer) : (s.command p code rule).raised = 0 :=
  taking_raised hs p rfl

theorem event_raised (f : State → State) : (s.event f).raised = 0 := by
  unfold State.event
  split
  · exact hs
  · rfl

theorem lineEvent_raised {level : State → State} (effect : State → State) (hl : (level s).raised = s.raised) :
    (s.lineEvent level effect).raised = 0 := by
  unfold State.lineEvent
  split
  · exact hl.trans hs
  · rfl

omit hs in
theorem raised_resetKept : ResetKept fun u : State => u.raised = 0 where
  record _ _ _ _ h := h
  ended _ _ := rfl
  low _ := rfl

/-- No notice waits after a command. -/
theorem exec_raised {i : Instr} {t : State} (h : exec i s = .next t) : t.raised = 0 := by
  cases i with
  | nop p | getStatus p | getJunction p | getStopRecord p | touchRead p | diagChannel p | settingRead p | tableRead p
  | tableSignature p | planRead p | resetCause p | getNotices p | demand p | deskClaim p | deskRelease p | vigilReset p | vacate p
  | routeOverride p | junctionRepeat p | stopSet p | stopCancel p | diagSummary p | outputTest p | setLineLimit p
  | setRunNumber p | settingWrite p | patternHeader p | patternStep p | tableWrite p | tableDelete p | planAppend p | planClear p =>
    cases h
    exact command_raised hs p _ _
  | unknownCommand p => cases h; exact taking_raised hs p rfl
  | frameRejected p => cases h; exact taking_raised hs p hs
  | waitingForReleaseEnd p =>
    cases h
    split
    · exact hs
    split
    · exact hs
    · exact hs
  | keyOff c | keyOn c | emstopPress c | emstopRelease c | dclOpen | dclClose => cases h; exact lineEvent_raised hs _ rfl
  | switchDieSafe =>
    cases h
    unfold State.dieSafe
    split <;> exact hs
  | retryExpiry n =>
    cases h
    unfold State.retryExpiry
    split <;> exact hs
  | currentLimitTrip | overtempChange | uvOnset | uvRecovery | switchDiePowerUp | telegramDropped | resetnFall | pinLatchArmed =>
    cases h
    exact hs
  | coreSupplySample low sel => cases h; exact raised_resetKept.coreSample low sel hs
  | supplyLowReset => cases h; exact raised_resetKept.enterSupplyLow hs
  | powerOnReset => cases h; rfl
  | resetnRise sel => cases h; exact raised_resetKept.resetRise sel hs
  | _ => cases h; exact event_raised hs _

end

end Sys2Proof.Proofs
end

section
/-! SUPPORT. The supply record and the station records under every command (O60). -/

namespace Sys2Proof.Proofs

open Sys2Proof Sys2Proof.Machine

/-! ### Supply (R178 to R181) -/

/-- The supply record agrees with the die's being held, and its runs lie in their ranges. -/
def supplyIn (held : Bool) (r : SupplyRec) : Prop :=
  r.lowRun ≤ 8 ∧ (held = true ↔ r.lowRun = 8) ∧ hasFlag r.causes r.latest.idx = true ∧ r.batLow ≤ 12 ∧ r.batHigh ≤ 12

theorem supplyInv_iff (s : State) : SupplyInv s ↔ supplyIn s.held s.supply ∧ s.raised = 0 := by
  simp only [SupplyInv, supplyIn, and_assoc]

theorem supplyIn_of_kept {s t : State} (h : Aspect.supply.kept s t) (hh : Aspect.held.kept s t) (hs : supplyIn s.held s.supply) :
    supplyIn t.held t.supply := by
  simp only [Aspect.kept, Prod.mk.injEq] at h hh
  obtain ⟨hlow, hcauses, hlatest, hbl, hbh⟩ := h
  simpa only [supplyIn, hlow, hcauses, hlatest, hbl, hbh, hh] using hs

/-- A kind noted is in the cause record. -/
theorem note_has (r : SupplyRec) (k : ResetKind) : hasFlag (r.note k).causes (r.note k).latest.idx = true := by
  have hidx : k.idx < 3 := by cases k <;> decide
  simp [SupplyRec.note, hasFlag_addFlag _ hidx]

theorem supplyIn_endReset (sel : SelLow) {s : State} (h : hasFlag s.supply.causes s.supply.latest.idx = true) :
    supplyIn (s.endReset sel).held (s.endReset sel).supply :=
  ⟨Nat.zero_le 8, ⟨nofun, nofun⟩, h, Nat.zero_le 12, Nat.zero_le 12⟩

theorem supplyIn_enterSupplyLow {s : State} (hs : s.held = true → supplyIn true s.supply) :
    supplyIn s.enterSupplyLow.held s.enterSupplyLow.supply := by
  rw [enterSupplyLow_cases]
  split
  next hheld =>
    rw [hheld]
    exact hs hheld
  · exact ⟨Nat.le_refl 8, ⟨fun _ => rfl, fun _ => rfl⟩, note_has s.resetBlocks.supply .supplyLow, Nat.zero_le 12, Nat.zero_le 12⟩

/-- The eighth low sample holds the die; a good one ends what it began (R178). -/
theorem supplyIn_coreSample (low : Bool) (sel : SelLow) {s : State} (hs : supplyIn s.held s.supply) :
    supplyIn (s.coreSample low sel).held (s.coreSample low sel).supply := by
  obtain ⟨hle, hiff, hcause, hbl, hbh⟩ := hs
  unfold State.coreSample
  dsimp only
  split
  · split
    next heighth =>
      exact supplyIn_enterSupplyLow fun _ => ⟨Nat.min_le_left 8 _, ⟨fun _ => heighth, fun _ => rfl⟩, hcause, hbl, hbh⟩
    next hfew =>
      have hfew : ¬min 8 (s.supply.lowRun + 1) = 8 := hfew
      refine ⟨Nat.min_le_left 8 _, ⟨fun hheld => ?_, fun h8 => absurd h8 hfew⟩, hcause, hbl, hbh⟩
      have := hiff.mp hheld
      omega
  split
  · exact supplyIn_endReset sel hcause
  next hheld => exact ⟨Nat.zero_le 8, ⟨fun h => absurd h hheld, nofun⟩, hcause, hbl, hbh⟩

theorem supplyIn_resetRise (sel : SelLow) {s : State} (hs : supplyIn s.held s.supply) :
    supplyIn (s.resetRise sel).held (s.resetRise sel).supply := by
  unfold State.resetRise
  dsimp only
  split
  · exact hs
  split
  · exact supplyIn_endReset sel (note_has s.supply .pin)
  · exact hs

theorem supplyIn_batterySample (mv : Nat) {s : State} (hs : supplyIn s.held s.supply) :
    supplyIn (s.batterySample mv).held (s.batterySample mv).supply := by
  obtain ⟨hle, hiff, hcause, hbl, hbh⟩ := hs
  refine ⟨hle, hiff, hcause, ?_, ?_⟩
  · change (if _ then min 12 _ else _) ≤ 12
    split
    · exact Nat.min_le_left 12 _
    · exact Nat.zero_le 12
  · change (if _ then min 12 _ else _) ≤ 12
    split
    · exact Nat.min_le_left 12 _
    · exact Nat.zero_le 12

theorem supplyIn_settingRule {s : State} (field value channel : Nat) (hs : supplyIn s.held s.supply) :
    supplyIn (s.settingRule field value channel).1.held (s.settingRule field value channel).1.supply := by
  obtain he | ⟨x, -, he⟩ | he := settingRule_cases field value channel s
  · rwa [he]
  · rwa [he]
  · rw [he]
    obtain ⟨hle, hiff, hcause, hbl, hbh⟩ := hs
    unfold State.writeSetting
    dsimp only
    split
    · exact ⟨hle, hiff, hcause, Nat.zero_le 12, Nat.zero_le 12⟩
    · exact ⟨hle, hiff, hcause, hbl, hbh⟩

/-- Every command leaves the supply record in agreement with the die. -/
theorem exec_supplyIn {i : Instr} {s t : State} (hs : supplyIn s.held s.supply) (h : exec i s = .next t) :
    supplyIn t.held t.supply := by
  cases i with
  | setLineLimit p | setRunNumber p | settingWrite p =>
    cases h
    exact command_keeps (P := fun u => supplyIn u.held u.supply) (fun _ _ _ h => h) p _ hs fun _ => supplyIn_settingRule _ _ _ hs
  | batterySample mv =>
    cases h
    exact event_keeps (P := fun u => supplyIn u.held u.supply) (fun _ h => h) hs fun _ => supplyIn_batterySample mv hs
  | coreSupplySample low sel => cases h; exact supplyIn_coreSample low sel hs
  | supplyLowReset =>
    cases h
    exact supplyIn_enterSupplyLow fun hheld => hheld ▸ hs
  | powerOnReset lines sel => cases h; exact supplyIn_endReset sel (note_has { s.supply with causes := 0 } .powerOn)
  | resetnRise sel => cases h; exact supplyIn_resetRise sel hs
  | _ =>
    have hkept := exec_only h
    exact supplyIn_of_kept (hkept .supply (by simp [writes])) (hkept .held (by simp [writes])) hs

theorem exec_supplyInv {i : Instr} {s t : State} (hs : SupplyInv s) (h : exec i s = .next t) : SupplyInv t := by
  obtain ⟨hsupply, hraised⟩ := (supplyInv_iff s).mp hs
  exact (supplyInv_iff t).mpr ⟨exec_supplyIn hsupply h, exec_raised hraised h⟩

/-! ### Stations (R70 to R76) -/

/-- A traction unit's record in its form. -/
def tuIn (r : TuRec) : Prop :=
  (r.missRun ≤ 5 ∧ r.answering = decide (r.missRun < 5) ∧ (r.answering = true → r.last.isSome = true)) ∧
    ∀ x ∈ r.last, x.effort.toNat ≤ 1000

/-- BRK's record in its form. -/
def brkIn (r : BrkRec) : Prop :=
  r.missRun ≤ 5 ∧ r.answering = decide (r.missRun < 5) ∧ (r.answering = true → r.last.isSome = true)

theorem tlinkInv_iff (s : State) :
    TlinkInv s ↔ tuIn s.tlink.tu1 ∧ tuIn s.tlink.tu2 ∧ brkIn s.tlink.brk ∧ s.tlink.cycle ≤ 15 := by
  unfold TlinkInv tuIn brkIn
  tauto

theorem tlinkInv_of_kept {s t : State} (h : Aspect.stations.kept s t) (hs : TlinkInv s) : TlinkInv t := by
  simp only [Aspect.kept, Prod.mk.injEq] at h
  obtain ⟨h1, h2, hb, hc⟩ := h
  simpa only [TlinkInv, h1, h2, hb, hc] using hs

theorem tuIn_good {r : TuRec} {x : TuReply} (h : tuReplyIn x = true) : tuIn (r.good x) := by
  refine ⟨⟨Nat.zero_le 5, rfl, fun _ => rfl⟩, fun y hy => ?_⟩
  cases hy
  exact of_decide_eq_true h

theorem brkIn_good (r : BrkRec) (x : BrkReply) : brkIn (r.good x) := ⟨Nat.zero_le 5, rfl, fun _ => rfl⟩

/-- The fifth miss in a row loses a station (R76). -/
theorem miss_lost {n : Nat} {answering : Bool} (h : answering = decide (n < 5)) :
    (answering && decide (n + 1 < 5)) = decide (min 5 (n + 1) < 5) := by
  subst h
  by_cases hn : n + 1 < 5
  · simp [hn, show n < 5 by omega]
  · simp only [hn, decide_false, Bool.and_false]
    exact (decide_eq_false (by omega)).symm

theorem tuIn_miss {r : TuRec} (h : tuIn r) : tuIn r.miss := by
  obtain ⟨⟨-, ha, hlast⟩, heffort⟩ := h
  exact ⟨⟨Nat.min_le_left 5 _, miss_lost ha, fun hm => hlast (Bool.and_eq_true_iff.mp hm).1⟩, heffort⟩

theorem brkIn_miss {r : BrkRec} (h : brkIn r) : brkIn r.miss := by
  obtain ⟨-, ha, hlast⟩ := h
  exact ⟨Nat.min_le_left 5 _, miss_lost ha, fun hm => hlast (Bool.and_eq_true_iff.mp hm).1⟩

section
variable {s : State} (hs : TlinkInv s)
include hs

theorem tlinkInv_closeTu1 {r : TuRec} (hr : tuIn r) : TlinkInv (s.closeTu1 r) := by
  obtain ⟨-, h2, hb, hc⟩ := (tlinkInv_iff s).mp hs
  exact (tlinkInv_iff _).mpr ⟨hr, h2, hb, hc⟩

theorem tlinkInv_closeTu2 {r : TuRec} (hr : tuIn r) : TlinkInv (s.closeTu2 r) := by
  obtain ⟨h1, -, hb, hc⟩ := (tlinkInv_iff s).mp hs
  exact (tlinkInv_iff _).mpr ⟨h1, hr, hb, hc⟩

/-- What a closing of BRK's poll brings about elsewhere leaves the records. -/
theorem tlinkInv_closeBrk {r : BrkRec} (hr : brkIn r) : TlinkInv (s.closeBrk r) := by
  obtain ⟨h1, h2, -, hc⟩ := (tlinkInv_iff s).mp hs
  have hclosed (m : BitVec 20) : TlinkInv { s with tlink := { s.tlink with brk := r }.nextPoll s.now .brk, raised := m } :=
    (tlinkInv_iff _).mpr ⟨h1, h2, hr, hc⟩
  refine tlinkInv_of_kept (syncCheck_only _ .stations (by decide)) ?_
  dsimp only
  split
  · exact tlinkInv_of_kept (removeSourceIf_only _ _ _ .stations (by decide)) (hclosed _)
  split
  · exact tlinkInv_of_kept (addSourceIf_only _ .brakeLink _ .stations (by decide)) (hclosed _)
  · exact hclosed _

theorem tlinkInv_closeMiss (st : Station) : TlinkInv (s.closeMiss st) := by
  obtain ⟨h1, h2, hb, -⟩ := (tlinkInv_iff s).mp hs
  cases st with
  | tu1 => exact tlinkInv_closeTu1 hs (tuIn_miss h1)
  | tu2 => exact tlinkInv_closeTu2 hs (tuIn_miss h2)
  | brk => exact tlinkInv_closeBrk hs (brkIn_miss hb)

theorem tlinkInv_closeReply (r : StationReply) : TlinkInv (s.closeReply r) := by
  cases r with
  | tu1 x =>
    unfold State.closeReply
    dsimp only
    split
    next hin => exact tlinkInv_of_kept (takeSlip_only x _ .stations (by decide)) (tlinkInv_closeTu1 hs (tuIn_good hin))
    · exact tlinkInv_closeMiss hs .tu1
  | tu2 x =>
    unfold State.closeReply
    dsimp only
    split
    next hin => exact tlinkInv_of_kept (takeSlip_only x _ .stations (by decide)) (tlinkInv_closeTu2 hs (tuIn_good hin))
    · exact tlinkInv_closeMiss hs .tu2
  | brk x => exact tlinkInv_closeBrk hs (brkIn_good _ x)

theorem tlinkInv_stationReply (r : StationReply) : TlinkInv (s.stationReply r) := by
  have hanswer : TlinkInv s.answer := hs
  unfold State.stationReply
  split
  · exact hs
  split
  · exact tlinkInv_closeReply hanswer r
  split
  · exact hs
  · exact tlinkInv_closeMiss hanswer _

theorem tlinkInv_stationMiss (st : Station) (cause : MissCause) : TlinkInv (s.stationMiss st cause) := by
  have hanswer : TlinkInv s.answer := hs
  unfold State.stationMiss
  split
  · exact hs
  split
  · split
    · exact tlinkInv_closeMiss hanswer st
    · exact hs
  · exact tlinkInv_closeMiss (s := s.reach _) hs st

theorem tlinkInv_cycleStart : TlinkInv s.cycleStart := by
  obtain ⟨h1, h2, hb, hc⟩ := (tlinkInv_iff s).mp hs
  refine (tlinkInv_iff _).mpr ⟨h1, h2, hb, ?_⟩
  change (if _ then _ else _) ≤ 15
  split
  · exact Nat.le_of_lt_succ (Nat.mod_lt _ (by decide))
  · exact hc

end

theorem tlinkInv_of_reset {s : State} (h : s.tlink = .reset) : TlinkInv s := by
  have htu : tuIn TlinkRec.reset.tu1 := ⟨⟨Nat.le_refl 5, rfl, nofun⟩, nofun⟩
  rw [tlinkInv_iff, h]
  exact ⟨htu, htu, ⟨Nat.le_refl 5, rfl, nofun⟩, Nat.zero_le 15⟩

theorem tlinkInv_resetKept : ResetKept TlinkInv where
  record _ _ _ _ hs := hs
  ended _ _ := tlinkInv_of_reset rfl
  low _ := tlinkInv_of_reset rfl

/-- Every command leaves the station records in their form. -/
theorem exec_tlinkInv {i : Instr} {s t : State} (hs : TlinkInv s) (h : exec i s = .next t) : TlinkInv t := by
  cases i with
  | tlinkCycleStart => cases h; exact event_keeps (fun _ h => h) hs fun _ => tlinkInv_cycleStart hs
  | stationReplyGood r => cases h; exact event_keeps (fun _ h => h) hs fun _ => tlinkInv_stationReply hs r
  | stationMiss m => cases h; exact event_keeps (fun _ h => h) hs fun _ => tlinkInv_stationMiss hs m.station m.cause
  | coreSupplySample low sel => cases h; exact tlinkInv_resetKept.coreSample low sel hs
  | supplyLowReset => cases h; exact tlinkInv_resetKept.enterSupplyLow hs
  | powerOnReset lines sel => cases h; exact tlinkInv_resetKept.powerOn lines sel
  | resetnRise sel => cases h; exact tlinkInv_resetKept.resetRise sel hs
  | _ => exact tlinkInv_of_kept (exec_only h .stations (by simp [writes])) hs

end Sys2Proof.Proofs
end

/-! ## Proofs: what the authority transitions keep -/

section
/-! SUPPORT. A predicate that the single transitions of authority keep is kept by every command that brings them about: demand
frames, keys, emergency stops, the stations' replies, window ends. Each invariant supplies the single transitions. -/

namespace Sys2Proof.Proofs

open Sys2Proof Sys2Proof.Machine

/-- A source that no transition of authority or vigilance adds or removes by itself (R60, R61, R64, R67). -/
def EmSource.ordinary (k : EmSource) : Prop := k ≠ .penalty ∧ k ≠ .authLost ∧ k ≠ .startup

theorem ordinary_emstop (c : Cab) : EmSource.ordinary (.emstop c) := by
  cases c <;> exact ⟨nofun, nofun, nofun⟩

theorem ordinary_lever : EmSource.ordinary .lever := ⟨nofun, nofun, nofun⟩

theorem ordinary_brakeLink : EmSource.ordinary .brakeLink := ⟨nofun, nofun, nofun⟩

theorem ordinary_loopDropped : EmSource.ordinary .loopDropped := ⟨nofun, nofun, nofun⟩

/-- A window end up to the synchronisation check (R22). -/
def windowSettled (s : State) : State :=
  let s := s.reach (s.wheel.windowAt + 250)
  let s' := s.publishWindow
  if s'.wheel.stationary && !s.wheel.stationary then s'.comesToRest
  else if !s'.wheel.stationary && s.wheel.stationary then s'.beginsToMove
  else s'

theorem windowEnd_settled (s : State) : s.windowEnd = (windowSettled s).syncCheck := rfl

/-- The demand record written by a holder's frame, LEVER not yet tested (R37). -/
def frameWritten (f : DemandFrame) (s : State) : State :=
  { s with shaper := { s.shaper with demand := some (.ofFrame f s.now), stage := .fresh } }

/-- The claimant fields of a frame (R6). -/
def claimantOf (d : Direction) (f : DemandFrame) (s : State) : Claimant :=
  { lever := clampLever f.lever, direction := d, handle := f.handle, horn := f.horn, bell := f.bell, sand := f.sand,
    frameTime := s.now }

/-- A predicate kept by the single transitions that follow from authority, keys, stops, replies and demand frames. -/
structure TransitionsKept (P : State → Prop) : Prop where
  quiet : ∀ {s t : State}, Only [.wheel, .stations] s t → P s → P t
  added : ∀ {k : EmSource} {s : State}, EmSource.ordinary k → P s → P (s.addSource k)
  removed : ∀ {k : EmSource} {s : State}, EmSource.ordinary k → P s → P (s.removeSource k)
  lapsed : ∀ {c x : Cab} {n : Nat} {f : Option Claimant} {s : State}, s.auth = .claiming x n f → P s → P (s.endClaim c)
  vacated : ∀ {c : Cab} {d : Direction} {s : State}, s.auth = .held c d → P s → P s.enterVacant
  lost : ∀ {c : Cab} {d : Direction} {s : State}, s.auth = .held c d → P s → P (s.enterLost c d)
  held : ∀ {x : Cab} {n : Nat} {c : Claimant} {s : State}, s.auth = .claiming x n (some c) → P s → P (s.enterHeld x c)
  turned : ∀ {x : Cab} {d : Direction} {s : State} (d' : Direction), s.auth = .held x d → P s → P (s.turn x d')
  written : ∀ {x : Cab} {d : Direction} {s : State} (f : DemandFrame), s.auth = .held x d → P s → P (frameWritten f s)
  attended : ∀ {x : Cab} {d : Direction} {s : State} (f : Attention), s.auth = .held x d → leverIn f.lever → P s →
    P (s.vigilFrame f)
  claimed : ∀ {x : Cab} {n : Nat} {c : Option Claimant} {s : State} (d : Direction) (f : DemandFrame),
    s.auth = .claiming x n c → P s → P { s with auth := .claiming x n (some (claimantOf d f s)) }
  window : ∀ {s : State}, P s → P (windowSettled s)

/-- The clamp of a frame's lever (R36). -/
theorem leverIn_clampLever (raw : Byte) : leverIn (clampLever raw) := by
  unfold leverIn clampLever
  split <;> omega

section
variable {P : State → Prop} (hP : TransitionsKept P) {s : State}
include hP

theorem TransitionsKept.none {t : State} (h : Only [] s t) (hs : P s) : P t := hP.quiet (h.mono (List.nil_subset _)) hs

theorem TransitionsKept.addedIf (b : Bool) {k : EmSource} (hk : EmSource.ordinary k) (hs : P s) : P (s.addSourceIf b k) := by
  unfold State.addSourceIf
  split
  · exact hP.added hk hs
  · exact hs

theorem TransitionsKept.removedIf (b : Bool) {k : EmSource} (hk : EmSource.ordinary k) (hs : P s) : P (s.removeSourceIf b k) := by
  unfold State.removeSourceIf
  split
  · exact hP.removed hk hs
  · exact hs

theorem TransitionsKept.deliver (hs : P s) : P s.deliver := hP.none (deliver_only s) hs

theorem TransitionsKept.event {f : State → State} (hs : P s) (h : P (f s)) : P (s.event f) :=
  event_keeps (P := P) (fun _ => hP.deliver) hs fun _ => h

theorem TransitionsKept.line {level effect : State → State} (hl : P (level s)) (h : P (effect s)) :
    P (s.lineEvent level effect) := by
  unfold State.lineEvent
  split
  · exact hl
  · exact hP.deliver h

theorem TransitionsKept.command (p : Port) (code : Byte) {rule : State → State × Answer} (hs : P s) (h : P (rule s).1) :
    P (s.command p code rule) :=
  command_keeps (P := P) (fun u x m => hP.none fun a _ => by cases a <;> rfl) p code hs fun _ => h

/-- The synchronisation check keeps what the entry to HELD keeps. -/
theorem TransitionsKept.syncCheck (hs : P s) : P s.syncCheck := by
  unfold State.syncCheck
  split
  next x n c hauth =>
    split
    · exact hP.held hauth hs
    · exact hs
  · exact hs

theorem TransitionsKept.windowEnd (hs : P s) : P s.windowEnd := by
  rw [windowEnd_settled]
  exact hP.syncCheck (hP.window hs)

theorem TransitionsKept.keyGoesOff (x : Cab) (hs : P s) : P (s.keyGoesOff x) := by
  unfold State.keyGoesOff
  split
  next hauth =>
    split
    · exact hP.lapsed hauth hs
    · exact hs
  next hauth =>
    split
    · split
      · exact hP.vacated hauth hs
      · exact hP.lost hauth hs
    · exact hs
  · exact hs

/-- A holder's frame: the turn, the record, LEVER, VIGIL, the buttons. -/
theorem TransitionsKept.holderFrame {x : Cab} {d : Direction} (d' : Direction) (f : DemandFrame) (hauth : s.auth = .held x d)
    (hs : P s) : P (s.holderFrame x d' f) := by
  unfold State.holderFrame
  dsimp only
  have hturn : P (if s.turns d' then s.turn x d' else s) ∧ ∃ e, (if s.turns d' then s.turn x d' else s).auth = .held x e := by
    split
    · exact ⟨hP.turned d' hauth hs, d', by simp [State.turn]⟩
    · exact ⟨hs, d, hauth⟩
  generalize (if s.turns d' then s.turn x d' else s) = u at hturn
  obtain ⟨hu, e, hheld⟩ := hturn
  have hhandle : Only [] u (u.frameHandle f) := shaper_only u rfl rfl rfl rfl
  have hwrite : P ((u.frameHandle f).frameWrite f) :=
    hP.removedIf _ ordinary_lever (hP.written f ((hhandle .auth (by decide)).trans hheld) (hP.none hhandle hu))
  have hwritten : ((u.frameHandle f).frameWrite f).auth = .held x e :=
    ((frameWrite_only f _ .auth (by decide)).trans (hhandle .auth (by decide))).trans hheld
  generalize (u.frameHandle f).frameWrite f = v at hwrite hwritten
  have hlever : P (v.frameLever f) :=
    hP.addedIf _ ordinary_lever (hP.none (shaper_only v rfl rfl rfl rfl) hwrite)
  have hjudged : (v.frameLever f).auth = .held x e := (addSourceIf_only _ .lever _ .auth (by decide)).trans hwritten
  exact hP.none (refreshHornBell_only _) (hP.attended _ hjudged (leverIn_clampLever f.lever) hlever)

theorem TransitionsKept.claimantFrame (d : Direction) (f : DemandFrame) (hs : P s) : P (s.claimantFrame d f) := by
  unfold State.claimantFrame
  split
  next hauth => exact hP.syncCheck (hP.claimed d f hauth hs)
  · exact hs

theorem TransitionsKept.demandRule (f : DemandFrame) (hs : P s) : P (s.demandRule f).1 := by
  unfold State.demandRule
  split
  · exact hs
  split
  next hauth => exact hP.holderFrame _ f hauth hs
  · exact hP.claimantFrame _ f hs

theorem TransitionsKept.closeBrk (r : BrkRec) (hs : P s) : P (s.closeBrk r) := by
  have hclosed (m : BitVec 20) : P { s with tlink := { s.tlink with brk := r }.nextPoll s.now .brk, raised := m } :=
    hP.quiet (fun a ha => by cases a <;> simp at ha <;> rfl) hs
  refine hP.syncCheck ?_
  dsimp only
  split
  · exact hP.removedIf _ ordinary_brakeLink (hclosed _)
  split
  · exact hP.addedIf _ ordinary_brakeLink (hclosed _)
  · exact hclosed _

theorem TransitionsKept.closeMiss (st : Station) (hs : P s) : P (s.closeMiss st) := by
  cases st with
  | tu1 => exact hP.quiet ((closeTu1_only _ s).mono (by decide)) hs
  | tu2 => exact hP.quiet ((closeTu2_only _ s).mono (by decide)) hs
  | brk => exact hP.closeBrk _ hs

theorem TransitionsKept.closeReply (r : StationReply) (hs : P s) : P (s.closeReply r) := by
  cases r with
  | tu1 x =>
    unfold State.closeReply
    dsimp only
    split
    · exact hP.quiet (((closeTu1_only _ s).mono (by decide)).trans ((takeSlip_only x _).mono (by decide))) hs
    · exact hP.closeMiss .tu1 hs
  | tu2 x =>
    unfold State.closeReply
    dsimp only
    split
    · exact hP.quiet (((closeTu2_only _ s).mono (by decide)).trans ((takeSlip_only x _).mono (by decide))) hs
    · exact hP.closeMiss .tu2 hs
  | brk x => exact hP.closeBrk _ hs

theorem TransitionsKept.stationReply (r : StationReply) (hs : P s) : P (s.stationReply r) := by
  have hanswer : P s.answer := hP.none (answer_only s) hs
  unfold State.stationReply
  split
  · exact hs
  split
  · exact hP.closeReply r hanswer
  split
  · exact hs
  · exact hP.closeMiss _ hanswer

theorem TransitionsKept.stationMiss (st : Station) (cause : MissCause) (hs : P s) : P (s.stationMiss st cause) := by
  unfold State.stationMiss
  split
  · exact hs
  split
  · split
    · exact hP.closeMiss st (hP.none (answer_only s) hs)
    · exact hs
  · exact hP.closeMiss st (hP.none (reach_only _ s) hs)

theorem TransitionsKept.claimExpiry (hs : P s) : P s.claimExpiry := by
  unfold State.claimExpiry
  split
  next hauth => exact hP.lapsed hauth (hP.none (reach_only _ s) hs)
  · exact hs

/-- DESK RELEASE is carried out for the holder alone (R11, R172). -/
theorem TransitionsKept.deskRelease (p : Port) (hs : P s) : P (s.command p 0x12 State.releaseRule) := by
  refine command_keeps_permitted (P := P) (fun u x m => hP.none fun a _ => by cases a <;> rfl) p 0x12 hs fun _ hpermitted => ?_
  have hdriving : s.auth.standing p = .driving := of_decide_eq_true hpermitted
  have hheld : ∃ x d, s.auth = .held x d := by
    cases p with
    | A => exact ⟨.A, (standing_eq_driving_iff s.auth .A).mp hdriving⟩
    | B => exact ⟨.B, (standing_eq_driving_iff s.auth .B).mp hdriving⟩
    | V => exact absurd hdriving nofun
  obtain ⟨x, d, hauth⟩ := hheld
  unfold State.releaseRule
  split
  · exact hP.vacated hauth hs
  · exact hs

theorem TransitionsKept.vacateRule (hs : P s) : P s.vacateRule.1 := by
  unfold State.vacateRule
  split
  · exact hs
  next hauth => exact hP.lapsed hauth hs
  next hauth =>
    split
    · exact hP.vacated hauth hs
    · exact hs
  · exact hs

theorem TransitionsKept.emstopPress (c : Cab) (hs : P s) :
    P (s.lineEvent (State.emstopTo c true) fun s => ((s.emstopTo c true).addSource (.emstop c)).syncCheck) := by
  have hline : P (s.emstopTo c true) := hP.none (emstopTo_only c true s) hs
  exact hP.line hline (hP.syncCheck (hP.added (ordinary_emstop c) hline))

theorem TransitionsKept.emstopRelease (c : Cab) (hs : P s) :
    P (s.lineEvent (State.emstopTo c false) fun s => ((s.emstopTo c false).testEmstop c).syncCheck) := by
  have hline : P (s.emstopTo c false) := hP.none (emstopTo_only c false s) hs
  exact hP.line hline (hP.syncCheck (hP.removedIf _ (ordinary_emstop c) hline))

end

end Sys2Proof.Proofs
end

/-! ## Proofs: table, plan and transactions stay in agreement -/

section
/-! SUPPORT. JUNCT's record in its form, and what keeps it (O59). -/

namespace Sys2Proof.Proofs

open Sys2Proof Sys2Proof.Machine

/-- A transaction agrees with the table and has its form. -/
def liveIn (table : List Entry) (t : Transaction) : Prop := routeIn table t.id t.route ∧ transIn t

/-- JUNCT's record in its form, part by part. -/
structure JunctForm (j : JunctRec) : Prop where
  ascending : Ascending j.table
  tableRoom : j.table.length ≤ 96
  entries : ∀ e ∈ j.table, entryIn e
  planRoom : j.plan.length ≤ 32
  planned : ∀ q ∈ j.plan, routeIn j.table q.id q.route
  listRoom : j.list.length ≤ 4
  distinct : (j.list.map Transaction.id).Nodup
  live : ∀ t ∈ j.list, liveIn j.table t
  pending : ∀ r ∈ j.pendingOverride, 1 ≤ r ∧ r ≤ 4
  overflow : j.overflow = true → j.list.length = 4
  presence : j.presence = j.lapseAt.isSome

theorem junctInv_iff (s : State) : JunctInv s ↔ JunctForm s.junct := by
  have hdistinct : s.junct.list.Pairwise (fun a b => a.id ≠ b.id) ↔ (s.junct.list.map Transaction.id).Nodup :=
    List.pairwise_map.symm
  constructor
  · rintro ⟨h1, h2, h3, h4, h5, h6, h7, h8, h9, h10, h11⟩
    exact ⟨h1, h2, h3, h4, h5, h6, hdistinct.mp h7, h8, h9, h10, h11⟩
  · rintro ⟨h1, h2, h3, h4, h5, h6, h7, h8, h9, h10, h11⟩
    exact ⟨h1, h2, h3, h4, h5, h6, hdistinct.mpr h7, h8, h9, h10, h11⟩

theorem junctInv_of_kept {s t : State} (h : Aspect.junct.kept s t) (hs : JunctInv s) : JunctInv t := by
  rw [junctInv_iff, show t.junct = s.junct from h]
  exact (junctInv_iff s).mp hs

/-! ### The list -/

section
variable {j : JunctRec} (h : JunctForm j)
include h

theorem JunctForm.send (ts : List Telegram) : JunctForm (j.send ts) := { h with }

theorem JunctForm.beacon (now : Nat) : JunctForm (j.beacon now) := { h with presence := rfl }

theorem JunctForm.emptied (ts : List Telegram) : JunctForm { j.send ts with list := [], overflow := false } :=
  { h with listRoom := Nat.zero_le 4, distinct := List.nodup_nil, live := nofun, overflow := nofun }

/-- Transactions gone, with the overflow caution. -/
theorem JunctForm.filtered (p : Transaction → Bool) : JunctForm { j with list := j.list.filter p, overflow := false } :=
  { h with
    listRoom := (List.length_filter_le p j.list).trans h.listRoom
    distinct := h.distinct.sublist (List.filter_sublist.map Transaction.id)
    live := fun t ht => h.live t (List.mem_of_mem_filter ht)
    overflow := nofun }

/-- Transactions changed, each into one of its own id that has its form. -/
theorem JunctForm.mapped {f : Transaction → Transaction} (hid : ∀ t ∈ j.list, (f t).id = t.id)
    (hlive : ∀ t ∈ j.list, liveIn j.table (f t)) : JunctForm { j with list := j.list.map f } :=
  { h with
    listRoom := (List.length_map f).trans_le h.listRoom
    distinct := by
      have hids : (j.list.map f).map Transaction.id = j.list.map Transaction.id := by
        rw [List.map_map]
        exact List.map_congr_left hid
      rw [hids]
      exact h.distinct
    live := fun t ht => by
      obtain ⟨u, hu, rfl⟩ := List.mem_map.mp ht
      exact hlive u hu
    overflow := fun ho => (List.length_map f).trans (h.overflow ho) }

theorem JunctForm.putTrans {t : Transaction} (ht : liveIn j.table t) : JunctForm (j.putTrans t) := by
  refine h.mapped (fun u _ => ?_) fun u hu => ?_
  · split
    next he => exact (beq_iff_eq.mp he).symm
    · rfl
  · split
    · exact ht
    · exact h.live u hu

theorem JunctForm.of_live {id : Nat} {t : Transaction} (hlive : j.live id = some t) : liveIn j.table t :=
  h.live t (JunctRec.live_some hlive).1

theorem JunctForm.of_newest {t : Transaction} (hnew : j.newest = some t) : liveIn j.table t :=
  h.live t (List.mem_of_getLast? hnew)

end

/-- Another state, tries, timer and result, with the marks as they were. -/
theorem liveIn_changed {table : List Entry} {t : Transaction} (state : TransState) (tries : Nat) (timer : Option Nat)
    (last : Option ReportResult) (seq : BitVec 3) (h : liveIn table t) (htimer : timer.isSome = decide (state = .requesting))
    (htries : 1 ≤ tries ∧ tries ≤ 3) :
    liveIn table { t with state := state, tries := tries, timer := timer, last := last, seq := seq } :=
  ⟨h.1, htimer, htries, h.2.2.2⟩

theorem liveIn_tries {table : List Entry} {t : Transaction} (h : liveIn table t) : 1 ≤ t.tries ∧ t.tries ≤ 3 := h.2.2.1

theorem liveIn_giveUp {table : List Entry} {t : Transaction} (h : liveIn table t) : liveIn table t.giveUp :=
  liveIn_changed .unconfirmed t.tries none t.last t.seq h rfl (liveIn_tries h)

theorem liveIn_reported {table : List Entry} {t : Transaction} (now : Nat) (r : ReportResult) (route : Nat) (h : liveIn table t) :
    liveIn table (reported now t r route) := by
  rw [reported_eq]
  refine liveIn_changed _ t.tries _ _ t.seq h ?_ (liveIn_tries h)
  cases r with
  | setLocked => by_cases hr : route = t.route <;> simp [stateAfter, hr]
  | moving | refusedOccupied | refusedRoute | pointFault => rfl

/-! ### The events of JUNCT -/

section
variable {s : State} (hs : JunctInv s)
include hs

theorem junctInv_cancelAll : JunctInv s.cancelAll := by
  refine (junctInv_iff _).mpr ?_
  have h := (junctInv_iff s).mp hs
  unfold State.cancelAll
  dsimp only
  split
  · exact h
  · exact h.emptied _

theorem junctInv_retireCleared : JunctInv s.retireCleared := by
  refine (junctInv_iff _).mpr ?_
  have h := (junctInv_iff s).mp hs
  unfold State.retireCleared
  dsimp only
  split
  · exact h.filtered _
  · exact h

theorem junctInv_pulse (i : Sensor) (b : Bool) : JunctInv (s.pulse i b) := by
  have hwheel (w : WheelRec) (m : BitVec 20) : JunctInv { s with wheel := w, raised := m } := hs
  unfold State.pulse State.odometerPulse
  dsimp only
  split
  · exact junctInv_retireCleared (hwheel _ _)
  · exact hwheel _ _

theorem junctInv_changeTrans (t : Transaction) {t' : Transaction} (ht : liveIn s.junct.table t') :
    JunctInv (s.changeTrans t t') :=
  (junctInv_iff _).mpr (((junctInv_iff s).mp hs).putTrans ht)

theorem junctInv_beacon : JunctInv { s with junct := s.junct.beacon s.now } :=
  (junctInv_iff _).mpr (((junctInv_iff s).mp hs).beacon s.now)

theorem junctInv_confirmBeacon (id routeSet : Nat) (locked occupied : Bool) :
    JunctInv (s.confirmBeacon id routeSet locked occupied) := by
  have hb := junctInv_beacon hs
  unfold State.confirmBeacon
  dsimp only
  split
  · exact hb
  next t hlive =>
    have ht := ((junctInv_iff _).mp hb).of_live hlive
    split
    · exact junctInv_changeTrans hb t (liveIn_changed .set t.tries none t.last t.seq ht rfl (liveIn_tries ht))
    · exact hb

theorem junctInv_report (id tram : Nat) (seq : BitVec 3) (r : ReportResult) (routeSet : Nat) :
    JunctInv (s.report id tram seq r routeSet) := by
  unfold State.report
  split
  · exact hs
  split
  · exact hs
  next t hlive =>
    split
    · exact hs
    · exact junctInv_changeTrans hs t (liveIn_reported s.now r routeSet (((junctInv_iff s).mp hs).of_live hlive))

theorem junctInv_reportExpiry (id : Nat) : JunctInv (s.reportExpiry id) := by
  unfold State.reportExpiry
  split
  · exact hs
  next t hlive =>
    have h := (junctInv_iff s).mp hs
    have ht := h.of_live hlive
    split
    · exact hs
    next due hdue =>
      have hreach : JunctInv (s.reach due) := hs
      dsimp only
      split
      next hagain =>
        have htimer : t.timer.isSome = decide (t.state = .requesting) := ht.2.1
        rw [hdue] at htimer
        exact (junctInv_iff _).mpr ((h.putTrans (liveIn_changed t.state (t.tries + 1) (some ((s.reach due).now + 400)) t.last t.seq ht htimer
          ⟨Nat.le_add_left 1 _, hagain.1⟩)).send _)
      · exact junctInv_changeTrans hreach t (liveIn_giveUp ht)

theorem junctInv_loopLapse : JunctInv s.loopLapse := by
  unfold State.loopLapse
  split
  next due _ _ =>
    have h := (junctInv_iff s).mp hs
    have hmapped := h.mapped (f := fun t => if t.state = .requesting then t.giveUp else t)
      (fun t _ => by split <;> rfl)
      (fun t ht => by
        split
        · exact liveIn_giveUp (h.live t ht)
        · exact h.live t ht)
    exact (junctInv_iff _).mpr { hmapped with presence := rfl }
  · exact hs

/-- A re-request takes a route of the transaction's own entry (R161, R162). -/
theorem junctInv_reRequest {t : Transaction} (route : Nat) (source : RouteSource) (ht : liveIn s.junct.table t)
    (hroute : routeIn s.junct.table t.id route) : JunctInv (s.reRequest t route source) := by
  have hchanged : liveIn s.junct.table
      { t with route := route, source := source, seq := s.junct.seq + 1, tries := 1, state := .requesting, timer := some (s.now + 400) } :=
    ⟨hroute, rfl, ⟨Nat.le_refl 1, Nat.le_add_left 1 2⟩, ht.2.2.2⟩
  have hput := ((junctInv_iff s).mp hs).putTrans hchanged
  exact (junctInv_iff _).mpr { hput with }

end

end Sys2Proof.Proofs
end

section
/-! The obligation of the junctions (O59): creation, the table's and the plan's commands, the transitions of authority. -/

namespace Sys2Proof.Proofs

open Sys2Proof Sys2Proof.Machine

/-! ### Creation (R154, R155) -/

theorem planAfter_subset (e : Entry) (plan : List PlanEntry) : planAfter e plan ⊆ plan ∧ (planAfter e plan).length ≤ plan.length := by
  rw [planAfter_eq]
  split
  · exact ⟨List.tail_subset plan, by simp⟩
  · exact ⟨fun _ h => h, Nat.le_refl _⟩

theorem chooseRoute_plan (e : Entry) (plan : List PlanEntry) (ov : Option Nat) :
    (chooseRoute e plan ov).plan = planAfter e plan := by
  rw [chooseRoute_eq, planAfter_eq]

/-- The chosen route is one of the entry's (R154). -/
theorem chooseRoute_route {table : List Entry} {e : Entry} {plan : List PlanEntry} {ov : Option Nat} (he : e ∈ table)
    (hin : entryIn e) (hplan : ∀ q ∈ plan, routeIn table q.id q.route) (hov : ∀ r ∈ ov, 1 ≤ r ∧ r ≤ 4) :
    routeIn table e.id (chooseRoute e plan ov).route := by
  obtain ⟨-, -, hdefault, -⟩ := hin
  rw [chooseRoute_eq]
  dsimp only
  split
  next hused =>
    cases ov with
    | none => cases hused
    | some r =>
      have hroutes : r ≤ e.routes := by simpa [overrideUsed] using (Bool.and_eq_true_iff.mp hused).2
      exact ⟨e, he, rfl, (hov r rfl).1, hroutes⟩
  split
  next hhead =>
    cases plan with
    | nil => cases hhead
    | cons q rest =>
      have hid : q.id = e.id := of_decide_eq_true hhead
      have hq := hplan q List.mem_cons_self
      rw [hid] at hq
      exact hq
  · exact ⟨e, he, rfl, hdefault⟩

/-- The marks of a new transaction are in order (R152). -/
theorem marks_ordered {odometer : Nat} (e : Entry) (lead : Nat) (h : odometer ≤ odometerMax) :
    odometer ≤ cautionMarkOf odometer e.points lead ∧
      cautionMarkOf odometer e.points lead ≤ clearMarkOf odometer e.points e.clear ∧
      clearMarkOf odometer e.points e.clear ≤ odometerMax := by
  have hfar : (e.points - lead) * 1000 ≤ (e.points + e.clear) * 1000 := Nat.mul_le_mul_right 1000 (by omega)
  exact ⟨le_min (Nat.le_add_right _ _) h, min_le_min_right _ (Nat.add_le_add_left hfar _), min_le_right _ _⟩

/-! ### The table -/

/-- An entry as stored lies in its ranges once its routes pass their test (R145). -/
theorem entryIn_stored (f : EntryFrame) (h : ¬((storedEntry f).id = 0 ∨ (storedEntry f).routes = 0 ∨ 4 < (storedEntry f).routes ∨
    (storedEntry f).defaultRoute = 0 ∨ (storedEntry f).routes < (storedEntry f).defaultRoute)) : entryIn (storedEntry f) := by
  have hid : (storedEntry f).id < 4096 := f.id.isLt
  exact ⟨by omega, by omega, by omega, clampTo_in _ (by decide), clampTo_in _ (by decide)⟩

/-- A route stays one of the table's, if it is one of the written entry's where that is for its junction. -/
theorem routeIn_putEntry {table : List Entry} (hasc : Ascending table) {e : Entry} {id route : Nat} (h : routeIn table id route)
    (he : id = e.id → route ≤ e.routes) : routeIn (putEntry table e) id route := by
  obtain ⟨x, hx, rfl, hlo, hhi⟩ := h
  by_cases hid : x.id = e.id
  · exact ⟨e, (mem_putEntry hasc e e).mpr (.inl rfl), hid.symm, hlo, he hid⟩
  · exact ⟨x, (mem_putEntry hasc e x).mpr (.inr ⟨hx, hid⟩), rfl, hlo, hhi⟩

/-- Another junction's entry is not the one deleted. -/
theorem routeIn_deleted {table : List Entry} {id id' route : Nat} (h : routeIn table id' route) (hne : id' ≠ id) :
    routeIn (table.filter fun e => decide (e.id ≠ id)) id' route := by
  obtain ⟨e, he, rfl, hroute⟩ := h
  exact ⟨e, List.mem_filter.mpr ⟨he, decide_eq_true hne⟩, rfl, hroute⟩

section
variable {s : State} (hs : JunctInv s)
include hs

theorem junctInv_createTrans {e : Entry} (he : s.junct.entry e.id = some e) (hnone : s.junct.live e.id = none)
    (hroom : s.junct.list.length < 4) (hodo : s.wheel.odometer ≤ odometerMax) : JunctInv (s.createTrans e) := by
  have h := (junctInv_iff s).mp hs
  have hmem := (JunctRec.entry_some he).1
  have hnew : ∀ t ∈ s.junct.list, t.id ≠ e.id := by simpa [JunctRec.live] using hnone
  have hplan := planAfter_subset e s.junct.plan
  rw [← chooseRoute_plan e s.junct.plan s.junct.pendingOverride] at hplan
  obtain ⟨hsub, hshort⟩ := hplan
  have hlive : liveIn s.junct.table (newTransaction s e (chooseRoute e s.junct.plan s.junct.pendingOverride)) :=
    ⟨chooseRoute_route hmem (h.entries e hmem) h.planned h.pending, rfl, ⟨Nat.le_refl 1, Nat.le_add_left 1 2⟩,
      marks_ordered e s.settings.cautionLead hodo⟩
  refine (junctInv_iff _).mpr { h with
    planRoom := hshort.trans h.planRoom
    planned := fun q hq => h.planned q (hsub hq)
    listRoom := by
      change (s.junct.list ++ [_]).length ≤ 4
      rw [List.length_append]
      exact hroom
    distinct := ?_
    live := fun t ht => ?_
    pending := nofun
    overflow := fun ho => absurd (h.overflow ho) (Nat.ne_of_lt hroom) }
  · change ((s.junct.list ++ [_]).map Transaction.id).Nodup
    rw [List.map_append, List.nodup_append]
    refine ⟨h.distinct, List.nodup_singleton _, fun x hx y hy => ?_⟩
    obtain ⟨t, ht, rfl⟩ := List.mem_map.mp hx
    rw [List.mem_singleton.mp hy]
    exact hnew t ht
  · obtain ht | ht := List.mem_append.mp ht
    · exact h.live t ht
    · rw [List.mem_singleton.mp ht]
      exact hlive

theorem junctInv_requestBeacon (id : Nat) (hodo : s.wheel.odometer ≤ odometerMax) : JunctInv (s.requestBeacon id) := by
  have hb := junctInv_beacon hs
  unfold State.requestBeacon
  dsimp only
  split
  · exact hb
  split
  · exact hb
  next hlive =>
    split
    · exact hb
    next e he =>
      have hid := (JunctRec.entry_some he).2
      split
      next hfull =>
        have h := (junctInv_iff _).mp hb
        exact (junctInv_iff _).mpr { h with overflow := fun _ => Nat.le_antisymm h.listRoom hfull }
      next hroom =>
        refine junctInv_createTrans hb (hid ▸ he) ?_ (Nat.lt_of_not_le hroom) hodo
        rw [hid]
        simpa using hlive

/-! ### The commands -/

theorem junctInv_overrideRule (route : Nat) : JunctInv (s.overrideRule route).1 := by
  have h := (junctInv_iff s).mp hs
  unfold State.overrideRule
  dsimp only
  split
  · exact hs
  next hin =>
    have hin : 1 ≤ route ∧ route ≤ 4 := by omega
    have hpend : JunctInv { s with junct := { s.junct with pendingOverride := some route } } :=
      (junctInv_iff _).mpr { h with pending := fun r hr => by cases hr; exact hin }
    split
    · exact hpend
    next t hnew =>
      split
      · split
        · exact hs
        next e he =>
          obtain ⟨hmem, hid⟩ := JunctRec.entry_some he
          split
          · exact hs
          split
          · exact hs
          next hroutes => exact junctInv_reRequest hs route .override (h.of_newest hnew) ⟨e, hmem, hid, hin.1, Nat.le_of_not_lt hroutes⟩
      · exact hpend

theorem junctInv_repeatRule : JunctInv s.repeatRule.1 := by
  have h := (junctInv_iff s).mp hs
  unfold State.repeatRule
  split
  · exact hs
  split
  · exact hs
  next t hnew =>
    split
    · exact hs
    · exact junctInv_reRequest hs t.route t.source (h.of_newest hnew) (h.of_newest hnew).1

theorem junctInv_tableWriteRule (f : EntryFrame) : JunctInv (s.tableWriteRule f).1 := by
  have h := (junctInv_iff s).mp hs
  unfold State.tableWriteRule
  dsimp only
  split
  · exact hs
  next hin =>
    split
    · exact hs
    next hlive =>
      split
      · exact hs
      next hplan =>
        split
        · exact hs
        next hfull =>
          obtain ⟨hgrows, hsame⟩ := putEntry_length s.junct.table (storedEntry f)
          have hfree : ∀ t ∈ s.junct.list, t.id ≠ (storedEntry f).id := by simpa [JunctRec.live] using hlive
          have hfits : ∀ q ∈ s.junct.plan, q.id = (storedEntry f).id → q.route ≤ (storedEntry f).routes := by
            simpa using hplan
          refine (junctInv_iff _).mpr { h with
            ascending := putEntry_ascending h.ascending _
            tableRoom := ?_
            entries := fun e he => ?_
            planned := fun q hq => routeIn_putEntry h.ascending (h.planned q hq) (hfits q hq)
            live := fun t ht => ⟨routeIn_putEntry h.ascending (h.live t ht).1 fun hid => absurd hid (hfree t ht), (h.live t ht).2⟩ }
          · change (putEntry s.junct.table (storedEntry f)).length ≤ 96
            have hroom := h.tableRoom
            cases hentry : s.junct.entry (storedEntry f).id with
            | some e =>
              rw [hsame h.ascending ⟨e, JunctRec.entry_some hentry⟩]
              exact hroom
            | none =>
              have hshort : ¬96 ≤ s.junct.table.length := fun h96 => hfull (by rw [hentry]; exact decide_eq_true h96)
              omega
          · obtain rfl | ⟨he, -⟩ := (mem_putEntry h.ascending _ e).mp he
            · exact entryIn_stored f hin
            · exact h.entries e he

theorem junctInv_tableDeleteRule (id : Nat) : JunctInv (s.tableDeleteRule id).1 := by
  have h := (junctInv_iff s).mp hs
  unfold State.tableDeleteRule
  split
  · exact hs
  split
  · exact hs
  next hlive =>
    split
    · exact hs
    next hplan =>
      have hfree : ∀ t ∈ s.junct.list, t.id ≠ id := by simpa [JunctRec.live] using hlive
      have hunplanned : ∀ q ∈ s.junct.plan, q.id ≠ id := by simpa using hplan
      exact (junctInv_iff _).mpr { h with
        ascending := h.ascending.filter _
        tableRoom := (List.length_filter_le _ _).trans h.tableRoom
        entries := fun e he => h.entries e (List.mem_of_mem_filter he)
        planned := fun q hq => routeIn_deleted (h.planned q hq) (hunplanned q hq)
        live := fun t ht => ⟨routeIn_deleted (h.live t ht).1 (hfree t ht), (h.live t ht).2⟩ }

theorem junctInv_planAppendRule (id route : Nat) : JunctInv (s.planAppendRule id route).1 := by
  have h := (junctInv_iff s).mp hs
  unfold State.planAppendRule
  dsimp only
  split
  · exact hs
  next hroom =>
    split
    · exact hs
    next e he =>
      obtain ⟨hmem, hid⟩ := JunctRec.entry_some he
      split
      · exact hs
      next hroute =>
        refine (junctInv_iff _).mpr { h with planRoom := ?_, planned := fun q hq => ?_ }
        · change (s.junct.plan ++ [_]).length ≤ 32
          rw [List.length_append]
          exact Nat.lt_of_not_le hroom
        · obtain hq | hq := List.mem_append.mp hq
          · exact h.planned q hq
          · rw [List.mem_singleton.mp hq]
            exact ⟨e, hmem, hid, by dsimp only; omega, by dsimp only; omega⟩

theorem junctInv_planClearRule : JunctInv s.planClearRule.1 :=
  (junctInv_iff _).mpr { (junctInv_iff s).mp hs with planRoom := Nat.zero_le 32, planned := nofun }

end

/-! ### The transitions of authority -/

/-- The aspects that a transition changes beside the list of transactions. -/
abbrev besideJunct : List Aspect := [.sources, .demand, .output, .mismatch, .auth, .vigil, .wheel, .rest, .stations, .stop, .hazard]

/-- A transition that cancels every transaction between changes of other blocks. -/
theorem junctInv_cancelled {s w t : State} (hw : Only besideJunct s w) (ht : Only besideJunct w.cancelAll t) (hs : JunctInv s) :
    JunctInv t :=
  junctInv_of_kept (ht .junct (by decide)) (junctInv_cancelAll (junctInv_of_kept (hw .junct (by decide)) hs))

theorem junctInv_enterVacant {s : State} (hs : JunctInv s) : JunctInv s.enterVacant := by
  refine junctInv_cancelled (w := State.raise .authChanged { s with
    auth := .vacant, shaper := s.shaper.leaveHeld, sound := s.sound.silenceHornBell s.now }) (fun a ha => ?_)
    (((vigilVacant_only _).mono (by decide)).trans ((removeSourceIf_only _ .lever _).mono (by decide))) hs
  cases a <;> simp at ha <;> rfl

theorem junctInv_enterLost {s : State} (x : Cab) (d : Direction) (hs : JunctInv s) : JunctInv (s.enterLost x d) :=
  junctInv_cancelled (((leftLost_only x d s).mono (by decide)).trans ((addSource_only .authLost _).mono (by decide)))
    ((refreshHornBell_only _).mono (List.nil_subset _)) hs

theorem junctInv_enterHeld {s : State} (x : Cab) (c : Claimant) (hs : JunctInv s) : JunctInv (s.enterHeld x c) :=
  junctInv_cancelled (((heldTested_only x c s).mono (by decide)).trans ((cancelStop_only _).mono (by decide)))
    ((refreshHornBell_only _).mono (List.nil_subset _)) hs

theorem junctInv_turn {s : State} (x : Cab) (d : Direction) (hs : JunctInv s) : JunctInv (s.turn x d) := by
  refine junctInv_cancelled (w := State.raise .authChanged { s with
    auth := .held x d, shaper := { s.shaper with zeroPass := false }, wheel := { s.wheel with reverse := 0 }
    sound := s.sound.silenceHornBell s.now }) (fun a ha => ?_) (.refl _) hs
  cases a <;> simp at ha <;> rfl

theorem junctInv_endLost {s : State} (hs : JunctInv s) : JunctInv s.endLost := by
  unfold State.endLost
  split
  · exact junctInv_of_kept (removeSource_only .authLost _ .junct (by decide)) (junctInv_enterVacant hs)
  · exact hs

theorem junctInv_windowSettled {s : State} (hs : JunctInv s) : JunctInv (windowSettled s) := by
  have hpublished : JunctInv (s.reach (s.wheel.windowAt + 250)).publishWindow :=
    junctInv_of_kept (publishWindow_only _ .junct (by decide)) hs
  unfold windowSettled
  dsimp only
  split
  · have hrest (u : State) (hu : JunctInv u) : JunctInv u.handleAtRest.testStandstill.vigilStands.testSectionEnd :=
      junctInv_of_kept ((((testStandstill_only u.handleAtRest).mono (w' := besideJunct) (by decide)).trans
        ((vigilStands_only _).mono (by decide))).trans ((testSectionEnd_only _).mono (by decide)) .junct (by decide)) hu
    exact junctInv_endLost (hrest _ hpublished)
  split
  · exact junctInv_of_kept (beginsToMove_only _ .junct (by decide)) hpublished
  · exact hpublished

theorem junctInv_transitions : TransitionsKept JunctInv where
  quiet h hs := junctInv_of_kept (h .junct (by decide)) hs
  added _ hs := junctInv_of_kept (addSource_only _ _ .junct (by decide)) hs
  removed _ hs := junctInv_of_kept (removeSource_only _ _ .junct (by decide)) hs
  lapsed _ hs := hs
  vacated _ hs := junctInv_enterVacant hs
  lost _ hs := junctInv_enterLost _ _ hs
  held _ hs := junctInv_enterHeld _ _ hs
  turned d' _ hs := junctInv_turn _ d' hs
  written _ _ hs := hs
  attended f _ _ hs := junctInv_of_kept (vigilFrame_only f _ .junct (by decide)) hs
  claimed _ _ _ hs := hs
  window hs := junctInv_windowSettled hs

theorem junctInv_resetKept : ResetKept JunctInv where
  record _ _ _ _ hs := hs
  ended _ _ := reset_junctInv
  low _ := reset_junctInv

theorem junctInv_telegram {s : State} {id routeSet : Nat} {f : State → State} (hs : JunctInv s) (h : JunctInv (f s)) :
    JunctInv (s.telegram id routeSet f) := by
  unfold State.telegram
  split
  · exact h
  · exact hs

/-- Every command leaves table, plan and transactions in agreement. -/
theorem exec_junctInv {i : Instr} {s t : State} (hs : JunctInv s) (hwheel : WheelInv s) (h : exec i s = .next t) : JunctInv t := by
  have htransitions := junctInv_transitions
  have hrule (p : Port) (code : Byte) {rule : State → State × Answer} (hr : JunctInv (rule s).1) :
      JunctInv (s.command p code rule) := htransitions.command p code hs hr
  have hevent {f : State → State} (hf : JunctInv (f s)) : JunctInv (s.event f) := htransitions.event hs hf
  cases i with
  | demand p f => cases h; exact hrule p _ (htransitions.demandRule f hs)
  | deskRelease p => cases h; exact htransitions.deskRelease p hs
  | vacate p => cases h; exact hrule p _ (htransitions.vacateRule hs)
  | keyOff c => cases h; exact htransitions.line hs (htransitions.keyGoesOff (s := s.keyTo c false) c hs)
  | emstopPress c => cases h; exact htransitions.emstopPress c hs
  | emstopRelease c => cases h; exact htransitions.emstopRelease c hs
  | windowEnd => cases h; exact hevent (htransitions.windowEnd hs)
  | stationReplyGood r => cases h; exact hevent (htransitions.stationReply r hs)
  | stationMiss m => cases h; exact hevent (htransitions.stationMiss m.station m.cause hs)
  | tachoPulse x b => cases h; exact hevent (junctInv_pulse hs x b)
  | routeOverride p r => cases h; exact hrule p _ (junctInv_overrideRule hs _)
  | junctionRepeat p => cases h; exact hrule p _ (junctInv_repeatRule hs)
  | tableWrite p e => cases h; exact hrule p _ (junctInv_tableWriteRule hs e)
  | tableDelete p id => cases h; exact hrule p _ (junctInv_tableDeleteRule hs _)
  | planAppend p id r => cases h; exact hrule p _ (junctInv_planAppendRule hs _ _)
  | planClear p => cases h; exact hrule p _ (junctInv_planClearRule hs)
  | requestBeacon id =>
    obtain ⟨-, -, -, -, -, -, -, hodo, -⟩ := hwheel
    cases h
    exact hevent (junctInv_telegram hs (junctInv_requestBeacon hs _ hodo))
  | confirmBeacon id r l o => cases h; exact hevent (junctInv_telegram hs (junctInv_confirmBeacon hs _ _ _ _))
  | report id tram seq r x => cases h; exact hevent (junctInv_telegram hs (junctInv_report hs _ _ _ _ _))
  | loopPresenceLapse => cases h; exact hevent (junctInv_loopLapse hs)
  | reportTimerExpiry id => cases h; exact hevent (junctInv_reportExpiry hs _)
  | coreSupplySample low sel => cases h; exact junctInv_resetKept.coreSample low sel hs
  | supplyLowReset => cases h; exact junctInv_resetKept.enterSupplyLow hs
  | powerOnReset lines sel => cases h; exact junctInv_resetKept.powerOn lines sel
  | resetnRise sel => cases h; exact junctInv_resetKept.resetRise sel hs
  | _ => exact junctInv_of_kept (exec_only h .junct (by simp [writes])) hs

/-- Settles O59: the transactions by their own events, the entry to and the leaving of HELD by cancelling them all. -/
theorem stepKeepsJunctions : Obligations.StepKeepsJunctions := by
  unfold Obligations.StepKeepsJunctions
  intro s t hs h
  obtain ht | ⟨i, u, hu, hexec⟩ := step_cases hs h
  · obtain ⟨-, -, -, -, -, -, -, -, -, hjunct, -⟩ := ht
    exact hjunct
  · obtain ⟨-, -, -, hwheel, -, -, -, -, -, hjunct, -⟩ := hu
    exact exec_junctInv hjunct hwheel hexec

end Sys2Proof.Proofs
end

/-! ## Proofs: touch channels, stop record and history keep their forms -/

section
/-! SUPPORT. A touch channel's record in its form, and what its judgement leaves (R126 to R133). -/

namespace Sys2Proof.Proofs

open Sys2Proof Sys2Proof.Machine

/-- Whether the in-range run, the time of the press and the saved baseline are present in a state (R126). -/
def presentIn : TouchState → Bool × Bool × Bool
  | .disabled | .idle => (false, false, false)
  | .pressing => (false, false, true)
  | .pressed | .releasing | .stuck => (false, true, true)
  | .faulted => (true, false, false)

/-- A touch channel's record in its form, its assignment apart (R126). -/
structure TouchForm (c : TouchRec) : Prop where
  confirm : c.confirm ≤ 3
  voidRun : c.voidRun ≤ 3
  rangeRun : ∀ r ∈ c.rangeRun, r ≤ 50
  baseline : c.state = .disabled → c.baseline = none
  present : (c.rangeRun.isSome, c.pressedAt.isSome, c.saved.isSome) = presentIn c.state

theorem touchIn_iff (c : TouchRec) (x : Assignment) : touchIn c x ↔ (c.state = .disabled ↔ x = .disabled) ∧ TouchForm c := by
  have hpresent : (c.rangeRun.isSome, c.pressedAt.isSome, c.saved.isSome) = presentIn c.state ↔
      c.rangeRun.isSome = decide (c.state = .faulted) ∧
        c.pressedAt.isSome = (decide (c.state = .pressed) || decide (c.state = .releasing) || decide (c.state = .stuck)) ∧
        c.saved.isSome =
          (decide (c.state = .pressing) || decide (c.state = .pressed) || decide (c.state = .releasing) || decide (c.state = .stuck)) := by
    cases c.state <;> simp [presentIn]
  constructor
  · rintro ⟨ha, hc, hv, hr, hrun, hb, hp, hs⟩
    exact ⟨ha, hc, hv, hrun, hb, hpresent.mpr ⟨hr, hp, hs⟩⟩
  · rintro ⟨ha, hc, hv, hrun, hb, hpres⟩
    obtain ⟨hr, hp, hs⟩ := hpresent.mp hpres
    exact ⟨ha, hc, hv, hr, hrun, hb, hp, hs⟩

/-- What a judgement of an enabled channel leaves: its form, still enabled. -/
def judgedIn (j : Judgement) : Prop := TouchForm j.chan ∧ j.chan.state ≠ .disabled

section
variable {c : TouchRec} (h : TouchForm c)
include h

/-- The presence of the fields where the state is known. -/
theorem TouchForm.presentAs {st : TouchState} (hst : c.state = st) :
    (c.rangeRun.isSome, c.pressedAt.isSome, c.saved.isSome) = presentIn st := hst ▸ h.present

theorem judgedIn_void (hd : c.state ≠ .disabled) : judgedIn (judgeVoid c) := by
  have hvoid : min 3 (c.voidRun + 1) ≤ 3 := Nat.min_le_left 3 _
  have hfaults (v : Nat) (hv : v ≤ 3) : judgedIn (enterFaulted { c with voidRun := v }) :=
    ⟨{ confirm := Nat.zero_le 3, voidRun := hv, rangeRun := fun r hr => by cases hr; exact Nat.zero_le 50
       baseline := nofun, present := rfl }, nofun⟩
  have hstays (v : Nat) (hv : v ≤ 3) : judgedIn (quiet { c with voidRun := v }) := ⟨{ h with voidRun := hv }, hd⟩
  unfold judgeVoid
  dsimp only
  split
  next hst => exact absurd hst hd
  next hst =>
    have hpres := h.presentAs hst
    simp only [presentIn, Prod.mk.injEq] at hpres
    exact ⟨{ h with
      voidRun := hvoid, rangeRun := fun r hr => by cases hr; exact Nat.zero_le 50
      baseline := fun e => absurd e hd, present := by simp [quiet, presentIn, hst, hpres] }, hd⟩
  next hst =>
    have hpres := h.presentAs hst
    simp only [presentIn, Prod.mk.injEq] at hpres
    exact ⟨{ h with
      confirm := Nat.zero_le 3, voidRun := hvoid, baseline := nofun, present := by simp [quiet, presentIn, hpres] }, nofun⟩
  · split
    · exact hfaults _ hvoid
    · exact hstays _ hvoid

theorem judgedIn_stuckTest (n time : Nat) (hst : c.state = .pressed) : judgedIn (stuckTest c n time) := by
  have hpres := h.presentAs hst
  unfold stuckTest
  split
  · exact ⟨{ h with confirm := Nat.zero_le 3, baseline := nofun, present := hpres }, nofun⟩
  · exact ⟨h, by simp [quiet, hst]⟩

theorem judgedIn_idle (b n th : Nat) (hst : c.state = .idle) : judgedIn (judgeIdle c b n th) := by
  have hpres := h.presentAs hst
  simp only [presentIn, Prod.mk.injEq] at hpres
  unfold judgeIdle
  split
  · exact ⟨{ h with confirm := Nat.le_add_left 1 2, baseline := nofun, present := by simp [quiet, presentIn, hpres] }, nofun⟩
  · exact ⟨{ h with confirm := Nat.zero_le 3, baseline := fun e => by simp [quiet, hst] at e }, by simp [quiet, hst]⟩

theorem judgedIn_pressing (b n th time : Nat) (hst : c.state = .pressing) : judgedIn (judgePressing c b n th time) := by
  have hpres := h.presentAs hst
  simp only [presentIn, Prod.mk.injEq] at hpres
  unfold judgePressing
  split
  · split
    next hfew => exact ⟨{ h with confirm := by simp only [quiet]; omega }, by simp [quiet, hst]⟩
    · exact ⟨{ h with confirm := Nat.zero_le 3, baseline := nofun, present := by simp [presentIn, hpres] }, nofun⟩
  · exact ⟨{ h with confirm := Nat.zero_le 3, baseline := nofun, present := by simp [quiet, presentIn, hpres] }, nofun⟩

theorem judgedIn_pressed (b n th time : Nat) (hst : c.state = .pressed) : judgedIn (judgePressed c b n th time) := by
  have hpres := h.presentAs hst
  unfold judgePressed
  split
  · exact ⟨{ h with confirm := Nat.le_add_left 1 2, baseline := nofun, present := hpres }, nofun⟩
  · exact judgedIn_stuckTest (c := { c with confirm := 0 }) { h with confirm := Nat.zero_le 3 } n time hst

theorem judgedIn_releasing (b n th time : Nat) (hst : c.state = .releasing) : judgedIn (judgeReleasing c b n th time) := by
  have hpres := h.presentAs hst
  unfold judgeReleasing
  split
  · split
    next hfew => exact ⟨{ h with confirm := by simp only [quiet]; omega }, by simp [quiet, hst]⟩
    · simp only [presentIn, Prod.mk.injEq] at hpres
      exact ⟨{ h with confirm := Nat.zero_le 3, baseline := nofun, present := by simp [quiet, presentIn, hpres] }, nofun⟩
  · exact judgedIn_stuckTest (c := { c with state := .pressed, confirm := 0 })
      { h with confirm := Nat.zero_le 3, baseline := nofun, present := hpres } n time rfl

theorem judgedIn_stuck (n th : Nat) (hst : c.state = .stuck) : judgedIn (judgeStuck c n th) := by
  have hpres := h.presentAs hst
  have hstays (k : Nat) (hk : k ≤ 3) : judgedIn (quiet { c with confirm := k }) := ⟨{ h with confirm := hk }, by simp [quiet, hst]⟩
  unfold judgeStuck
  split
  · exact hstays c.confirm h.confirm
  split
  · split
    next hfew => exact hstays _ (by omega)
    · simp only [presentIn, Prod.mk.injEq] at hpres
      exact ⟨{ h with confirm := Nat.zero_le 3, baseline := nofun, present := by simp [presentIn, hpres] }, nofun⟩
  · exact hstays 0 (Nat.zero_le 3)

theorem judgedIn_faulted (n : Nat) (hst : c.state = .faulted) : judgedIn (judgeFaulted c n) := by
  have hpres := h.presentAs hst
  simp only [presentIn, Prod.mk.injEq] at hpres
  unfold judgeFaulted
  dsimp only
  split
  · exact ⟨{ h with rangeRun := nofun, baseline := nofun, present := by simp [presentIn, hpres] }, nofun⟩
  next hfew =>
    exact ⟨{ h with
      rangeRun := fun r hr => by cases hr; omega
      baseline := fun e => by simp [quiet, hst] at e
      present := by simp [quiet, presentIn, hst, hpres] }, by simp [quiet, hst]⟩

theorem judgedIn_inRange (n th time : Nat) (hd : c.state ≠ .disabled) : judgedIn (judgeInRange c n th time) := by
  have h0 : TouchForm { c with voidRun := 0 } := { h with voidRun := Nat.zero_le 3 }
  have hseeds : judgedIn (quiet { c with voidRun := 0, baseline := some (n * 16) }) :=
    ⟨{ h0 with baseline := fun e => absurd e hd }, hd⟩
  unfold judgeInRange
  dsimp only
  split
  next hst => exact absurd hst hd
  next hst => exact judgedIn_faulted h0 n hst
  · exact hseeds
  next hst _ => exact judgedIn_idle h0 _ n th hst
  next hst _ => exact judgedIn_pressing h0 _ n th time hst
  next hst _ => exact judgedIn_pressed h0 _ n th time hst
  next hst _ => exact judgedIn_releasing h0 _ n th time hst
  next hst _ => exact judgedIn_stuck h0 n th hst

end

/-- The judgement of a count leaves the record in its form, DISABLED or not as it was. -/
theorem touchIn_judge {c : TouchRec} {x : Assignment} (n th time : Nat) (h : touchIn c x) : touchIn (judge c n th time).chan x := by
  obtain ⟨hx, hform⟩ := (touchIn_iff c x).mp h
  have hcounted : TouchForm { c with count := some n } := { hform with }
  refine (touchIn_iff _ x).mpr ?_
  have hjudged {j : Judgement} (hd : c.state ≠ .disabled) (hj : judgedIn j) :
      (j.chan.state = .disabled ↔ x = .disabled) ∧ TouchForm j.chan :=
    ⟨⟨fun e => absurd e hj.2, fun e => absurd (hx.mpr e) hd⟩, hj.1⟩
  unfold judge
  dsimp only
  split
  · exact ⟨hx, hcounted⟩
  next hd =>
    split
    · exact hjudged hd (judgedIn_void hcounted hd)
    · exact hjudged hd (judgedIn_inRange hcounted n th time hd)

/-- A write of the assignment enters or leaves DISABLED with it (R127). -/
theorem touchIn_reassign {c : TouchRec} {old : Assignment} (new : Assignment) (h : touchIn c old) : touchIn (c.reassign old new) new := by
  obtain ⟨hx, hform⟩ := (touchIn_iff c old).mp h
  refine (touchIn_iff _ new).mpr ?_
  rw [reassign_eq]
  split
  next hleaves =>
    have hpres := hform.presentAs (hx.mpr hleaves.1)
    exact ⟨⟨nofun, fun e => absurd e hleaves.2⟩, { hform with baseline := nofun, present := hpres }⟩
  split
  next hstays henters =>
    exact ⟨⟨fun _ => henters.2, fun _ => rfl⟩,
      { confirm := Nat.zero_le 3, voidRun := Nat.zero_le 3, rangeRun := nofun, baseline := fun _ => rfl, present := rfl }⟩
  next hstays hkept =>
    have : c.state = .disabled ↔ new = .disabled := by rw [hx]; tauto
    exact ⟨this, hform⟩

end Sys2Proof.Proofs
end

section
/-! The obligation of the stop requests (O58): the record, the sections and the history under every command. -/

namespace Sys2Proof.Proofs

open Sys2Proof Sys2Proof.Machine

/-! ### The parts of the invariant -/

/-- The stop record in its form (R135). -/
def recordIn (r : StopRec) : Prop :=
  r.presses ≤ 255 ∧ (r.first = none → r.doors = 0 ∧ r.wheelchair = false ∧ r.presses = 0)

/-- The invariant of STOPREQ but for what standstill says of a running section. -/
structure StopForm (s : State) : Prop where
  chans : ∀ k : Fin 16, touchIn (cell s.stop.chans k) (cell s.settings.touch k)
  history : s.stop.history.length ≤ 8
  record : recordIn s.stop.record
  shut : s.held = false → s.stop.sect = .atStop → s.lines.dcl = false

/-- A section that runs with open doors moves (R136, R137). -/
def sectionMoves (s : State) : Prop := s.held = false → s.stop.sect = .running → s.lines.dcl = false → s.wheel.stationary = false

theorem stopInv_iff (s : State) : StopInv s ↔ StopForm s ∧ sectionMoves s := by
  constructor
  · rintro ⟨hchans, hhist, hpresses, hempty, hshut, hmoves⟩
    exact ⟨⟨hchans, hhist, ⟨hpresses, hempty⟩, hshut⟩, hmoves⟩
  · rintro ⟨⟨hchans, hhist, ⟨hpresses, hempty⟩, hshut⟩, hmoves⟩
    exact ⟨hchans, hhist, hpresses, hempty, hshut, hmoves⟩

/-- The aspects that StopForm reads. -/
abbrev stopAspects : List Aspect := [.stop, .touch, .held, .doors]

section
variable {s t : State} {w : List Aspect} (h : Only w s t)
include h

theorem stopForm_of_only (hw : ∀ a ∈ stopAspects, a ∉ w) (hs : StopForm s) : StopForm t := by
  have hstop := h .stop (hw _ (by simp))
  have htouch := h .touch (hw _ (by simp))
  have hheld := h .held (hw _ (by simp))
  have hdoors := h .doors (hw _ (by simp))
  simp only [Aspect.kept, Prod.mk.injEq] at hstop htouch hheld hdoors
  obtain ⟨hchans, hrecord, hsect, hhist⟩ := hstop
  exact ⟨by simpa only [hchans, htouch] using hs.chans, by simpa only [hhist] using hs.history,
    by simpa only [hrecord] using hs.record, by simpa only [hheld, hsect, hdoors] using hs.shut⟩

theorem sectionMoves_of_only (hw : ∀ a ∈ [Aspect.stop, .held, .doors, .rest], a ∉ w) (hs : sectionMoves s) : sectionMoves t := by
  have hstop := h .stop (hw _ (by simp))
  have hheld := h .held (hw _ (by simp))
  have hdoors := h .doors (hw _ (by simp))
  have hrest := h .rest (hw _ (by simp))
  simp only [Aspect.kept, Prod.mk.injEq] at hstop hheld hdoors hrest
  obtain ⟨-, -, hsect, -⟩ := hstop
  simpa only [sectionMoves, hheld, hsect, hdoors, hrest] using hs

theorem stopInv_of_only (hw : ∀ a ∈ [Aspect.stop, .touch, .held, .doors, .rest], a ∉ w) (hs : StopInv s) : StopInv t := by
  obtain ⟨hform, hmoves⟩ := (stopInv_iff s).mp hs
  refine (stopInv_iff t).mpr ⟨stopForm_of_only h (fun a ha => hw a ?_) hform, sectionMoves_of_only h (fun a ha => hw a ?_) hmoves⟩
  · simp only [List.mem_cons, List.not_mem_nil, or_false] at ha ⊢
    tauto
  · simp only [List.mem_cons, List.not_mem_nil, or_false] at ha ⊢
    tauto

end

/-- Another record and notices, with the section, the channels and the history as they were. -/
theorem stopInv_record {s : State} (hs : StopInv s) {r : StopRec} (hr : recordIn r) (m : BitVec 20) :
    StopInv { s with stop := { s.stop with record := r }, raised := m } := by
  obtain ⟨hform, hmoves⟩ := (stopInv_iff s).mp hs
  exact (stopInv_iff _).mpr ⟨{ hform with record := hr, chans := hform.chans }, hmoves⟩

theorem recordIn_empty (chime : Bool) : recordIn { StopRec.empty with chime := chime } :=
  ⟨Nat.zero_le 255, fun _ => ⟨rfl, rfl, rfl⟩⟩

theorem recordIn_cancel {r : StopRec} (h : recordIn r) : recordIn r.cancel := by
  unfold StopRec.cancel
  split
  · exact recordIn_empty r.chime
  · exact h

theorem recordIn_confirm (r : StopRec) (x : Assignment) (mark time : Nat) : recordIn (r.confirm x mark time) := by
  refine ⟨Nat.min_le_left 255 _, fun hnone => ?_⟩
  cases hf : r.first <;> simp [StopRec.confirm, hf] at hnone

theorem pushHistory_length {l : List HistoryEntry} (r : StopRec) (mark time : Nat) (h : l.length ≤ 8) :
    (pushHistory l r mark time).length ≤ 8 := by
  unfold pushHistory
  split
  · exact h
  · exact List.length_take_le 8 _

/-! ### The operations -/

section
variable {s : State} (hs : StopInv s)
include hs

theorem stopInv_cancelStop : StopInv s.cancelStop :=
  stopInv_record hs (recordIn_cancel ((stopInv_iff s).mp hs).1.record) _

theorem stopInv_setStop (src : StopSource) : StopInv (s.setStop src) :=
  stopInv_record hs (r := { s.stop.record with first := some { source := src, mark := s.wheel.odometer, time := s.stopTime } })
    ⟨((stopInv_iff s).mp hs).1.record.1, nofun⟩ _

theorem stopInv_confirmPress (x : Assignment) : StopInv (s.confirmPress x) := by
  unfold State.confirmPress
  dsimp only
  split
  · have hsound (u : State) (r : SoundRec) (hu : StopInv u) : StopInv { u with sound := r } := hu
    exact hsound _ _ (stopInv_record hs (recordIn_confirm s.stop.record x s.wheel.odometer s.stopTime) _)
  · exact hs

theorem stopInv_gateEnd (k : Fin 16) (n : Nat) : StopInv (s.gateEnd k n) := by
  obtain ⟨hform, hmoves⟩ := (stopInv_iff s).mp hs
  have hchan (time : Nat) (m : BitVec 20) : StopInv
      { s.reach ((s.stop.scanAt.map fun t => t + k.val + 1).getD s.now) with
        stop := { s.stop with
          chans := putCell s.stop.chans k (judge (cell s.stop.chans k) n s.settings.threshold time).chan }
        raised := m } := by
    refine (stopInv_iff _).mpr ⟨{ hform with record := hform.record, chans := fun j => ?_ }, hmoves⟩
    by_cases hj : j = k
    · subst hj
      change touchIn (cell (putCell _ _ _) _) (cell s.settings.touch j)
      rw [cell_putCell_self]
      exact touchIn_judge n _ time (hform.chans j)
    · change touchIn (cell (putCell _ _ _) _) (cell s.settings.touch j)
      rw [cell_putCell_other _ _ hj]
      exact hform.chans j
  unfold State.gateEnd State.measure
  dsimp only
  split
  · exact stopInv_confirmPress (hchan _ _) _
  · exact hchan _ _

theorem stopInv_settingRule (field value channel : Nat) : StopInv (s.settingRule field value channel).1 := by
  obtain he | ⟨x, -, he⟩ | he := settingRule_cases field value channel s
  · rwa [he]
  · rw [he]
    obtain ⟨hform, hmoves⟩ := (stopInv_iff s).mp hs
    refine (stopInv_iff _).mpr ⟨{ hform with record := hform.record, chans := fun j => ?_ }, hmoves⟩
    change touchIn (cell (putCell _ _ _) _) (cell (putCell _ _ _) _)
    by_cases hj : j = Fin.ofNat 16 channel
    · subst hj
      rw [cell_putCell_self, cell_putCell_self]
      exact touchIn_reassign x (hform.chans _)
    · rw [cell_putCell_other _ _ hj, cell_putCell_other _ _ hj]
      exact hform.chans j
  · rw [he]
    obtain ⟨hform, hmoves⟩ := (stopInv_iff s).mp hs
    have htouch : (s.writeSetting field value).settings.touch = s.settings.touch := put_touch _ _ _
    exact (stopInv_iff _).mpr ⟨{ hform with record := hform.record, chans := fun j => by rw [htouch]; exact hform.chans j }, hmoves⟩

theorem stopInv_doorsClose : StopInv s.doorsClose := by
  obtain ⟨hform, -⟩ := (stopInv_iff s).mp hs
  refine (stopInv_iff _).mpr ⟨{ hform with chans := hform.chans, record := ?_, shut := nofun }, nofun⟩
  change recordIn (if _ then _ else _)
  split
  · exact hform.record
  · exact hform.record

end

/-- No section runs with open doors (R137). -/
def sectionShut (s : State) : Prop := s.stop.sect = .running → s.lines.dcl = true

theorem sectionMoves_of_shut {s : State} (h : sectionShut s) : sectionMoves s := fun _ hrun hopen =>
  absurd (h hrun) (by rw [hopen]; exact Bool.false_ne_true)

/-- Once the section end has been tested no section runs with open doors. -/
theorem testSectionEnd_shut {s : State} (hs : StopForm s) : StopForm s.testSectionEnd ∧ sectionShut s.testSectionEnd := by
  unfold State.testSectionEnd
  split
  next hends =>
    exact ⟨{ hs with history := pushHistory_length _ _ _ hs.history, record := recordIn_empty false, chans := hs.chans
                     shut := fun _ _ => hends.2 }, nofun⟩
  next hruns =>
    refine ⟨hs, fun hrun => ?_⟩
    cases hdcl : s.lines.dcl with
    | true => rfl
    | false => exact absurd ⟨hrun, hdcl⟩ hruns

theorem stopInv_doorsOpen {s : State} (hs : StopInv s) : StopInv s.doorsOpen := by
  obtain ⟨hform, -⟩ := (stopInv_iff s).mp hs
  unfold State.doorsOpen
  dsimp only
  split
  · have hopen (sh : ShaperRec) (x : SoundRec) (m : BitVec 20) :
        StopForm { s with lines := { s.lines with dcl := false }, shaper := sh, sound := x, raised := m } :=
      { hform with record := hform.record, chans := hform.chans, shut := fun _ _ => rfl }
    obtain ⟨hended, hshut⟩ := testSectionEnd_shut (hopen _ _ _)
    exact (stopInv_iff _).mpr ⟨hended, sectionMoves_of_shut hshut⟩
  next hmoving =>
    exact (stopInv_iff _).mpr ⟨{ hform with record := hform.record, chans := hform.chans, shut := fun _ _ => rfl },
      fun _ _ _ => Bool.eq_false_iff.mpr hmoving⟩

/-- A window end tests the section where it sets STATIONARY; elsewhere a running section with open doors moves on. -/
theorem stopInv_windowSettled {s : State} (hs : StopInv s) : StopInv (windowSettled s) := by
  obtain ⟨hform, hmoves⟩ := (stopInv_iff s).mp hs
  have hpublished : StopForm (s.reach (s.wheel.windowAt + 250)).publishWindow :=
    stopForm_of_only (((reach_only _ s).mono (List.nil_subset _)).trans (publishWindow_only _)) (by decide) hform
  have hsame : (s.reach (s.wheel.windowAt + 250)).publishWindow.stop.sect = s.stop.sect ∧
      (s.reach (s.wheel.windowAt + 250)).publishWindow.lines = s.lines ∧
      (s.reach (s.wheel.windowAt + 250)).publishWindow.held = s.held := ⟨rfl, rfl, rfl⟩
  unfold windowSettled
  dsimp only
  change StopInv (if _ && !s.wheel.stationary then _ else if !_ && s.wheel.stationary then _ else _)
  generalize (s.reach (s.wheel.windowAt + 250)).publishWindow = u at hpublished hsame
  obtain ⟨hsect, hlines, hheld⟩ := hsame
  split
  · have hrest : StopForm u.handleAtRest.testStandstill.vigilStands := by
      have hhandle : Only [] u u.handleAtRest := shaper_only u rfl rfl rfl rfl
      refine stopForm_of_only (w := [.sources, .output, .vigil, .hazard]) ?_ (by decide) hpublished
      exact ((hhandle.mono (List.nil_subset _)).trans ((testStandstill_only _).mono (by decide))).trans
        ((vigilStands_only _).mono (by decide))
    obtain ⟨hended, hshut⟩ := testSectionEnd_shut hrest
    have hlost := endLost_only u.handleAtRest.testStandstill.vigilStands.testSectionEnd
    refine (stopInv_iff _).mpr ⟨stopForm_of_only hlost (by decide) hended, sectionMoves_of_shut fun hrun => ?_⟩
    have hstop := hlost .stop (by decide)
    simp only [Aspect.kept, Prod.mk.injEq] at hstop
    obtain ⟨-, -, hkeeps, -⟩ := hstop
    exact (hlost .doors (by decide)).trans (hshut (hkeeps ▸ hrun))
  next hnotset =>
    split
    next hclears =>
      have hbegins := beginsToMove_only u
      refine (stopInv_iff _).mpr ⟨stopForm_of_only hbegins (by decide) hpublished, fun _ _ _ => ?_⟩
      obtain ⟨hmoving, -⟩ := Bool.and_eq_true_iff.mp hclears
      exact (hbegins .rest (by decide)).trans (by simpa using hmoving)
    next hnotcleared =>
      refine (stopInv_iff _).mpr ⟨hpublished, fun hrunning hrun hopen => ?_⟩
      have hwas := hmoves (hheld ▸ hrunning) (hsect ▸ hrun) (hlines ▸ hopen)
      simpa [hwas] using hnotset

/-- The entry to HELD clears the stop record (R140). -/
theorem stopInv_enterHeld {s : State} (x : Cab) (c : Claimant) (hs : StopInv s) : StopInv (s.enterHeld x c) := by
  have htested : StopInv ((heldSeeded x c s).removeSource .startup).testLoopDropped :=
    stopInv_of_only (heldTested_only x c s) (by decide) hs
  rw [enterHeld_heldSeeded]
  exact stopInv_of_only ((cancelAll_only _).trans ((refreshHornBell_only _).mono (List.nil_subset _))) (by decide)
    (stopInv_cancelStop htested)

theorem stopInv_transitions : TransitionsKept StopInv where
  quiet h hs := stopInv_of_only h (by decide) hs
  added _ hs := stopInv_of_only (addSource_only _ _) (by decide) hs
  removed _ hs := stopInv_of_only (removeSource_only _ _) (by decide) hs
  lapsed _ hs := stopInv_of_only (endClaim_only _ _) (by decide) hs
  vacated _ hs := stopInv_of_only (enterVacant_only _) (by decide) hs
  lost _ hs := stopInv_of_only (enterLost_only _ _ _) (by decide) hs
  held _ hs := stopInv_enterHeld _ _ hs
  turned d' _ hs := stopInv_of_only (turn_only _ d' _) (by decide) hs
  written _ _ hs := hs
  attended f _ _ hs := stopInv_of_only (vigilFrame_only f _) (by decide) hs
  claimed _ _ _ hs := hs
  window hs := stopInv_windowSettled hs

/-! ### The resets -/

/-- The channels and the section as a reset leaves them with the doors at the level of DCL (R126, R136). -/
theorem stopInv_of_reset {s : State} (hstop : s.stop = .reset s.lines.dcl) (hsettings : s.settings = .reset) : StopInv s := by
  refine (stopInv_iff s).mpr ⟨⟨fun k => ?_, ?_, ?_, fun _ hsect => ?_⟩, fun _ hsect hopen => ?_⟩
  · have hreset := reset_stopInv.1 k
    rw [hstop, hsettings]
    exact hreset
  · rw [hstop]
    exact Nat.zero_le 8
  · rw [hstop]
    exact recordIn_empty false
  · cases hdcl : s.lines.dcl with
    | false => rfl
    | true => rw [hstop, hdcl] at hsect; exact nomatch hsect
  · rw [hstop, hopen] at hsect
    exact nomatch hsect

theorem stopInv_resetKept : ResetKept StopInv where
  record _ _ _ _ hs := hs
  ended _ _ := stopInv_of_reset rfl rfl
  low _ := stopInv_of_reset rfl rfl

/-- While the die is held only the level of DCL changes. -/
theorem stopInv_dclTo {s : State} (high : Bool) (hheld : s.held = true) (hs : StopInv s) : StopInv (s.dclTo high) := by
  obtain ⟨hform, -⟩ := (stopInv_iff s).mp hs
  have hnot : (s.dclTo high).held ≠ false := by
    rw [show (s.dclTo high).held = s.held from rfl, hheld]
    exact Bool.noConfusion
  exact (stopInv_iff _).mpr ⟨{ hform with record := hform.record, chans := hform.chans, shut := fun h => absurd h hnot },
    fun h => absurd h hnot⟩

theorem stopInv_doors {s : State} (high : Bool) {effect : State → State} (hs : StopInv s) (h : StopInv (effect s)) :
    StopInv (s.lineEvent (State.dclTo high) effect) := by
  unfold State.lineEvent
  split
  next hheld => exact stopInv_dclTo high hheld hs
  · exact h

/-- Every command leaves STOPREQ's records in their forms. -/
theorem exec_stopInv {i : Instr} {s t : State} (hs : StopInv s) (h : exec i s = .next t) : StopInv t := by
  have htransitions := stopInv_transitions
  have hrule (p : Port) (code : Byte) {rule : State → State × Answer} (hr : StopInv (rule s).1) :
      StopInv (s.command p code rule) := htransitions.command p code hs hr
  have hevent {f : State → State} (hf : StopInv (f s)) : StopInv (s.event f) := htransitions.event hs hf
  cases i with
  | demand p f => cases h; exact hrule p _ (htransitions.demandRule f hs)
  | emstopPress c => cases h; exact htransitions.emstopPress c hs
  | emstopRelease c => cases h; exact htransitions.emstopRelease c hs
  | windowEnd => cases h; exact hevent (htransitions.windowEnd hs)
  | stationReplyGood r => cases h; exact hevent (htransitions.stationReply r hs)
  | stationMiss m => cases h; exact hevent (htransitions.stationMiss m.station m.cause hs)
  | stopSet p =>
    cases h
    refine hrule p _ ?_
    unfold State.stopSetRule
    split
    · exact hs
    split
    · exact hs
    · exact stopInv_setStop hs _
  | stopCancel p => cases h; exact hrule p _ (stopInv_cancelStop hs)
  | setLineLimit p | setRunNumber p | settingWrite p => cases h; exact hrule p _ (stopInv_settingRule hs _ _ _)
  | touchMeasurement k n => cases h; exact hevent (stopInv_gateEnd hs k n.toNat)
  | dclOpen => cases h; exact stopInv_doors false hs (stopInv_doorsOpen hs)
  | dclClose => cases h; exact stopInv_doors true hs (stopInv_doorsClose hs)
  | coreSupplySample low sel => cases h; exact stopInv_resetKept.coreSample low sel hs
  | supplyLowReset => cases h; exact stopInv_resetKept.enterSupplyLow hs
  | powerOnReset lines sel => cases h; exact stopInv_resetKept.powerOn lines sel
  | resetnRise sel => cases h; exact stopInv_resetKept.resetRise sel hs
  | _ => exact stopInv_of_only (exec_only h) (by simp [writes]) hs

/-- Settles O58: the channels by their judgements, the record by its requests, the section by the doors and by standstill. -/
theorem stepKeepsStopRequests : Obligations.StepKeepsStopRequests := by
  unfold Obligations.StepKeepsStopRequests
  intro s t hs h
  obtain ht | ⟨i, u, hu, hexec⟩ := step_cases hs h
  · obtain ⟨-, -, -, -, -, -, -, -, hstop, -⟩ := ht
    exact hstop
  · obtain ⟨-, -, -, -, -, -, -, -, hstop, -⟩ := hu
    exact exec_stopInv hstop hexec

end Sys2Proof.Proofs
end

/-! ## Proofs: WHEEL's fields stay in their ranges -/

section
/-! SUPPORT. WHEEL's record in its ranges under every command (O56). -/

namespace Sys2Proof.Proofs

open Sys2Proof Sys2Proof.Machine

/-- WHEEL's record in its ranges, field by field. -/
structure WheelForm (w : WheelRec) : Prop where
  s1 : sensorIn w.s1
  s2 : sensorIn w.s2
  v : w.v ≤ 1200
  failed : ¬(w.s1.failed = true ∧ w.s2.failed = true)
  disagree : w.disagree ≤ 4
  agree : w.agree ≤ 2
  emptyRun : w.emptyRun ≤ 4
  odometer : w.odometer ≤ odometerMax
  remainder : w.remainder ≤ 63
  reverse : w.reverse ≤ reverseMax
  runOn : w.adhesion = .slip → w.runOn = none

theorem wheelInv_iff (s : State) : WheelInv s ↔ WheelForm s.wheel := by
  constructor
  · rintro ⟨h1, h2, h3, h4, h5, h6, h7, h8, h9, h10, h11⟩
    exact ⟨h1, h2, h3, h4, h5, h6, h7, h8, h9, h10, h11⟩
  · rintro ⟨h1, h2, h3, h4, h5, h6, h7, h8, h9, h10, h11⟩
    exact ⟨h1, h2, h3, h4, h5, h6, h7, h8, h9, h10, h11⟩

theorem wheelInv_of_only {s t : State} {w : List Aspect} (h : Only w s t) (hw : .wheel ∉ w) (hs : WheelInv s) : WheelInv t := by
  rw [wheelInv_iff, show t.wheel = s.wheel from h .wheel hw]
  exact (wheelInv_iff s).mp hs

/-! ### Pulses (R20, R31, R33) -/

theorem sensorIn_pulse {r : SensorRec} (h : sensorIn r) : sensorIn r.pulse := by
  obtain ⟨-, hspeed, hfail, hrecover⟩ := h
  exact ⟨Nat.min_le_left 511 _, hspeed, hfail, hrecover⟩

section
variable {w : WheelRec} (h : WheelForm w)
include h

theorem WheelForm.pulse (i : Sensor) : WheelForm (w.pulse i) := by
  have hs1 := sensorIn_pulse h.s1
  have hs2 := sensorIn_pulse h.s2
  cases i with
  | one => exact { h with s1 := hs1, s2 := h.s2, failed := h.failed }
  | two => exact { h with s1 := h.s1, s2 := hs2, failed := h.failed }

theorem WheelForm.travel (c : Nat) : WheelForm (w.travel c) := by
  unfold WheelRec.travel
  split
  · exact h
  · exact { h with odometer := Nat.min_le_left odometerMax _, remainder := Nat.le_of_lt_succ (Nat.mod_lt _ (by decide)) }

theorem WheelForm.countReverse (c : Nat) : WheelForm (w.countReverse c) := { h with reverse := Nat.min_le_left reverseMax _ }

end

theorem wheelInv_pulse {s : State} (i : Sensor) (b : Bool) (hs : WheelInv s) : WheelInv (s.pulse i b) := by
  have hcounted := ((wheelInv_iff s).mp hs).pulse i
  have hput (w : WheelRec) (m : BitVec 20) (hw : WheelForm w) : WheelInv { s with wheel := w, raised := m } :=
    (wheelInv_iff _).mpr hw
  unfold State.pulse State.odometerPulse
  dsimp only
  split
  · refine wheelInv_of_only (retireCleared_only _) (by decide) (hput _ _ ?_)
    split
    · exact (hcounted.travel _).countReverse _
    · exact hcounted.travel _
  · exact hput _ _ hcounted

/-! ### The window end, stage by stage (R22) -/

/-- What stage 1 gives of a sensor: a speed in range, and none without pulses (R21). -/
def speedMeasured (r : SensorRec) : Prop := sensorIn r ∧ (r.count = 0 → r.speed = 0)

theorem speedMeasured_stage1 {r : SensorRec} (c : Nat) (h : sensorIn r) : speedMeasured { r with speed := sensorSpeed r.count c } := by
  obtain ⟨hcount, -, hfail, hrecover⟩ := h
  refine ⟨⟨hcount, Nat.min_le_left 1200 _, hfail, hrecover⟩, fun hzero => ?_⟩
  have hzero : r.count = 0 := hzero
  simp [sensorSpeed, hzero]

theorem sensorIn_health {r : SensorRec} (other : SensorRec) (h : sensorIn r) : sensorIn (r.health other) := by
  obtain ⟨hcount, hspeed, hfail, hrecover⟩ := h
  have hruns (b : Bool) (x y : Nat) (hx : x ≤ 8) (hy : y ≤ 8) : sensorIn { r with failed := b, failRun := x, recoverRun := y } :=
    ⟨hcount, hspeed, hx, hy⟩
  unfold SensorRec.health
  split
  · split
    · split
      · exact hruns _ _ _ (by omega) (by omega)
      · exact hruns _ _ _ (by omega) (by omega)
    · exact hruns _ _ _ (by omega) (by omega)
  split
  · exact hruns _ _ _ (by omega) (by omega)
  split
  · split
    · exact hruns _ _ _ (by omega) (by omega)
    · exact hruns _ _ _ (by omega) (by omega)
  · exact hruns _ _ _ (by omega) (by omega)

/-- A sensor that was OK fails only beside an OK sensor that moves, without a pulse of its own (R24). -/
theorem fails_of_health {r other : SensorRec} (hok : r.failed = false) (hfails : (r.health other).failed = true) :
    other.failed = false ∧ r.count = 0 ∧ 50 < other.speed := by
  unfold SensorRec.health at hfails
  rw [if_neg (by simp [hok])] at hfails
  split at hfails
  · simp [hok] at hfails
  next hother =>
    split at hfails
    next hempty => exact ⟨Bool.eq_false_iff.mpr hother, hempty⟩
    · simp [hok] at hfails

/-- Stage 2 never leaves both sensors FAILED: of two that are OK only one can stand still while the other moves. -/
theorem not_both_fail {r1 r2 : SensorRec} (h1 : speedMeasured r1) (h : ¬(r1.failed = true ∧ r2.failed = true)) :
    ¬((r1.health r2).failed = true ∧ (r2.health r1).failed = true) := by
  rintro ⟨hf1, hf2⟩
  by_cases hok1 : r1.failed = false
  · obtain ⟨hok2, hempty, -⟩ := fails_of_health hok1 hf1
    obtain ⟨-, -, hmoves⟩ := fails_of_health hok2 hf2
    rw [h1.2 hempty] at hmoves
    omega
  · have hok2 : r2.failed = false := Bool.eq_false_iff.mpr fun e => h ⟨by simpa using hok1, e⟩
    exact hok1 (fails_of_health hok2 hf2).1

theorem referenceSpeed_le {s1 s2 : SensorRec} (o : Int) (h1 : sensorIn s1) (h2 : sensorIn s2) : referenceSpeed s1 s2 o ≤ 1200 := by
  obtain ⟨-, hv1, -⟩ := h1
  obtain ⟨-, hv2, -⟩ := h2
  unfold referenceSpeed
  repeat' split
  all_goals omega

section
variable {w : WheelRec} (h : WheelForm w)
include h

theorem WheelForm.stage1 (c : Nat) :
    WheelForm (w.stage1 c) ∧ speedMeasured (w.stage1 c).s1 := by
  have h1 := speedMeasured_stage1 c h.s1
  have h2 := speedMeasured_stage1 c h.s2
  exact ⟨{ h with s1 := h1.1, s2 := h2.1, failed := h.failed }, h1⟩

theorem WheelForm.stage2 (h1 : speedMeasured w.s1) : WheelForm w.stage2 :=
  { h with s1 := sensorIn_health _ h.s1, s2 := sensorIn_health _ h.s2, failed := not_both_fail h1 h.failed }

theorem WheelForm.stage3 (o : Int) : WheelForm (w.stage3 o) := { h with v := referenceSpeed_le o h.s1 h.s2 }

theorem WheelForm.adhesionRuns : WheelForm w.adhesionRuns := by
  unfold WheelRec.adhesionRuns
  split
  · exact { h with disagree := Nat.min_le_left 4 _, agree := Nat.zero_le 2 }
  · exact { h with disagree := Nat.zero_le 4, agree := Nat.min_le_left 2 _ }

theorem WheelForm.adhesionState (now : Nat) (o : Int) (tuSlip : Bool) : WheelForm (w.adhesionState now o tuSlip) := by
  unfold WheelRec.adhesionState
  split
  · split
    · refine { h with disagree := Nat.zero_le 4, agree := Nat.zero_le 2, runOn := fun hslip => ?_ }
      by_cases ho : 0 < o
      · exact if_pos ho
      · have hslip : (if 0 < o then Adhesion.slip else .slide) = .slip := hslip
        rw [if_neg ho] at hslip
        exact nomatch hslip
    · exact h
  · split
    · exact { h with disagree := Nat.zero_le 4, agree := Nat.zero_le 2, runOn := nofun }
    · exact h
  · split
    · exact { h with disagree := Nat.zero_le 4, agree := Nat.zero_le 2, runOn := nofun }
    · exact h

theorem WheelForm.stage5 : WheelForm w.stage5 := by
  refine { h with emptyRun := ?_, reverse := ?_ }
  · change w.nextEmptyRun ≤ 4
    unfold WheelRec.nextEmptyRun
    split
    · exact Nat.min_le_left 4 _
    · exact Nat.zero_le 4
  · change (if _ then 0 else w.reverse) ≤ reverseMax
    split
    · exact Nat.zero_le _
    · exact h.reverse

theorem WheelForm.stage6 (now : Nat) : WheelForm (w.stage6 now) :=
  { h with s1 := ⟨Nat.zero_le 511, h.s1.2⟩, s2 := ⟨Nat.zero_le 511, h.s2.2⟩, failed := h.failed }

theorem WheelForm.windowEnd (now c : Nat) (o : Int) (tuSlip : Bool) : WheelForm (w.windowEnd now c o tuSlip) := by
  obtain ⟨hform, h1⟩ := h.stage1 c
  exact (((((hform.stage2 h1).stage3 o).adhesionRuns).adhesionState now o tuSlip).stage5).stage6 now

theorem WheelForm.slipReported : WheelForm { w with
    adhesion := .slip, agree := 0, runOn := none, disagree := if w.adhesion = .slip then w.disagree else 0 } := by
  refine { h with agree := Nat.zero_le 2, runOn := fun _ => rfl, disagree := ?_ }
  dsimp only
  split
  · exact h.disagree
  · exact Nat.zero_le 4

end

/-! ### The events -/

section
variable {s : State} (hs : WheelInv s)
include hs

theorem wheelInv_windowEnd : WheelInv s.windowEnd := by
  have hpublished : WheelInv (s.reach (s.wheel.windowAt + 250)).publishWindow :=
    (wheelInv_iff _).mpr (((wheelInv_iff s).mp hs).windowEnd _ _ _ _)
  refine wheelInv_of_only (syncCheck_only (windowSettled s)) (by decide) ?_
  unfold windowSettled
  dsimp only
  split
  · exact wheelInv_of_only (comesToRest_only _) (by decide) hpublished
  split
  · exact wheelInv_of_only (beginsToMove_only _) (by decide) hpublished
  · exact hpublished

theorem wheelInv_runOnExpiry : WheelInv s.runOnExpiry := by
  unfold State.runOnExpiry
  split
  · exact hs
  · exact (wheelInv_iff _).mpr { (wheelInv_iff s).mp hs with runOn := fun _ => rfl }

theorem wheelInv_takeSlip (r : TuReply) : WheelInv (s.takeSlip r) := by
  unfold State.takeSlip
  split
  · exact (wheelInv_iff _).mpr ((wheelInv_iff s).mp hs).slipReported
  · exact hs

theorem wheelInv_closeReply (r : StationReply) : WheelInv (s.closeReply r) := by
  have hmiss (st : Station) : WheelInv (s.closeMiss st) := wheelInv_of_only (closeMiss_only st s) (by decide) hs
  cases r with
  | tu1 x =>
    unfold State.closeReply
    dsimp only
    split
    · exact wheelInv_takeSlip (wheelInv_of_only (closeTu1_only _ s) (by decide) hs) x
    · exact hmiss .tu1
  | tu2 x =>
    unfold State.closeReply
    dsimp only
    split
    · exact wheelInv_takeSlip (wheelInv_of_only (closeTu2_only _ s) (by decide) hs) x
    · exact hmiss .tu2
  | brk x => exact wheelInv_of_only (closeBrk_only _ s) (by decide) hs

theorem wheelInv_stationReply (r : StationReply) : WheelInv (s.stationReply r) := by
  have hanswer : WheelInv s.answer := hs
  unfold State.stationReply
  split
  · exact hs
  split
  · exact wheelInv_closeReply hanswer r
  split
  · exact hs
  · exact wheelInv_of_only (closeMiss_only _ _) (by decide) hanswer

/-- A turn clears the reverse counter (R33). -/
theorem wheelInv_turn (x : Cab) (d : Direction) : WheelInv (s.turn x d) :=
  wheelInv_of_only (cancelAll_only _) (by decide)
    ((wheelInv_iff _).mpr { (wheelInv_iff s).mp hs with reverse := Nat.zero_le _ })

theorem wheelInv_holderFrame (x : Cab) (d : Direction) (f : DemandFrame) : WheelInv (s.holderFrame x d f) := by
  have hturned : WheelInv (if s.turns d then s.turn x d else s) := by
    split
    · exact wheelInv_turn hs x d
    · exact hs
  exact wheelInv_of_only (frameStages_only s.shaper.demand f _) (by decide) hturned

theorem wheelInv_demandRule (f : DemandFrame) : WheelInv (s.demandRule f).1 := by
  unfold State.demandRule
  split
  · exact hs
  split
  · exact wheelInv_holderFrame hs _ _ f
  · exact wheelInv_of_only (claimantFrame_only _ f s) (by decide) hs

end

theorem wheelInv_of_reset {s : State} (h : ∃ now, s.wheel = .reset now) : WheelInv s := by
  obtain ⟨now, h⟩ := h
  have hreset : WheelForm (.reset now) := { (wheelInv_iff State.reset).mp reset_wheelInv with }
  rw [wheelInv_iff, h]
  exact hreset

theorem wheelInv_resetKept : ResetKept WheelInv where
  record _ _ _ _ hs := hs
  ended _ s := wheelInv_of_reset ⟨s.now, rfl⟩
  low s := wheelInv_of_reset ⟨s.now, rfl⟩

/-- Every command leaves WHEEL's fields in their ranges. -/
theorem exec_wheelInv {i : Instr} {s t : State} (hs : WheelInv s) (h : exec i s = .next t) : WheelInv t := by
  have hevent {f : State → State} (hf : WheelInv (f s)) : WheelInv (s.event f) := event_keeps (fun _ h => h) hs fun _ => hf
  cases i with
  | demand p f => cases h; exact command_keeps (fun _ _ _ h => h) p _ hs fun _ => wheelInv_demandRule hs f
  | tachoPulse x b => cases h; exact hevent (wheelInv_pulse x b hs)
  | windowEnd => cases h; exact hevent (wheelInv_windowEnd hs)
  | slipRunOnExpiry => cases h; exact hevent (wheelInv_runOnExpiry hs)
  | stationReplyGood r => cases h; exact hevent (wheelInv_stationReply hs r)
  | coreSupplySample low sel => cases h; exact wheelInv_resetKept.coreSample low sel hs
  | supplyLowReset => cases h; exact wheelInv_resetKept.enterSupplyLow hs
  | powerOnReset lines sel => cases h; exact wheelInv_resetKept.powerOn lines sel
  | resetnRise sel => cases h; exact wheelInv_resetKept.resetRise sel hs
  | _ => exact wheelInv_of_only (exec_only h) (by simp [writes]) hs

end Sys2Proof.Proofs
end

/-! ## Proofs: emergency, authority, vigilance and output -/

section
/-! SUPPORT. What the transitions of authority come to for a predicate of sources, demand, output, authority and vigilance. -/

namespace Sys2Proof.Proofs

open Sys2Proof Sys2Proof.Machine

/-! ### The window end of a predicate of the core -/

/-- The aspects outside sources, demand, output, authority and vigilance that the transitions change. -/
abbrev outside : List Aspect := [.wheel, .rest, .stations, .stop, .junct]

/-- A predicate of sources, demand, output, authority and vigilance that the single transitions keep. -/
structure CoreKept (P : State → Prop) : Prop where
  outside : ∀ {s t : State}, Only outside s t → P s → P t
  added : ∀ {k : EmSource} {s : State}, EmSource.ordinary k → P s → P (s.addSource k)
  removed : ∀ {k : EmSource} {s : State}, EmSource.ordinary k → P s → P (s.removeSource k)
  lapsed : ∀ {c : Cab} {s : State}, s.auth.leads = false → P s → P (s.endClaim c)
  left : ∀ {c : Cab} {d : Direction} {s : State}, s.auth = .held c d → P s → P (leftHeld s)
  ended : ∀ {c : Cab} {d : Direction} {s : State}, s.auth = .lost c d → P s → P (s.enterVacant.removeSource .authLost)
  lost : ∀ {c : Cab} {d : Direction} {s : State}, s.auth = .held c d → P s → P ((leftLost c d s).addSource .authLost)
  held : ∀ {x : Cab} {n : Nat} {c : Claimant} {s : State}, s.auth = .claiming x n (some c) → P s →
    P ((heldSeeded x c s).removeSource .startup)
  redirected : ∀ {x : Cab} {d : Direction} {s t : State} (d' : Direction), s.auth = .held x d → t.auth = .held x d' →
    Only [.auth, .wheel, .junct] s t → P s → P t
  written : ∀ {x : Cab} {d : Direction} {s : State} (f : DemandFrame), s.auth = .held x d → P s → P (frameWritten f s)
  attended : ∀ {x : Cab} {d : Direction} {s : State} (f : Attention), s.auth = .held x d → leverIn f.lever → P s →
    P (s.vigilFrame f)
  claimed : ∀ {x : Cab} {n : Nat} {c : Option Claimant} {s : State} (d : Direction) (f : DemandFrame),
    s.auth = .claiming x n c → P s → P { s with auth := .claiming x n (some (claimantOf d f s)) }
  stands : ∀ {s : State}, P s → P s.vigilStands
  moves : ∀ {s : State}, P s → P s.vigilMoves

section
variable {P : State → Prop} (hP : CoreKept P) {s : State}
include hP

theorem CoreKept.none {t : State} (h : Only [] s t) (hs : P s) : P t := hP.outside (h.mono (List.nil_subset _)) hs

theorem CoreKept.removedIf (b : Bool) {k : EmSource} (hk : EmSource.ordinary k) (hs : P s) : P (s.removeSourceIf b k) := by
  unfold State.removeSourceIf
  split
  · exact hP.removed hk hs
  · exact hs

theorem CoreKept.addedIf (b : Bool) {k : EmSource} (hk : EmSource.ordinary k) (hs : P s) : P (s.addSourceIf b k) := by
  unfold State.addSourceIf
  split
  · exact hP.added hk hs
  · exact hs

theorem CoreKept.testStandstill (hs : P s) : P s.testStandstill :=
  hP.removedIf _ ordinary_loopDropped (hP.removedIf _ ordinary_brakeLink (hP.removedIf _ (ordinary_emstop .B)
    (hP.removedIf _ (ordinary_emstop .A) (hP.removedIf _ ordinary_lever hs))))

theorem CoreKept.endLost (hs : P s) : P s.endLost := by
  unfold State.endLost
  split
  next hauth => exact hP.ended hauth hs
  · exact hs

theorem CoreKept.comesToRest (hs : P s) : P s.comesToRest := by
  have hhandle : P s.handleAtRest := hP.none (shaper_only s rfl rfl rfl rfl) hs
  exact hP.endLost (hP.outside ((testSectionEnd_only _).mono (by decide)) (hP.stands (hP.testStandstill hhandle)))

theorem CoreKept.beginsToMove (hs : P s) : P s.beginsToMove :=
  hP.moves (hP.none (doorMoving_only _) (hP.addedIf _ ordinary_brakeLink hs))

theorem CoreKept.windowSettled (hs : P s) : P (windowSettled s) := by
  have hpublished : P (s.reach (s.wheel.windowAt + 250)).publishWindow :=
    hP.outside ((publishWindow_only _).mono (by decide)) (hP.none (reach_only _ s) hs)
  unfold Proofs.windowSettled
  dsimp only
  split
  · exact hP.comesToRest hpublished
  split
  · exact hP.beginsToMove hpublished
  · exact hpublished

theorem CoreKept.enterHeld {x : Cab} {n : Nat} {c : Claimant} (hauth : s.auth = .claiming x n (some c)) (hs : P s) :
    P (s.enterHeld x c) := by
  have htested : P ((heldSeeded x c s).removeSource .startup).testLoopDropped :=
    hP.removedIf _ ordinary_loopDropped (hP.held hauth hs)
  rw [enterHeld_heldSeeded]
  refine hP.outside ?_ htested
  exact (((cancelStop_only _).mono (by decide)).trans ((cancelAll_only _).mono (by decide))).trans
    ((refreshHornBell_only _).mono (List.nil_subset _))

theorem CoreKept.enterLost {c : Cab} {d : Direction} (hauth : s.auth = .held c d) (hs : P s) : P (s.enterLost c d) := by
  rw [enterLost_leftLost]
  exact hP.outside (((cancelAll_only _).mono (by decide)).trans ((refreshHornBell_only _).mono (List.nil_subset _)))
    (hP.lost hauth hs)

theorem CoreKept.enterVacant {c : Cab} {d : Direction} (hauth : s.auth = .held c d) (hs : P s) : P s.enterVacant :=
  hP.removedIf _ ordinary_lever (hP.left hauth hs)

/-- Such a predicate is kept by the transitions that the commands bring about. -/
theorem CoreKept.transitions : TransitionsKept P where
  quiet h hs := hP.outside (h.mono (by decide)) hs
  added := hP.added
  removed := hP.removed
  lapsed hauth hs := hP.lapsed (by rw [hauth]; rfl) hs
  vacated hauth hs := hP.enterVacant hauth hs
  lost hauth hs := hP.enterLost hauth hs
  held hauth hs := hP.enterHeld hauth hs
  turned d' hauth hs := hP.redirected d' hauth (by simp [State.turn]) (turn_only _ d' _) hs
  written := hP.written
  attended := hP.attended
  claimed := hP.claimed
  window hs := hP.windowSettled hs

end

end Sys2Proof.Proofs
end

section
/-! SUPPORT. The emergency source set with O and the hazard request under every command (O55). -/

namespace Sys2Proof.Proofs

open Sys2Proof Sys2Proof.Machine

theorem emergencyInv_iff (s : State) :
    EmergencyInv s ↔ (s.shaper.sources ≠ 0 → s.shaper.o = -1000) ∧ (s.outbank.linkUp = false → s.shaper.sources ≠ 0) ∧
      (s.held = false → (hazardPlaced s.sound = true ↔ s.shaper.sources ≠ 0)) := by
  simp only [EmergencyInv, hazardPlaced, decide_eq_true_eq]

theorem emergencyInv_of_only {s t : State} {w : List Aspect} (h : Only w s t)
    (hw : ∀ a ∈ [Aspect.sources, .output, .linkUp, .held, .hazard], a ∉ w) (hs : EmergencyInv s) : EmergencyInv t := by
  have hsources := h .sources (hw _ (by simp))
  have houtput := h .output (hw _ (by simp))
  have hlink := h .linkUp (hw _ (by simp))
  have hheld := h .held (hw _ (by simp))
  have hhazard := h .hazard (hw _ (by simp))
  simp only [Aspect.kept, Prod.mk.injEq] at hsources houtput hlink hheld hhazard
  rw [emergencyInv_iff] at hs ⊢
  rwa [hsources, houtput.1, hlink, hheld, hhazard]

/-- An addition to an empty set sets O and places the hazard request (R58). -/
theorem emergencyInv_addSource {s : State} (k : EmSource) (hs : EmergencyInv s) : EmergencyInv (s.addSource k) := by
  rw [emergencyInv_iff] at hs ⊢
  obtain ⟨ho, hlink, hhazard⟩ := hs
  have hadded := State.addSource_sources_ne s k
  by_cases hcalm : s.shaper.sources = 0
  · rw [State.addSource_calm k hcalm] at hadded ⊢
    exact ⟨fun _ => rfl, fun _ => hadded, fun _ => iff_of_true (hazardPlaced_place s.sound s.now) hadded⟩
  · rw [State.addSource_active k hcalm] at hadded ⊢
    exact ⟨fun _ => ho hcalm, fun _ => hadded, fun hheld => iff_of_true ((hhazard hheld).mpr hcalm) hadded⟩

/-- A removal withdraws the hazard request exactly when it empties the set, which it does not while the link is lost (R59, R66). -/
theorem emergencyInv_removeSource {s : State} (k : EmSource) (hs : EmergencyInv s) : EmergencyInv (s.removeSource k) := by
  by_cases hhas : s.shaper.has k = true
  · have hsome : s.shaper.sources ≠ 0 := fun hnone => by
      have hnot : s.shaper.has k = false := by rw [ShaperRec.has, hnone]; exact hasFlag_zero _
      rw [hnot] at hhas
      exact Bool.noConfusion hhas
    have hzero := removeSource_sources_eq_zero_iff hhas
    rw [emergencyInv_iff] at hs ⊢
    obtain ⟨ho, hlink, hhazard⟩ := hs
    by_cases hcalms : s.calms k = true
    · have hup := ((calms_iff_of_has hhas).mp hcalms).2
      rw [State.removeSource_calms hcalms]
      refine ⟨fun h => absurd rfl h, fun hdown => ?_, fun _ => iff_of_false ?_ fun h => absurd rfl h⟩
      · have hdown : s.outbank.linkUp = false := hdown
        rw [hup] at hdown
        exact Bool.noConfusion hdown
      · exact Bool.eq_false_iff.mp (hazardPlaced_withdraw s.sound s.now)
    · have hleft : (s.removeSource k).shaper.sources ≠ 0 := fun h => hcalms (hzero.mp h)
      rw [State.removeSource_keeps (Bool.eq_false_iff.mpr hcalms)] at hleft ⊢
      exact ⟨fun _ => ho hsome, fun _ => hleft, fun hheld => iff_of_true ((hhazard hheld).mpr hsome) hleft⟩
  · rwa [State.removeSource_absent (Bool.eq_false_iff.mpr hhas)]

theorem emergencyInv_core : CoreKept EmergencyInv where
  outside h hs := emergencyInv_of_only h (by decide) hs
  added _ hs := emergencyInv_addSource _ hs
  removed _ hs := emergencyInv_removeSource _ hs
  lapsed _ hs := emergencyInv_of_only (endClaim_only _ _) (by decide) hs
  left _ hs := emergencyInv_of_only (leftHeld_only _) (by decide) hs
  ended {_ _ s} _ hs := by
    refine emergencyInv_removeSource .authLost ?_
    rw [enterVacant_leftHeld]
    have hleft : EmergencyInv (leftHeld s) := emergencyInv_of_only (leftHeld_only s) (by decide) hs
    unfold State.removeSourceIf
    split
    · exact emergencyInv_removeSource .lever hleft
    · exact hleft
  lost _ hs := emergencyInv_addSource .authLost (emergencyInv_of_only (leftLost_only _ _ _) (by decide) hs)
  held _ hs := emergencyInv_removeSource .startup (emergencyInv_of_only (heldSeeded_only _ _ _) (by decide) hs)
  redirected _ _ _ h hs := emergencyInv_of_only h (by decide) hs
  written _ _ hs := hs
  attended f _ _ hs := emergencyInv_of_only (vigilFrame_only f _) (by decide) hs
  claimed _ _ _ hs := hs
  stands hs := emergencyInv_of_only (vigilStands_only _) (by decide) hs
  moves hs := emergencyInv_of_only (vigilMoves_only _) (by decide) hs

end Sys2Proof.Proofs
end

section
/-! SUPPORT. The emergency source set, O and the demand record under every command (O55, O56). -/

namespace Sys2Proof.Proofs

open Sys2Proof Sys2Proof.Machine

/-! ### Resets and the period -/

/-- The sources that a reset's end leaves (R57). -/
theorem endReset_sources (sel : SelLow) (s : State) : (s.endReset sel).shaper.sources = startSources s.lines :=
  (startSources_eq s.lines s.now).symm

theorem startSources_ne_zero (l : Lines) : startSources l ≠ 0 := by
  unfold startSources
  cases l.emstopA <;> cases l.emstopB <;> decide

theorem startSources_only (l : Lines) :
    hasFlag (startSources l) EmSource.authLost.idx = false ∧ hasFlag (startSources l) EmSource.penalty.idx = false := by
  unfold startSources
  cases l.emstopA <;> cases l.emstopB <;> decide

theorem computePeriod_source {s : State} (h : s.shaper.sources ≠ 0) : s.computePeriod.o = -1000 := by
  rw [computePeriod_o (p := s.permission) rfl, if_pos h]

/-! ### The emergency source set -/

section
variable {s : State} (hs : EmergencyInv s)
include hs

theorem emergencyInv_enterPenalty : EmergencyInv s.enterPenalty := by
  refine emergencyInv_of_only (raise_only .vigilPenalty _) (by decide) (emergencyInv_addSource .penalty ?_)
  exact emergencyInv_of_only ((vigil_only s _).trans (refreshBuzzer_only _)) (by decide) hs

theorem emergencyInv_warnExpiry : EmergencyInv s.warnExpiry := by
  unfold State.warnExpiry
  split
  · exact emergencyInv_enterPenalty (emergencyInv_of_only (reach_only _ s) (by decide) hs)
  · exact hs

theorem emergencyInv_graceExpiry : EmergencyInv s.graceExpiry := by
  unfold State.graceExpiry
  split
  · split
    · exact emergencyInv_enterPenalty (emergencyInv_of_only (reach_only _ s) (by decide) hs)
    · exact hs
  · exact hs

theorem emergencyInv_vigilResetRule : EmergencyInv s.vigilResetRule.1 := by
  unfold State.vigilResetRule
  split
  · exact hs
  split
  · exact hs
  split
  · exact emergencyInv_removeSource .penalty (emergencyInv_of_only (vigil_only s _) (by decide) hs)
  · exact hs

/-- A period under a source puts O at -1000 (R48). -/
theorem emergencyInv_shaperPeriod : EmergencyInv s.shaperPeriod := by
  have hreach : EmergencyInv (s.reach (s.shaper.periodAt + 10)) := emergencyInv_of_only (reach_only _ s) (by decide) hs
  refine emergencyInv_of_only (departure_only _) (by decide) ?_
  generalize s.reach (s.shaper.periodAt + 10) = u at hreach
  obtain ⟨-, hlink, hhazard⟩ := hreach
  exact ⟨fun hsource => computePeriod_source hsource, hlink, hhazard⟩

theorem emergencyInv_afterGood (f : StatusFrame) : EmergencyInv (statusUsed (s.goodSlot f)) := by
  obtain ⟨ho, hlink, hhazard⟩ := hs
  have htaken : EmergencyInv (frameTaken f s) := ⟨ho, fun hdown => hlink (Bool.or_eq_false_iff.mp hdown).1, hhazard⟩
  have hadded : EmergencyInv ((frameTaken f s).addSourceIf (decide (loopRun s f = 3)) .loopDropped) :=
    emergencyInv_core.addedIf _ ordinary_loopDropped htaken
  have hused (u : State) (hu : EmergencyInv u) : EmergencyInv (statusUsed u) := hu
  refine hused _ ?_
  rw [goodSlot_eq, ← removeSourceIf_eq_shed]
  exact emergencyInv_core.removedIf _ ordinary_loopDropped hadded

/-- A link that is lost leaves LOOP_DROPPED in the set (R66). -/
theorem emergencyInv_badSlot : EmergencyInv (statusUsed s.badSlot) := by
  have hlinkUp : (statusUsed s.badSlot).outbank.linkUp = (s.outbank.linkUp && !goesDown s) := by rw [badSlot_frame]; rfl
  have hadded : EmergencyInv (s.addSourceIf (goesDown s) .loopDropped) := emergencyInv_core.addedIf _ ordinary_loopDropped hs
  obtain ⟨ho, hlink, hhazard⟩ := hadded
  have hshaper : (statusUsed s.badSlot).shaper = (s.addSourceIf (goesDown s) .loopDropped).shaper := by rw [badSlot_frame]
  have hsound : (statusUsed s.badSlot).sound = (s.addSourceIf (goesDown s) .loopDropped).sound := by rw [badSlot_frame]
  have hheld : (statusUsed s.badSlot).held = (s.addSourceIf (goesDown s) .loopDropped).held := by
    rw [badSlot_frame]
    exact (addSourceIf_only (goesDown s) .loopDropped s .held (by decide)).symm
  refine ⟨hshaper ▸ ho, fun hdown => ?_, ?_⟩
  · rw [hshaper]
    rw [hlinkUp] at hdown
    cases hfalls : goesDown s with
    | true => exact State.addSource_sources_ne s .loopDropped
    | false =>
      rw [hfalls, Bool.not_false, Bool.and_true] at hdown
      exact hs.2.1 hdown
  · rw [hshaper, hsound, hheld]
    exact hhazard

theorem emergencyInv_slotClose (x : StatusArrival) : EmergencyInv (s.slotClose x) := by
  by_cases hgood : ∃ f, arrives s x = some f ∧ slotGood s f
  · obtain ⟨f, ha, hg⟩ := hgood
    rw [slotClose_good ha hg]
    exact emergencyInv_afterGood hs f
  · rw [slotClose_bad fun f ha hg => hgood ⟨f, ha, hg⟩]
    exact emergencyInv_badSlot hs

end

theorem emergencyInv_resetKept : ResetKept EmergencyInv where
  record _ _ _ _ hs := hs
  ended sel s := by
    have hsources : (s.endReset sel).shaper.sources ≠ 0 := by
      rw [endReset_sources]
      exact startSources_ne_zero s.lines
    exact ⟨fun _ => rfl, fun _ => hsources, fun _ => iff_of_true (SoundRec.silent.place_req s.now .hazard) hsources⟩
  low _ := ⟨fun _ => rfl, fun _ => show 0x40#8 ≠ 0 by decide, nofun⟩

/-- Every command leaves O, the link and the hazard request in agreement with the source set. -/
theorem exec_emergencyInv {i : Instr} {s t : State} (hs : EmergencyInv s) (h : exec i s = .next t) : EmergencyInv t := by
  have htransitions := emergencyInv_core.transitions
  have hrule (p : Port) (code : Byte) {rule : State → State × Answer} (hr : EmergencyInv (rule s).1) :
      EmergencyInv (s.command p code rule) := htransitions.command p code hs hr
  have hevent {f : State → State} (hf : EmergencyInv (f s)) : EmergencyInv (s.event f) := htransitions.event hs hf
  cases i with
  | demand p f => cases h; exact hrule p _ (htransitions.demandRule f hs)
  | deskRelease p => cases h; exact htransitions.deskRelease p hs
  | vacate p => cases h; exact hrule p _ (htransitions.vacateRule hs)
  | vigilReset p => cases h; exact hrule p _ (emergencyInv_vigilResetRule hs)
  | keyOff c => cases h; exact htransitions.line hs (htransitions.keyGoesOff (s := s.keyTo c false) c hs)
  | emstopPress c => cases h; exact htransitions.emstopPress c hs
  | emstopRelease c => cases h; exact htransitions.emstopRelease c hs
  | windowEnd => cases h; exact hevent (htransitions.windowEnd hs)
  | stationReplyGood r => cases h; exact hevent (htransitions.stationReply r hs)
  | stationMiss m => cases h; exact hevent (htransitions.stationMiss m.station m.cause hs)
  | warnTimerExpiry => cases h; exact hevent (emergencyInv_warnExpiry hs)
  | graceTimerExpiry => cases h; exact hevent (emergencyInv_graceExpiry hs)
  | shaperPeriod => cases h; exact hevent (emergencyInv_shaperPeriod hs)
  | statusSlotClose x => cases h; exact hevent (emergencyInv_slotClose hs x)
  | coreSupplySample low sel => cases h; exact emergencyInv_resetKept.coreSample low sel hs
  | supplyLowReset => cases h; exact emergencyInv_resetKept.enterSupplyLow hs
  | powerOnReset lines sel => cases h; exact emergencyInv_resetKept.powerOn lines sel
  | resetnRise sel => cases h; exact emergencyInv_resetKept.resetRise sel hs
  | _ => exact emergencyInv_of_only (exec_only h) (by simp [writes]) hs

end Sys2Proof.Proofs
end

section
/-! SUPPORT. The levers and the fields of SHAPER's output under every command (O56). -/

namespace Sys2Proof.Proofs

open Sys2Proof Sys2Proof.Machine

/-- SHAPER's output fields in their ranges. -/
def outputIn (sh : ShaperRec) : Prop :=
  (-1000 ≤ sh.o ∧ sh.o ≤ 1000) ∧ (-1000 ≤ sh.oPrev ∧ sh.oPrev ≤ 1000) ∧ (-1000 ≤ sh.t ∧ sh.t ≤ 1000) ∧
    (50 ≤ sh.vLim ∧ sh.vLim ≤ 800) ∧ sh.c ≤ 1000 ∧ (0 < sh.o → sh.o ≤ sh.c)

theorem fullBrake_in : (-1000 : Int) ≤ -1000 ∧ (-1000 : Int) ≤ 1000 := by decide

theorem outputIn_reset : outputIn (.reset 0) := by
  unfold outputIn
  decide

theorem outputInv_iff (s : State) :
    OutputInv s ↔ (∀ d ∈ s.shaper.demand, leverIn d.lever) ∧ (∀ c ∈ s.auth.claimant, leverIn c.lever) ∧ outputIn s.shaper := Iff.rfl

theorem outputIn_of_only {s t : State} {w : List Aspect} (h : Only w s t) (hw : .output ∉ w) (hs : outputIn s.shaper) :
    outputIn t.shaper := by
  have houtput := h .output hw
  simp only [Aspect.kept, Prod.mk.injEq] at houtput
  obtain ⟨ho, hprev, ht, hv, hc⟩ := houtput
  simpa only [outputIn, ho, hprev, ht, hv, hc] using hs

/-- A state of the same demand and authority whose output lies in range. -/
theorem outputInv_of {s t : State} {w : List Aspect} (h : Only w s t) (hd : .demand ∉ w) (ha : .auth ∉ w) (hs : OutputInv s)
    (ho : outputIn t.shaper) : OutputInv t := by
  obtain ⟨hdemand, hclaim, -⟩ := hs
  refine (outputInv_iff t).mpr ⟨?_, ?_, ho⟩
  · rwa [show t.shaper.demand = s.shaper.demand from h .demand hd]
  · rwa [show t.auth = s.auth from h .auth ha]

theorem outputInv_of_only {s t : State} {w : List Aspect} (h : Only w s t)
    (hw : ∀ a ∈ [Aspect.demand, .auth, .output], a ∉ w) (hs : OutputInv s) : OutputInv t :=
  outputInv_of h (hw _ (by simp)) (hw _ (by simp)) hs (outputIn_of_only h (hw _ (by simp)) ((outputInv_iff s).mp hs).2.2)

section
variable {s : State} (hs : OutputInv s)
include hs

theorem outputInv_addSource (k : EmSource) : OutputInv (s.addSource k) := by
  refine outputInv_of (addSource_only k s) (by decide) (by decide) hs ?_
  obtain ⟨ho, hprev, ht, hv, hc, hpos⟩ := ((outputInv_iff s).mp hs).2.2
  by_cases hcalm : s.shaper.sources = 0
  · rw [State.addSource_calm k hcalm]
    exact ⟨fullBrake_in, fullBrake_in, ht, hv, hc, nofun⟩
  · rw [State.addSource_active k hcalm]
    exact ⟨ho, hprev, ht, hv, hc, hpos⟩

theorem outputInv_removeSource (k : EmSource) : OutputInv (s.removeSource k) := by
  refine outputInv_of (removeSource_only k s) (by decide) (by decide) hs ?_
  obtain ⟨ho, hprev, ht, hv, hc, hpos⟩ := ((outputInv_iff s).mp hs).2.2
  cases hcalms : s.calms k with
  | true =>
    rw [State.removeSource_calms hcalms]
    exact ⟨ho, fullBrake_in, ht, hv, hc, hpos⟩
  | false =>
    rw [State.removeSource_keeps hcalms]
    exact ⟨ho, hprev, ht, hv, hc, hpos⟩

theorem outputInv_removeSourceIf (b : Bool) (k : EmSource) : OutputInv (s.removeSourceIf b k) := by
  unfold State.removeSourceIf
  split
  · exact outputInv_removeSource hs k
  · exact hs

/-- Another demand record and another authority, with levers in range. -/
theorem outputInv_entered {t : State} {w : List Aspect} (h : Only w s t) (hw : .output ∉ w)
    (hdemand : ∀ d ∈ t.shaper.demand, leverIn d.lever) (hclaim : t.auth.claimant = none) : OutputInv t :=
  ⟨hdemand, by rw [hclaim]; nofun, outputIn_of_only h hw ((outputInv_iff s).mp hs).2.2⟩

theorem outputInv_leftLost (c : Cab) (d : Direction) : OutputInv (leftLost c d s) :=
  outputInv_entered hs (leftLost_only c d s) (by decide) nofun rfl

theorem outputInv_leftHeld : OutputInv (leftHeld s) := outputInv_entered hs (leftHeld_only s) (by decide) nofun rfl

theorem outputInv_enterPenalty : OutputInv s.enterPenalty := by
  refine outputInv_of_only (raise_only .vigilPenalty _) (by decide) (outputInv_addSource ?_ .penalty)
  exact outputInv_of_only ((vigil_only s _).trans (refreshBuzzer_only _)) (by decide) hs

theorem outputInv_warnExpiry : OutputInv s.warnExpiry := by
  unfold State.warnExpiry
  split
  · exact outputInv_enterPenalty (s := s.reach _) hs
  · exact hs

theorem outputInv_graceExpiry : OutputInv s.graceExpiry := by
  unfold State.graceExpiry
  split
  · split
    · exact outputInv_enterPenalty (s := s.reach _) hs
    · exact hs
  · exact hs

theorem outputInv_vigilResetRule : OutputInv s.vigilResetRule.1 := by
  unfold State.vigilResetRule
  split
  · exact hs
  split
  · exact hs
  split
  · exact outputInv_removeSource (outputInv_of_only (vigil_only s _) (by decide) hs) .penalty
  · exact hs

theorem outputInv_claimOn (p : Port) : OutputInv (s.claimOn p).1 := by
  unfold State.claimOn
  split
  · unfold State.claimRule
    split
    · split
      · obtain ⟨hdemand, -, hout⟩ := hs
        exact ⟨hdemand, nofun, hout⟩
      · exact hs
    all_goals exact hs
  · exact hs

/-- The limits, target and output of a period lie in their ranges (R43 to R50). -/
theorem outputInv_shaperPeriod (hsettings : SettingsInv s) : OutputInv s.shaperPeriod := by
  refine outputInv_of_only (departure_only _) (by decide) ?_
  have hreach : OutputInv (s.reach (s.shaper.periodAt + 10)) := hs
  have hline : 50 ≤ (s.reach (s.shaper.periodAt + 10)).settings.lineLimit := by
    obtain ⟨-, -, -, -, -, hline, -⟩ := hsettings
    exact hline.1
  generalize s.reach (s.shaper.periodAt + 10) = u at hreach hline
  obtain ⟨hdemand, hclaim, -, hprev, -⟩ := hreach
  have hlimit : 50 ≤ u.computePeriod.vLim ∧ u.computePeriod.vLim ≤ 800 := by
    change 50 ≤ u.speedLimit ∧ u.speedLimit ≤ 800
    unfold State.speedLimit
    dsimp only
    split <;> split <;> split <;> omega
  have hceiling : u.computePeriod.c ≤ 1000 := by
    change u.ceiling (envelope u.wheel.v u.speedLimit) ≤ 1000
    rw [ceiling_eq u (envelope_le _ _)]
    have := envelope_le u.wheel.v u.speedLimit
    split
    · omega
    · split <;> omega
  have ho := computePeriod_o_range hdemand hprev
  exact ⟨hdemand, hclaim, ho, ho, computePeriod_t_range hdemand, hlimit, hceiling, fun hpos => (computePeriod_traction hpos).2⟩

theorem outputInv_slotClose (x : StatusArrival) : OutputInv (s.slotClose x) := by
  have haddedIf (u : State) (b : Bool) (hu : OutputInv u) : OutputInv (u.addSourceIf b .loopDropped) := by
    unfold State.addSourceIf
    split
    · exact outputInv_addSource hu .loopDropped
    · exact hu
  have hused (u : State) (hu : OutputInv u) : OutputInv (statusUsed u) := hu
  by_cases hgood : ∃ f, arrives s x = some f ∧ slotGood s f
  · obtain ⟨f, ha, hg⟩ := hgood
    have htaken : OutputInv (frameTaken f s) := hs
    rw [slotClose_good ha hg, goodSlot_eq, ← removeSourceIf_eq_shed]
    exact hused _ (outputInv_removeSourceIf (haddedIf _ _ htaken) _ _)
  · have hmissed : OutputInv (slotMissed s) := hs
    rw [slotClose_bad fun f ha hg => hgood ⟨f, ha, hg⟩, badSlot_eq]
    exact hused _ (haddedIf _ _ hmissed)

end

section
variable {s : State} (hs : OutputInv s)
include hs

/-- The demand record takes the claimant's lever (R10). -/
theorem outputInv_heldSeeded {x : Cab} {n : Nat} {c : Claimant} (hauth : s.auth = .claiming x n (some c)) :
    OutputInv (heldSeeded x c s) := by
  have hlever : leverIn c.lever := ((outputInv_iff s).mp hs).2.1 c (by rw [hauth]; rfl)
  refine outputInv_entered hs (heldSeeded_only x c s) (by decide) (fun d hd => ?_) rfl
  cases hd
  exact hlever

theorem outputInv_redirected {t : State} {x : Cab} {d : Direction} (ht : t.auth = .held x d) (h : Only [.auth, .wheel, .junct] s t) :
    OutputInv t := by
  refine outputInv_entered hs h (by decide) ?_ (by rw [ht]; rfl)
  rw [show t.shaper.demand = s.shaper.demand from h .demand (by decide)]
  exact hs.1

theorem outputInv_frameWritten (f : DemandFrame) : OutputInv (frameWritten f s) := by
  refine ⟨fun d hd => ?_, hs.2⟩
  cases hd
  exact leverIn_clampLever f.lever

theorem outputInv_claimed (x : Cab) (n : Nat) (d : Direction) (f : DemandFrame) :
    OutputInv { s with auth := .claiming x n (some (claimantOf d f s)) } := by
  refine ⟨hs.1, fun c hc => ?_, hs.2.2⟩
  cases hc
  exact leverIn_clampLever f.lever

theorem outputInv_endClaim (c : Cab) : OutputInv (s.endClaim c) :=
  outputInv_entered hs (endClaim_only c s) (by decide) hs.1 rfl

end

theorem outputInv_core : CoreKept OutputInv where
  outside h hs := outputInv_of_only h (by decide) hs
  added _ hs := outputInv_addSource hs _
  removed _ hs := outputInv_removeSource hs _
  lapsed _ hs := outputInv_endClaim hs _
  left _ hs := outputInv_leftHeld hs
  ended _ hs := outputInv_removeSource (outputInv_removeSourceIf (outputInv_leftHeld hs) _ .lever) .authLost
  lost _ hs := outputInv_addSource (outputInv_leftLost hs _ _) .authLost
  held hauth hs := outputInv_removeSource (outputInv_heldSeeded hs hauth) .startup
  redirected _ _ ht h hs := outputInv_redirected hs ht h
  written f _ hs := outputInv_frameWritten hs f
  attended f _ _ hs := outputInv_of_only (vigilFrame_only f _) (by decide) hs
  claimed d f _ hs := outputInv_claimed hs _ _ d f
  stands hs := outputInv_of_only (vigilStands_only _) (by decide) hs
  moves hs := outputInv_of_only (vigilMoves_only _) (by decide) hs

/-- The output fields as a reset leaves them (R40, log 6, 7). -/
theorem outputInv_of_reset {s : State} {now : Nat} {x : BitVec 8} (hauth : s.auth = .vacant)
    (h : s.shaper = { ShaperRec.reset now with sources := x }) : OutputInv s := by
  rw [outputInv_iff, hauth, h]
  exact ⟨nofun, nofun, outputIn_reset⟩

theorem outputInv_resetKept : ResetKept OutputInv where
  record _ _ _ _ hs := hs
  ended _ s := outputInv_of_reset (now := s.now) rfl rfl
  low s := outputInv_of_reset (now := s.now) (x := 0x40) rfl rfl

/-- Every command leaves levers and output in their ranges. -/
theorem exec_outputInv {i : Instr} {s t : State} (hs : OutputInv s) (hsettings : SettingsInv s) (h : exec i s = .next t) :
    OutputInv t := by
  have htransitions := outputInv_core.transitions
  have hrule (p : Port) (code : Byte) {rule : State → State × Answer} (hr : OutputInv (rule s).1) :
      OutputInv (s.command p code rule) := htransitions.command p code hs hr
  have hevent {f : State → State} (hf : OutputInv (f s)) : OutputInv (s.event f) := htransitions.event hs hf
  cases i with
  | demand p f => cases h; exact hrule p _ (htransitions.demandRule f hs)
  | deskClaim p => cases h; exact hrule p _ (outputInv_claimOn hs p)
  | deskRelease p => cases h; exact htransitions.deskRelease p hs
  | vacate p => cases h; exact hrule p _ (htransitions.vacateRule hs)
  | vigilReset p => cases h; exact hrule p _ (outputInv_vigilResetRule hs)
  | keyOff c => cases h; exact htransitions.line hs (htransitions.keyGoesOff (s := s.keyTo c false) c hs)
  | emstopPress c => cases h; exact htransitions.emstopPress c hs
  | emstopRelease c => cases h; exact htransitions.emstopRelease c hs
  | windowEnd => cases h; exact hevent (htransitions.windowEnd hs)
  | stationReplyGood r => cases h; exact hevent (htransitions.stationReply r hs)
  | stationMiss m => cases h; exact hevent (htransitions.stationMiss m.station m.cause hs)
  | claimWindowExpiry => cases h; exact hevent (htransitions.claimExpiry hs)
  | warnTimerExpiry => cases h; exact hevent (outputInv_warnExpiry hs)
  | graceTimerExpiry => cases h; exact hevent (outputInv_graceExpiry hs)
  | shaperPeriod => cases h; exact hevent (outputInv_shaperPeriod hs hsettings)
  | statusSlotClose x => cases h; exact hevent (outputInv_slotClose hs x)
  | coreSupplySample low sel => cases h; exact outputInv_resetKept.coreSample low sel hs
  | supplyLowReset => cases h; exact outputInv_resetKept.enterSupplyLow hs
  | powerOnReset lines sel => cases h; exact outputInv_resetKept.powerOn lines sel
  | resetnRise sel => cases h; exact outputInv_resetKept.resetRise sel hs
  | _ => exact outputInv_of_only (exec_only h) (by simp [writes]) hs

/-- Settles O56: WHEEL by its pulses and the stages of a window end, the output by the stages of a period. -/
theorem stepKeepsWheelAndOutput : Obligations.StepKeepsWheelAndOutput := by
  unfold Obligations.StepKeepsWheelAndOutput
  intro s t hs h
  obtain ht | ⟨i, u, hu, hexec⟩ := step_cases hs h
  · obtain ⟨-, -, hout, hwheel, -⟩ := ht
    exact ⟨hout, hwheel⟩
  · obtain ⟨-, -, hout, hwheel, -, -, -, -, -, -, hsettings, -⟩ := hu
    exact ⟨exec_outputInv hout hsettings hexec, exec_wheelInv hwheel hexec⟩

end Sys2Proof.Proofs
end

section
/-! SUPPORT. The demand record, the sources and the vigilance state follow the authority record under every command (O55). -/

namespace Sys2Proof.Proofs

open Sys2Proof Sys2Proof.Machine

theorem authInv_of_only {s t : State} {w : List Aspect} (h : Only w s t)
    (hw : ∀ a ∈ [Aspect.sources, .demand, .auth, .vigil], a ∉ w) (hs : AuthInv s) : AuthInv t := by
  have hsources : t.shaper.sources = s.shaper.sources := h .sources (hw _ (by simp))
  have hdemand : t.shaper.demand = s.shaper.demand := h .demand (hw _ (by simp))
  have hauth : t.auth = s.auth := h .auth (hw _ (by simp))
  have hvigil : t.vigil = s.vigil := h .vigil (hw _ (by simp))
  simpa only [AuthInv, ShaperRec.has, hsources, hdemand, hauth, hvigil] using hs

/-- The sources are as they were. -/
theorem has_of_only {s t : State} {w : List Aspect} (h : Only w s t) (hw : .sources ∉ w) (k : EmSource) :
    t.shaper.has k = s.shaper.has k := by
  rw [ShaperRec.has, show t.shaper.sources = s.shaper.sources from h .sources hw]
  rfl

/-- A removal takes its source alone, but that LOOP_DROPPED may stand in place of an emptied set (R66). -/
theorem removeSource_has (s : State) (k j : EmSource) (hj : j ≠ .loopDropped) :
    (s.removeSource k).shaper.has j = (s.shaper.has j && decide (k ≠ j)) := by
  have hidx : decide (k.idx ≠ j.idx) = decide (k ≠ j) := decide_eq_decide.mpr (not_congr ⟨EmSource.idx_inj, fun h => h ▸ rfl⟩)
  have hdrop : hasFlag (dropFlag s.shaper.sources k.idx) j.idx = (s.shaper.has j && decide (k ≠ j)) := by
    rw [← hidx]
    exact hasFlag_dropFlag s.shaper.sources k.idx j.idx
  by_cases hhas : s.shaper.has k = true
  · rw [ShaperRec.has, removeSource_sources_of_has hhas, ← hdrop]
    split
    next hempty =>
      have hloop : EmSource.loopDropped.idx ≠ j.idx := fun e => hj (EmSource.idx_inj e).symm
      rw [hempty.1, hasFlag_addFlag _ EmSource.loopDropped.idx_lt]
      simp [hloop, hasFlag]
    · rfl
  · have hnot : s.shaper.has k = false := Bool.eq_false_iff.mpr hhas
    rw [State.removeSource_absent hnot]
    by_cases hkj : k = j
    · rw [← hkj, hnot, Bool.false_and]
    · rw [decide_eq_true hkj, Bool.and_true]

theorem vigilVacant_penalty (u : State) : u.vigilVacant.vigil.state = .penalty ↔ u.vigil.state = .penalty := by
  change (if u.vigil.state = .penalty then u.vigil else u.vigil.rest).state = .penalty ↔ _
  split
  next hpen => exact iff_of_true hpen hpen
  next hnot => exact iff_of_false nofun hnot

theorem vigil_enterHeld_penalty (v : VigilRec) (lever : Int) (handle : Bool) :
    (v.enterHeld lever handle).state = .penalty ↔ v.state = .penalty := by
  change (if v.state = .penalty then v else v.rest).state = .penalty ↔ _
  split
  next hpen => exact iff_of_true hpen hpen
  next hnot => exact iff_of_false nofun hnot

/-- A frame's attention enters no PENALTY and leaves none (R84). -/
theorem attend_penalty (v : VigilRec) (now : Nat) (f : Attention) : (v.attend now f).state = .penalty ↔ v.state = .penalty := by
  unfold VigilRec.attend
  split
  next hw =>
    have hnot : v.state ≠ .penalty := fun e => by rw [e] at hw; exact nomatch hw
    refine iff_of_false ?_ hnot
    dsimp only
    split
    · exact nofun
    · exact hnot
  · exact Iff.rfl

section
variable {s : State} (hs : AuthInv s)
include hs

/-- A source of no transition comes or goes: authority and vigilance stay with their own. -/
theorem authInv_addSource {k : EmSource} (hk : EmSource.ordinary k) : AuthInv (s.addSource k) := by
  obtain ⟨hpen, hlost, hstart⟩ := hk
  obtain ⟨h1, h2, h3, h4⟩ := hs
  refine ⟨h1, ?_, ?_, fun hleads => ?_⟩
  · rw [State.addSource_has, decide_eq_false hlost, Bool.or_false]
    exact h2
  · rw [State.addSource_has, decide_eq_false hpen, Bool.or_false]
    exact h3
  · rw [State.addSource_has, decide_eq_false hstart, Bool.or_false]
    exact h4 hleads

theorem authInv_removeSource {k : EmSource} (hk : EmSource.ordinary k) : AuthInv (s.removeSource k) := by
  obtain ⟨hpen, hlost, hstart⟩ := hk
  obtain ⟨h1, h2, h3, h4⟩ := hs
  refine ⟨h1, ?_, ?_, fun hleads => ?_⟩
  · rw [removeSource_has s k .authLost nofun, decide_eq_true hlost, Bool.and_true]
    exact h2
  · rw [removeSource_has s k .penalty nofun, decide_eq_true hpen, Bool.and_true]
    exact h3
  · rw [removeSource_has s k .startup nofun, decide_eq_true hstart, Bool.and_true]
    exact h4 hleads

theorem authInv_removeSourceIf (b : Bool) {k : EmSource} (hk : EmSource.ordinary k) : AuthInv (s.removeSourceIf b k) := by
  unfold State.removeSourceIf
  split
  · exact authInv_removeSource hs hk
  · exact hs

/-- Another vigilance record, in PENALTY or not as it was. -/
theorem authInv_vigil {t : State} {w : List Aspect} (h : Only w s t) (hw : ∀ a ∈ [Aspect.sources, .demand, .auth], a ∉ w)
    (hst : t.vigil.state = .penalty ↔ s.vigil.state = .penalty) : AuthInv t := by
  obtain ⟨h1, h2, h3, h4⟩ := hs
  have hhas := has_of_only h (hw _ (by simp))
  have hdemand : t.shaper.demand = s.shaper.demand := h .demand (hw _ (by simp))
  have hauth : t.auth = s.auth := h .auth (hw _ (by simp))
  refine ⟨by rw [hdemand, hauth]; exact h1, by rw [hhas, hauth]; exact h2, ?_, fun hleads => ?_⟩
  · rw [hhas, h3]
    exact decide_eq_decide.mpr hst.symm
  · rw [hhas]
    exact h4 (hauth ▸ hleads)

/-! ### The transitions -/

/-- The entry to VACANT from HELD, where AUTH_LOST is not in the set (R15). -/
theorem authInv_leftHeld (hlost : s.auth.isLost = false) : AuthInv (leftHeld s) := by
  obtain ⟨-, h2, h3, -⟩ := hs
  have hhas := has_of_only (leftHeld_only s) (by decide)
  refine ⟨rfl, ?_, ?_, nofun⟩
  · rw [hhas, h2, hlost]
    rfl
  · rw [hhas, h3]
    exact decide_eq_decide.mpr (vigilVacant_penalty _).symm

/-- The end of LOST removes AUTH_LOST (R14). -/
theorem authInv_endLost : AuthInv (s.enterVacant.removeSource .authLost) := by
  obtain ⟨-, -, h3, -⟩ := hs
  have hhas (j : EmSource) (hj : j ≠ .lever) (hl : j ≠ .loopDropped) : s.enterVacant.shaper.has j = s.shaper.has j := by
    rw [enterVacant_leftHeld, ← has_of_only (leftHeld_only s) (by decide) j]
    unfold State.removeSourceIf
    split
    · rw [removeSource_has _ _ j hl, decide_eq_true hj.symm, Bool.and_true]
    · rfl
  have hlever := removeSourceIf_only ((leftHeld s).wheel.stationary && (leftHeld s).shaper.leverBack) .lever (leftHeld s)
  have hauth : s.enterVacant.auth = .vacant := hlever .auth (by decide)
  have hdemand : s.enterVacant.shaper.demand = none := hlever .demand (by decide)
  have hvigil : s.enterVacant.vigil = (leftHeld s).vigil := hlever .vigil (by decide)
  have hremoved := removeSource_only .authLost s.enterVacant
  refine ⟨?_, ?_, ?_, fun hleads => ?_⟩
  · rw [hremoved .demand (by decide), hremoved .auth (by decide), hdemand, hauth]
    rfl
  · rw [removeSource_has _ _ .authLost nofun, hremoved .auth (by decide), hauth, decide_eq_false (fun h => h rfl), Bool.and_false]
    rfl
  · rw [removeSource_has _ _ .penalty nofun, hhas .penalty nofun nofun, h3, hremoved .vigil (by decide), hvigil]
    rw [decide_eq_true (show EmSource.authLost ≠ .penalty from nofun), Bool.and_true]
    exact decide_eq_decide.mpr (vigilVacant_penalty _).symm
  · rw [hremoved .auth (by decide), hauth] at hleads
    exact nomatch hleads

theorem authInv_enterLost {c : Cab} {d : Direction} (hauth : s.auth = .held c d) : AuthInv ((leftLost c d s).addSource .authLost) := by
  obtain ⟨-, -, h3, h4⟩ := hs
  have hhas := has_of_only (leftLost_only c d s) (by decide)
  refine ⟨rfl, ?_, ?_, fun _ => ?_⟩
  · rw [State.addSource_has, decide_eq_true rfl, Bool.or_true]
    rfl
  · rw [State.addSource_has, hhas, h3, decide_eq_false (show EmSource.authLost ≠ .penalty from nofun), Bool.or_false]
    rfl
  · rw [State.addSource_has, hhas, h4 (by rw [hauth]; rfl), decide_eq_false (show EmSource.authLost ≠ .startup from nofun)]
    rfl

/-- The entry to HELD removes STARTUP (R10, R65). -/
theorem authInv_enterHeld {x : Cab} {n : Nat} {c : Claimant} (hauth : s.auth = .claiming x n (some c)) :
    AuthInv ((heldSeeded x c s).removeSource .startup) := by
  obtain ⟨-, h2, h3, -⟩ := hs
  have hhas := has_of_only (heldSeeded_only x c s) (by decide)
  refine ⟨rfl, ?_, ?_, fun _ => ?_⟩
  · rw [removeSource_has _ _ .authLost nofun, hhas, h2, hauth]
    rfl
  · rw [removeSource_has _ _ .penalty nofun, hhas, h3, decide_eq_true (show EmSource.startup ≠ .penalty from nofun), Bool.and_true]
    exact decide_eq_decide.mpr (vigil_enterHeld_penalty s.vigil c.lever c.handle).symm
  · rw [removeSource_has _ _ .startup nofun, decide_eq_false (fun h => h rfl), Bool.and_false]

/-- Another authority record, held or claiming as before. -/
theorem authInv_auth {t : State} {w : List Aspect} (h : Only w s t) (hw : ∀ a ∈ [Aspect.sources, .demand, .vigil], a ∉ w)
    (hheld : t.auth.isHeld = s.auth.isHeld) (hlost : t.auth.isLost = s.auth.isLost) : AuthInv t := by
  obtain ⟨h1, h2, h3, h4⟩ := hs
  have hhas := has_of_only h (hw _ (by simp))
  have hdemand : t.shaper.demand = s.shaper.demand := h .demand (hw _ (by simp))
  have hvigil : t.vigil = s.vigil := h .vigil (hw _ (by simp))
  refine ⟨by rw [hdemand, hheld]; exact h1, by rw [hhas, hlost]; exact h2, by rw [hhas, hvigil]; exact h3, fun hleads => ?_⟩
  rw [hhas]
  exact h4 (by rw [Auth.leads, ← hheld, ← hlost]; exact hleads)

theorem authInv_endClaim (c : Cab) (hleads : s.auth.leads = false) : AuthInv (s.endClaim c) := by
  obtain ⟨hheld, hlost⟩ := Bool.or_eq_false_iff.mp hleads
  exact authInv_auth hs (endClaim_only c s) (by decide) hheld.symm hlost.symm

theorem authInv_frameWritten {x : Cab} {d : Direction} (f : DemandFrame) (hauth : s.auth = .held x d) : AuthInv (frameWritten f s) := by
  obtain ⟨-, h2, h3, h4⟩ := hs
  refine ⟨?_, h2, h3, h4⟩
  change true = s.auth.isHeld
  rw [hauth]
  rfl

theorem authInv_vigilFrame (f : Attention) : AuthInv (s.vigilFrame f) :=
  authInv_vigil hs (vigilFrame_only f s) (by decide) (attend_penalty s.vigil s.now f)

theorem authInv_vigilStands : AuthInv s.vigilStands := by
  unfold State.vigilStands
  split
  next hw =>
    refine authInv_vigil hs ((vigil_only s s.vigil.rest).trans (refreshBuzzer_only _)) (by decide) (iff_of_false nofun fun e => ?_)
    rw [e] at hw
    exact nomatch hw
  · exact hs

theorem authInv_vigilMoves : AuthInv s.vigilMoves := by
  unfold State.vigilMoves
  split
  next hw =>
    refine authInv_vigil hs ((vigil_only s _).trans (refreshBuzzer_only _)) (by decide) (iff_of_false nofun fun e => ?_)
    rw [hw.2] at e
    exact nomatch e
  · exact hs

end

theorem authInv_core : CoreKept AuthInv where
  outside h hs := authInv_of_only h (by decide) hs
  added hk hs := authInv_addSource hs hk
  removed hk hs := authInv_removeSource hs hk
  lapsed hleads hs := authInv_endClaim hs _ hleads
  left hauth hs := authInv_leftHeld hs (by rw [hauth]; rfl)
  ended _ hs := authInv_endLost hs
  lost hauth hs := authInv_enterLost hs hauth
  held hauth hs := authInv_enterHeld hs hauth
  redirected _ hs' ht h hs := authInv_auth hs h (by decide) (by rw [ht, hs']; rfl) (by rw [ht, hs']; rfl)
  written f hauth hs := authInv_frameWritten hs f hauth
  attended f _ _ hs := authInv_vigilFrame hs f
  claimed d f hauth hs :=
    authInv_auth (w := [.auth]) hs (fun a ha => by cases a <;> simp at ha <;> rfl) (by decide)
      (by rw [hauth]; rfl) (by rw [hauth]; rfl)
  stands hs := authInv_vigilStands hs
  moves hs := authInv_vigilMoves hs

/-! ### The events of VIGIL, the claims and the slot -/

section
variable {s : State} (hs : AuthInv s)
include hs

/-- PENALTY enters the set with the state (R93). -/
theorem authInv_enterPenalty : AuthInv s.enterPenalty := by
  obtain ⟨h1, h2, -, h4⟩ := hs
  refine ⟨h1, ?_, ?_, fun hleads => ?_⟩
  · exact (State.addSource_has _ .penalty .authLost).trans ((Bool.or_false _).trans h2)
  · exact (State.addSource_has _ .penalty .penalty).trans (Bool.or_true _)
  · exact (State.addSource_has _ .penalty .startup).trans ((Bool.or_false _).trans (h4 hleads))

theorem authInv_warnExpiry : AuthInv s.warnExpiry := by
  unfold State.warnExpiry
  split
  · exact authInv_enterPenalty (s := s.reach _) hs
  · exact hs

theorem authInv_graceExpiry : AuthInv s.graceExpiry := by
  unfold State.graceExpiry
  split
  · split
    · exact authInv_enterPenalty (s := s.reach _) hs
    · exact hs
  · exact hs

theorem authInv_activityExpiry : AuthInv s.activityExpiry := by
  unfold State.activityExpiry
  split
  next hst _ =>
    refine authInv_vigil hs (((reach_only _ s).mono (List.nil_subset _)).trans ((vigil_only _ _).trans (refreshBuzzer_only _))) (by decide)
      (iff_of_false nofun fun e => ?_)
    rw [hst] at e
    exact nomatch e
  · exact hs

/-- PENALTY leaves the set with the state (R94). -/
theorem authInv_vigilResetRule : AuthInv s.vigilResetRule.1 := by
  unfold State.vigilResetRule
  split
  · exact hs
  split
  · exact hs
  split
  · obtain ⟨h1, h2, -, h4⟩ := hs
    refine ⟨h1, ?_, ?_, fun hleads => ?_⟩
    · exact (removeSource_has _ .penalty .authLost nofun).trans ((Bool.and_true _).trans h2)
    · exact (removeSource_has _ .penalty .penalty nofun).trans (Bool.and_false _)
    · exact (removeSource_has _ .penalty .startup nofun).trans ((Bool.and_true _).trans (h4 hleads))
  · exact hs

theorem authInv_claimOn (p : Port) : AuthInv (s.claimOn p).1 := by
  unfold State.claimOn
  split
  · unfold State.claimRule
    split
    next hauth =>
      split
      · obtain ⟨h1, h2, h3, -⟩ := hs
        rw [hauth] at h1 h2
        exact ⟨h1, h2, h3, nofun⟩
      · exact hs
    all_goals exact hs
  · exact hs

theorem authInv_slotClose (x : StatusArrival) : AuthInv (s.slotClose x) := by
  have hused (u : State) (hu : AuthInv u) : AuthInv (statusUsed u) := hu
  by_cases hgood : ∃ f, arrives s x = some f ∧ slotGood s f
  · obtain ⟨f, ha, hg⟩ := hgood
    have htaken : AuthInv (frameTaken f s) := hs
    rw [slotClose_good ha hg, goodSlot_eq, ← removeSourceIf_eq_shed]
    exact hused _ (authInv_removeSourceIf (authInv_core.addedIf _ ordinary_loopDropped htaken) _ ordinary_loopDropped)
  · have hmissed : AuthInv (slotMissed s) := hs
    rw [slotClose_bad fun f ha hg => hgood ⟨f, ha, hg⟩, badSlot_eq]
    exact hused _ (authInv_core.addedIf _ ordinary_loopDropped hmissed)

end

theorem authInv_resetKept : ResetKept AuthInv where
  record _ _ _ _ hs := hs
  ended sel s := by
    have hsources := endReset_sources sel s
    obtain ⟨hlost, hpen⟩ := startSources_only s.lines
    refine ⟨rfl, ?_, ?_, nofun⟩
    · rw [ShaperRec.has, hsources]
      exact hlost
    · rw [ShaperRec.has, hsources]
      exact hpen
  low _ := ⟨rfl, show hasFlag 0x40#8 4 = false by decide, show hasFlag 0x40#8 3 = false by decide, nofun⟩

/-- Every command leaves demand, sources and vigilance in agreement with the authority record. -/
theorem exec_authInv {i : Instr} {s t : State} (hs : AuthInv s) (h : exec i s = .next t) : AuthInv t := by
  have htransitions := authInv_core.transitions
  have hrule (p : Port) (code : Byte) {rule : State → State × Answer} (hr : AuthInv (rule s).1) :
      AuthInv (s.command p code rule) := htransitions.command p code hs hr
  have hevent {f : State → State} (hf : AuthInv (f s)) : AuthInv (s.event f) := htransitions.event hs hf
  cases i with
  | demand p f => cases h; exact hrule p _ (htransitions.demandRule f hs)
  | deskClaim p => cases h; exact hrule p _ (authInv_claimOn hs p)
  | deskRelease p => cases h; exact htransitions.deskRelease p hs
  | vacate p => cases h; exact hrule p _ (htransitions.vacateRule hs)
  | vigilReset p => cases h; exact hrule p _ (authInv_vigilResetRule hs)
  | keyOff c => cases h; exact htransitions.line hs (htransitions.keyGoesOff (s := s.keyTo c false) c hs)
  | emstopPress c => cases h; exact htransitions.emstopPress c hs
  | emstopRelease c => cases h; exact htransitions.emstopRelease c hs
  | windowEnd => cases h; exact hevent (htransitions.windowEnd hs)
  | stationReplyGood r => cases h; exact hevent (htransitions.stationReply r hs)
  | stationMiss m => cases h; exact hevent (htransitions.stationMiss m.station m.cause hs)
  | claimWindowExpiry => cases h; exact hevent (htransitions.claimExpiry hs)
  | vigilActivityTimerExpiry => cases h; exact hevent (authInv_activityExpiry hs)
  | warnTimerExpiry => cases h; exact hevent (authInv_warnExpiry hs)
  | graceTimerExpiry => cases h; exact hevent (authInv_graceExpiry hs)
  | statusSlotClose x => cases h; exact hevent (authInv_slotClose hs x)
  | coreSupplySample low sel => cases h; exact authInv_resetKept.coreSample low sel hs
  | supplyLowReset => cases h; exact authInv_resetKept.enterSupplyLow hs
  | powerOnReset lines sel => cases h; exact authInv_resetKept.powerOn lines sel
  | resetnRise sel => cases h; exact authInv_resetKept.resetRise sel hs
  | _ => exact authInv_of_only (exec_only h) (by simp [writes]) hs

/-- Settles O55: both parts by the single transitions, of which the commands are made. -/
theorem stepKeepsEmergencyAndAuthority : Obligations.StepKeepsEmergencyAndAuthority := by
  unfold Obligations.StepKeepsEmergencyAndAuthority
  intro s t hs h
  obtain ht | ⟨i, u, hu, hexec⟩ := step_cases hs h
  · obtain ⟨hemergency, hauth, -⟩ := ht
    exact ⟨hemergency, hauth⟩
  · obtain ⟨hemergency, hauth, -⟩ := hu
    exact ⟨exec_emergencyInv hemergency hexec, exec_authInv hauth hexec⟩

end Sys2Proof.Proofs
end

section
/-! SUPPORT. The vigilance record keeps its form under every command (O60). -/

namespace Sys2Proof.Proofs

open Sys2Proof Sys2Proof.Machine

/-! ### The form of a vigilance record, its buzzer request aside -/

/-- The times present exactly in their states, a watch only under a leading end, and the reference a lever (R82, R83). -/
def watchIn (leads : Bool) (v : VigilRec) : Prop :=
  v.lastActivity.isSome = v.state.watching ∧ v.warnStart.isSome = decide (v.state = .warn) ∧
    (v.releaseTime.isSome = true → v.state.watching = true) ∧ (v.state.watching = true → leads = true) ∧ leverIn v.leverRef

theorem vigilInv_iff (s : State) :
    VigilInv s ↔ watchIn s.auth.leads s.vigil ∧ s.vigil.buzzer = s.vigil.wantsBuzzer := by
  unfold VigilInv watchIn
  tauto

theorem vigilInv_of_only {s t : State} {w : List Aspect} (h : Only w s t) (hv : .vigil ∉ w)
    (hleads : t.auth.leads = s.auth.leads) (hs : VigilInv s) : VigilInv t := by
  rw [vigilInv_iff] at hs ⊢
  rwa [hleads, show t.vigil = s.vigil from h .vigil hv]

/-- The buzzer request follows the record (R88). -/
theorem vigilInv_refreshBuzzer {s : State} (h : watchIn s.auth.leads s.vigil) : VigilInv s.refreshBuzzer :=
  (vigilInv_iff _).mpr ⟨h, rfl⟩

section
variable {b : Bool} {v : VigilRec}

/-- Outside WATCH and WARN a record in its form has no time, and so stands under any authority. -/
theorem watchIn_of_not_watching (h : watchIn b v) (hw : v.state.watching = false) (b' : Bool) : watchIn b' v := by
  obtain ⟨hlast, hwarn, hrelease, -, hlever⟩ := h
  exact ⟨hlast, hwarn, hrelease, fun hw' => absurd (hw.symm.trans hw') nofun, hlever⟩

theorem watchIn_rest (hlever : leverIn v.leverRef) (b : Bool) : watchIn b v.rest := ⟨rfl, rfl, nofun, nofun, hlever⟩

/-- In PENALTY the record stays; else it comes to rest (R83). -/
theorem watchIn_penaltyOrRest (h : watchIn b v) (b' : Bool) : watchIn b' (if v.state = .penalty then v else v.rest) := by
  split
  next hpen => exact watchIn_of_not_watching h (by rw [hpen]; rfl) b'
  next => exact watchIn_rest h.2.2.2.2 b'

theorem watchIn_enterHeld {lever : Int} (h : watchIn b v) (hlever : leverIn lever) (handle : Bool) :
    watchIn true (v.enterHeld lever handle) := by
  obtain ⟨hlast, hwarn, hrelease, hleads, -⟩ := watchIn_penaltyOrRest h true
  exact ⟨hlast, hwarn, hrelease, hleads, hlever⟩

theorem watchIn_startWatch {now : Nat} {lever : Int} (h : watchIn b v) (hidle : v.state = .idle) (hlever : leverIn lever) :
    watchIn true (v.startWatch now lever) := by
  obtain ⟨-, hwarn, -, -, -⟩ := h
  rw [hidle] at hwarn
  exact ⟨rfl, hwarn, fun _ => rfl, fun _ => rfl, hlever⟩

/-- A holder's frame returns to WATCH with the warn timer cancelled, or leaves state and timers (R84 to R86). -/
theorem watchIn_attend {now : Nat} {f : Attention} (h : watchIn b v) (hf : leverIn f.lever) : watchIn b (v.attend now f) := by
  obtain ⟨hlast, hwarn, hrelease, hleads, hlever⟩ := h
  unfold VigilRec.attend
  split
  next hw =>
    have href : leverIn (if v.leverMoved f.lever then f.lever else v.leverRef) := by
      split
      · exact hf
      · exact hlever
    by_cases hactive : v.active f = true
    · simp only [hactive, if_true]
      exact ⟨rfl, rfl, fun _ => rfl, fun _ => hleads hw, href⟩
    · simp only [hactive, Bool.false_eq_true, if_false]
      exact ⟨hlast, hwarn, fun _ => hw, hleads, href⟩
  · exact ⟨hlast, hwarn, hrelease, hleads, hf⟩

end

/-! ### The single transitions -/

section
variable {s : State} (hs : VigilInv s)
include hs

theorem watchIn_of_inv : watchIn s.auth.leads s.vigil := ((vigilInv_iff s).mp hs).1

theorem vigilInv_vigilVacant : VigilInv s.vigilVacant := by
  obtain ⟨hlast, hwarn, hrelease, hleads, hlever⟩ := watchIn_penaltyOrRest (watchIn_of_inv hs) s.auth.leads
  exact vigilInv_refreshBuzzer (s := { s with
    vigil := { (if s.vigil.state = .penalty then s.vigil else s.vigil.rest) with handle := true } })
    ⟨hlast, hwarn, hrelease, hleads, hlever⟩

/-- The entry to VACANT finds no end that leads; VIGIL rests or stays in PENALTY (R15, R83). -/
theorem vigilInv_leftHeld : VigilInv (leftHeld s) := by
  refine vigilInv_refreshBuzzer ?_
  obtain ⟨hlast, hwarn, hrelease, hleads, hlever⟩ := watchIn_penaltyOrRest (watchIn_of_inv hs) false
  have hcancelled (u : State) : u.cancelAll.vigil = u.vigil := cancelAll_only u .vigil (by decide)
  have hauth (u : State) : u.cancelAll.auth = u.auth := cancelAll_only u .auth (by decide)
  rw [hauth]
  dsimp only
  rw [hcancelled]
  exact ⟨hlast, hwarn, hrelease, hleads, hlever⟩

theorem vigilInv_addSource (k : EmSource) : VigilInv (s.addSource k) := by
  have h := addSource_only k s
  exact vigilInv_of_only h (by decide) (by rw [show (s.addSource k).auth = s.auth from h .auth (by decide)]) hs

theorem vigilInv_removeSource (k : EmSource) : VigilInv (s.removeSource k) := by
  have h := removeSource_only k s
  exact vigilInv_of_only h (by decide) (by rw [show (s.removeSource k).auth = s.auth from h .auth (by decide)]) hs

theorem vigilInv_removeSourceIf (b : Bool) (k : EmSource) : VigilInv (s.removeSourceIf b k) := by
  unfold State.removeSourceIf
  split
  · exact vigilInv_removeSource hs k
  · exact hs

theorem vigilInv_heldSeeded {x : Cab} {c : Claimant} (hlever : leverIn c.lever) : VigilInv (heldSeeded x c s) :=
  vigilInv_refreshBuzzer (watchIn_enterHeld (watchIn_of_inv hs) hlever c.handle)

theorem vigilInv_vigilFrame {f : Attention} (hf : leverIn f.lever) : VigilInv (s.vigilFrame f) :=
  vigilInv_refreshBuzzer (watchIn_attend (watchIn_of_inv hs) hf)

theorem vigilInv_vigilStands : VigilInv s.vigilStands := by
  unfold State.vigilStands
  split
  · exact vigilInv_refreshBuzzer (watchIn_rest (watchIn_of_inv hs).2.2.2.2 _)
  · exact hs

/-- The watch begins under HELD with the demand's lever for its reference (R83). -/
theorem vigilInv_vigilMoves (hdemand : ∀ d ∈ s.shaper.demand, leverIn d.lever) : VigilInv s.vigilMoves := by
  have hlever : leverIn ((s.shaper.demand.map DemandBody.lever).getD 0) := by
    cases hd : s.shaper.demand with
    | none => exact .inr (by decide)
    | some d => exact hdemand d hd
  unfold State.vigilMoves
  split
  next h =>
    obtain ⟨hheld, hidle⟩ := h
    have hleads : s.auth.leads = true := by rw [Auth.leads, hheld, Bool.true_or]
    refine vigilInv_refreshBuzzer ?_
    dsimp only
    rw [hleads]
    exact watchIn_startWatch (watchIn_of_inv hs) hidle hlever
  · exact hs

/-! ### The timers, VIGIL RESET and the claims -/

theorem vigilInv_enterPenalty : VigilInv s.enterPenalty := by
  have hbegun : VigilInv (State.refreshBuzzer
      { s with vigil := { s.vigil with state := .penalty, lastActivity := none, warnStart := none, releaseTime := none } }) :=
    vigilInv_refreshBuzzer ⟨rfl, rfl, nofun, nofun, (watchIn_of_inv hs).2.2.2.2⟩
  exact vigilInv_of_only (raise_only .vigilPenalty _) (by decide) rfl (vigilInv_addSource hbegun .penalty)

theorem vigilInv_warnExpiry : VigilInv s.warnExpiry := by
  unfold State.warnExpiry
  split
  · exact vigilInv_enterPenalty (s := s.reach _) hs
  · exact hs

theorem vigilInv_graceExpiry : VigilInv s.graceExpiry := by
  unfold State.graceExpiry
  split
  · split
    · exact vigilInv_enterPenalty (s := s.reach _) hs
    · exact hs
  · exact hs

theorem vigilInv_activityExpiry : VigilInv s.activityExpiry := by
  unfold State.activityExpiry
  split
  next hst hlast =>
    obtain ⟨-, -, -, hleads, hlever⟩ := watchIn_of_inv hs
    have hwatch : s.vigil.state.watching = true := by rw [hst]; rfl
    refine vigilInv_refreshBuzzer ⟨?_, rfl, fun _ => rfl, fun _ => hleads hwatch, hlever⟩
    change s.vigil.lastActivity.isSome = true
    rw [hlast]
    rfl
  · exact hs

/-- PENALTY has no time and no buzzer request, and so has the IDLE that VIGIL RESET leaves (R94). -/
theorem vigilInv_vigilResetRule (hdemand : ∀ d ∈ s.shaper.demand, leverIn d.lever) : VigilInv s.vigilResetRule.1 := by
  unfold State.vigilResetRule
  split
  · exact hs
  next hpen =>
  have hpen : s.vigil.state = .penalty := not_not.mp hpen
  split
  · exact hs
  split
  · obtain ⟨⟨hlast, hwarn, hrelease, -, hlever⟩, hbuzzer⟩ := (vigilInv_iff s).mp hs
    rw [hpen] at hlast hwarn hrelease
    have href : leverIn ((s.shaper.demand.map DemandBody.lever).getD s.vigil.leverRef) := by
      cases hd : s.shaper.demand with
      | none => exact hlever
      | some d => exact hdemand d hd
    have hidled : watchIn s.auth.leads { s.vigil with
        state := .idle, leverRef := (s.shaper.demand.map DemandBody.lever).getD s.vigil.leverRef } :=
      ⟨hlast, hwarn, hrelease, nofun, href⟩
    have hquiet : s.vigil.buzzer = (decide (VigilState.idle = .warn) || s.vigil.releaseTime.isSome) := by
      rw [hbuzzer, VigilRec.wantsBuzzer, hpen]
      rfl
    exact vigilInv_removeSource ((vigilInv_iff { s with vigil := { s.vigil with
        state := .idle, leverRef := (s.shaper.demand.map DemandBody.lever).getD s.vigil.leverRef } }).mpr ⟨hidled, hquiet⟩) .penalty
  · exact hs

/-- A claim leads no more than the VACANT it comes from. -/
theorem vigilInv_claimOn (p : Port) : VigilInv (s.claimOn p).1 := by
  refine vigilInv_of_only (claimOn_only p s) (by decide) ?_ hs
  unfold State.claimOn
  split
  · unfold State.claimRule
    split
    next hauth =>
      split
      · rw [hauth]
        rfl
      · rfl
    all_goals rfl
  · rfl

end

/-- Levers and output in their ranges, from which VIGIL takes its reference, and the vigilance record in its form. -/
def vigilCore (s : State) : Prop := OutputInv s ∧ VigilInv s

theorem vigilInv_core : CoreKept vigilCore where
  outside {s t} h hs := ⟨outputInv_core.outside h hs.1,
    vigilInv_of_only h (by decide) (by rw [show t.auth = s.auth from h .auth (by decide)]) hs.2⟩
  added hk hs := ⟨outputInv_core.added hk hs.1, vigilInv_addSource hs.2 _⟩
  removed hk hs := ⟨outputInv_core.removed hk hs.1, vigilInv_removeSource hs.2 _⟩
  lapsed hleads hs := ⟨outputInv_core.lapsed hleads hs.1, vigilInv_of_only (endClaim_only _ _) (by decide) hleads.symm hs.2⟩
  left hauth hs := ⟨outputInv_core.left hauth hs.1, vigilInv_leftHeld hs.2⟩
  ended hauth hs := ⟨outputInv_core.ended hauth hs.1,
    vigilInv_removeSource (vigilInv_removeSourceIf (vigilInv_leftHeld hs.2) _ .lever) .authLost⟩
  lost hauth hs := ⟨outputInv_core.lost hauth hs.1,
    vigilInv_addSource (vigilInv_of_only (leftLost_only _ _ _) (by decide) (by rw [hauth]; rfl) hs.2) .authLost⟩
  held hauth hs := ⟨outputInv_core.held hauth hs.1,
    vigilInv_removeSource (vigilInv_heldSeeded hs.2 (hs.1.2.1 _ (by rw [hauth]; rfl))) .startup⟩
  redirected d' hs' ht h hs := ⟨outputInv_core.redirected d' hs' ht h hs.1,
    vigilInv_of_only h (by decide) (by rw [ht, hs']; rfl) hs.2⟩
  written f hauth hs := ⟨outputInv_core.written f hauth hs.1, hs.2⟩
  attended f hauth hf hs := ⟨outputInv_core.attended f hauth hf hs.1, vigilInv_vigilFrame hs.2 hf⟩
  claimed {x n _ s} d f hauth hs := ⟨outputInv_core.claimed d f hauth hs.1,
    vigilInv_of_only (s := s) (t := { s with auth := .claiming x n (some (claimantOf d f s)) }) (w := [.auth])
      (fun a ha => by cases a <;> simp at ha <;> rfl) (by decide) (by rw [hauth]; rfl) hs.2⟩
  stands hs := ⟨outputInv_core.stands hs.1, vigilInv_vigilStands hs.2⟩
  moves hs := ⟨outputInv_core.moves hs.1, vigilInv_vigilMoves hs.2 hs.1.1⟩

theorem vigilInv_reset {s : State} (h : s.vigil = .reset) : VigilInv s := by
  rw [vigilInv_iff, h]
  exact ⟨⟨rfl, rfl, nofun, nofun, .inr (by decide)⟩, rfl⟩

theorem vigilInv_resetKept : ResetKept VigilInv where
  record _ _ _ _ hs := hs
  ended _ _ := vigilInv_reset rfl
  low _ := vigilInv_reset rfl

/-- Every command leaves the vigilance record in its form. -/
theorem exec_vigilInv {i : Instr} {s t : State} (hout : OutputInv s) (hs : VigilInv s) (h : exec i s = .next t) : VigilInv t := by
  have htransitions := vigilInv_core.transitions
  have hcore : vigilCore s := ⟨hout, hs⟩
  have hrule (p : Port) (code : Byte) {rule : State → State × Answer} (hr : vigilCore (rule s).1) :
      VigilInv (s.command p code rule) := (htransitions.command p code hcore hr).2
  have hevent {f : State → State} (hf : vigilCore (f s)) : VigilInv (s.event f) := (htransitions.event hcore hf).2
  have htimer {f : State → State} (hf : VigilInv (f s)) : VigilInv (s.event f) := event_keeps (fun _ h => h) hs fun _ => hf
  cases i with
  | demand p f => cases h; exact hrule p _ (htransitions.demandRule f hcore)
  | deskClaim p => cases h; exact hrule p _ ⟨outputInv_claimOn hout p, vigilInv_claimOn hs p⟩
  | deskRelease p => cases h; exact (htransitions.deskRelease p hcore).2
  | vacate p => cases h; exact hrule p _ (htransitions.vacateRule hcore)
  | vigilReset p => cases h; exact hrule p _ ⟨outputInv_vigilResetRule hout, vigilInv_vigilResetRule hs hout.1⟩
  | keyOff c =>
    cases h
    have hkey : vigilCore (s.keyTo c false) := hcore
    exact (htransitions.line (level := State.keyTo c false) (effect := fun s => (s.keyTo c false).keyGoesOff c) hkey
      (htransitions.keyGoesOff c hkey)).2
  | emstopPress c => cases h; exact (htransitions.emstopPress c hcore).2
  | emstopRelease c => cases h; exact (htransitions.emstopRelease c hcore).2
  | windowEnd => cases h; exact hevent (htransitions.windowEnd hcore)
  | stationReplyGood r => cases h; exact hevent (htransitions.stationReply r hcore)
  | stationMiss m => cases h; exact hevent (htransitions.stationMiss m.station m.cause hcore)
  | claimWindowExpiry => cases h; exact hevent (htransitions.claimExpiry hcore)
  | vigilActivityTimerExpiry => cases h; exact htimer (vigilInv_activityExpiry hs)
  | warnTimerExpiry => cases h; exact htimer (vigilInv_warnExpiry hs)
  | graceTimerExpiry => cases h; exact htimer (vigilInv_graceExpiry hs)
  | coreSupplySample low sel => cases h; exact vigilInv_resetKept.coreSample low sel hs
  | supplyLowReset => cases h; exact vigilInv_resetKept.enterSupplyLow hs
  | powerOnReset lines sel => cases h; exact vigilInv_resetKept.powerOn lines sel
  | resetnRise sel => cases h; exact vigilInv_resetKept.resetRise sel hs
  | _ =>
    have hkept := exec_only h
    exact vigilInv_of_only hkept (by simp [writes]) (congrArg Auth.leads (hkept .auth (by simp [writes]))) hs

/-- Settles O60: each record by the commands that write it, VIGIL together with the levers it takes its reference from. -/
theorem stepKeepsLinkVigilanceSettings : Obligations.StepKeepsLinkVigilanceSettings := by
  unfold Obligations.StepKeepsLinkVigilanceSettings
  refine ⟨fun s t hs h => ?_, fun s t hs h => ?_⟩
  · obtain ht | ⟨i, u, hu, hexec⟩ := step_cases hs h
    · obtain ⟨-, -, -, -, htlink, hvigil, -⟩ := ht
      exact ⟨htlink, hvigil⟩
    · obtain ⟨-, -, hout, -, htlink, hvigil, -⟩ := hu
      exact ⟨exec_tlinkInv htlink hexec, exec_vigilInv hout hvigil hexec⟩
  · obtain ht | ⟨i, u, hu, hexec⟩ := step_cases hs h
    · obtain ⟨-, -, -, -, -, -, -, -, -, -, hsettings, hsupply⟩ := ht
      exact ⟨hsettings, hsupply⟩
    · obtain ⟨-, -, -, -, -, -, -, -, -, -, hsettings, hsupply⟩ := hu
      exact ⟨exec_settingsInv hsettings hexec, exec_supplyInv hsupply hexec⟩

end Sys2Proof.Proofs
end
